-- ==== Sys2Proof/Word.lean ====
section
/-! DEFINITION. The words of the part: bytes of the two links, ring positions, cells, and the small index types.
Slew arithmetic is modulo 2 to the power 24 and cell arithmetic modulo 256 (00_scope, R1), so both are bit vectors;
tilts, speeds, masses and powers do not wrap and are natural numbers. -/

namespace Sys2Proof

/-- One byte of either serial link. -/
abbrev Byte := BitVec 8
/-- A slew position, 0 to 16 777 215 ring units, which wraps (R1). -/
abbrev Slew := BitVec 24
/-- A cell of the ring, 0 to 255, which wraps (R1). -/
abbrev Cell := BitVec 8
/-- A tier number, 0 to 11. -/
abbrev Tier := Fin 12
/-- A TRIP input, 0 to 5. -/
abbrev Input := Fin 6
/-- A set of tiers: bit n stands for tier n. -/
abbrev TierSet := BitVec 12
/-- A set of fault kinds in the bit order of the site record's mask set: bits 0 to 7 the tier kinds,
8 to 10 the device kinds, 11 FAILSAFE. -/
abbrev KindSet := BitVec 12

/-- The exact quotient rounded up (00_scope, Rounding). -/
def ceilDiv (a b : Nat) : Nat := (a + b - 1) / b

end Sys2Proof
end

