-- ==== Sys2Proof/Syntax.lean ====
section
/-! DEFINITION. The commands of the block: one constructor of `Instr` for each row of spec/opcode_table.json, and
`Request`, the same requests as the command link's frames carry them (the request catalogue of chapter 11). -/

namespace Sys2Proof

/-- The fields of a MOVE or GANG-MOVE body after the tiers: optional targets, flags and the direction code. -/
structure MoveArgs where
  slew : Option Slew
  tilt : Option Nat
  auto : Bool
  maint : Bool
  dir : Byte
  deriving DecidableEq, Repr

/-- The content of a set waypoint as ROUTE-PUT carries it; the direction is its two-bit code. -/
structure WaypointMsg where
  dir : BitVec 2
  slew : Slew
  tilt : Nat
  deriving DecidableEq, Repr

/-- The 32-byte profile record (R10); speeds and accelerations are per setpoint interval. -/
structure ProfileData where
  tare : Nat
  vacancyLimit : Nat
  extL : Vector Nat 4
  extR : Vector Nat 4
  slewMax : Nat
  slewAcc : Nat
  tiltSpeed : Nat
  tiltAcc : Nat
  tiltMax : Nat
  hold : Nat
  slewFollow : Nat
  tiltFollow : Nat
  releaseTimeout : Nat
  secureTimeout : Nat
  settleTime : Nat
  loadScale : Nat
  testTorque : Nat
  testDuration : Nat
  slipLimit : Nat
  deriving DecidableEq, Repr

/-- The 11-byte site record as SITE-SET carries it. -/
structure SiteMsg where
  installed : BitVec 16
  watchdog : Byte
  creep : Byte
  budget : Nat
  showLock : BitVec 16
  boundary : Byte
  masks : BitVec 16
  deriving DecidableEq, Repr

/-- The 6-byte zone record as ZONE-PUT carries it. -/
structure ZoneMsg where
  enable : Bool
  noStop : Bool
  base : Cell
  mask : Byte
  classes : Byte
  mode : Byte
  trip : Byte
  deriving DecidableEq, Repr

/-- One tier entry of a layout record (R117); `dir` is the two-bit direction code. -/
structure LayoutEntry where
  present : Bool
  dir : BitVec 2
  slew : Slew
  tilt : Nat
  rank : Byte
  deriving DecidableEq, Repr

/-- The 101-byte layout record (R117). -/
structure Layout where
  name : Vector Byte 16
  endSecure : Bool
  entries : Vector LayoutEntry 12
  deriving DecidableEq, Repr

/-- A request of the request catalogue (chapter 11), its body fields as the frame carries them. -/
inductive Request where
  | release (tier : Byte)
  | secure (tier : Byte)
  | secureAll
  | move (tier : Byte) (args : MoveArgs)
  | gangMove (count t0 t1 t2 t3 : Byte) (args : MoveArgs)
  | halt (tier : Byte)
  | haltAll
  | pause (tier : Byte)
  | resume (tier : Byte)
  | route (tier start run : Byte) (auto maint : Bool)
  | routePut (tier waypoint : Byte) (content : Option WaypointMsg)
  | convert (slot : Byte)
  | convertAbort
  | setBudget (budget : Nat)
  | sampleLoad (tier : Byte)
  | brakeTest (tier : Byte)
  | forceFailsafe
  | clearFailsafe
  | clearFaults (tier : Byte)
  | clearFaultsAll
  | showLock (tiers : BitVec 16)
  | releaseShow (tiers : BitVec 16)
  | lock (group : Byte)
  | unlock (group : Byte)
  | siteSet (site : SiteMsg)
  | profilePut (tier : Byte) (profile : ProfileData)
  | profileGet (tier : Byte)
  | zonePut (zone : Byte) (record : ZoneMsg)
  | zoneGet (zone : Byte)
  | saveSettings
  | layoutErase (slot : Byte)
  | layoutWrite (slot : Byte) (layout : Layout)
  | layoutRead (slot : Byte)
  | protectLayouts (n : Byte)
  | queryStatus
  | queryTier (tier : Byte)
  | queryMap (first count : Byte)
  | queryQueue
  | queryGrants
  | restart
  deriving DecidableEq, Repr

/-- The commands the block takes, one for each row of spec/opcode_table.json. A request row carries the TAG of its
frame and the fields of its body; an event row carries what the outside decides (which tier's timer, which input,
what the converter read, what the read-back found). -/
inductive Instr where
  | powerOn
  | resetLineLow
  | resetLineRisingEdge
  | startupComplete
  | restartStartup
  | validFrame (bytes : List Byte)
  | commandLinkGapTimeout
  | replySent
  | reportSent
  | release (tag tier : Byte)
  | secure (tag tier : Byte)
  | secureAll (tag : Byte)
  | move (tag tier : Byte) (args : MoveArgs)
  | gangMove (tag count t0 t1 t2 t3 : Byte) (args : MoveArgs)
  | halt (tag tier : Byte)
  | haltAll (tag : Byte)
  | pause (tag tier : Byte)
  | resume (tag tier : Byte)
  | route (tag tier start run : Byte) (auto maint : Bool)
  | routePut (tag tier waypoint : Byte) (content : Option WaypointMsg)
  | convert (tag slot : Byte)
  | convertAbort (tag : Byte)
  | setBudget (tag : Byte) (budget : Nat)
  | sampleLoad (tag tier : Byte)
  | brakeTest (tag tier : Byte)
  | forceFailsafe (tag : Byte)
  | clearFailsafe (tag : Byte)
  | clearFaults (tag tier : Byte)
  | clearFaultsAll (tag : Byte)
  | showLock (tag : Byte) (tiers : BitVec 16)
  | releaseShow (tag : Byte) (tiers : BitVec 16)
  | lock (tag group : Byte)
  | unlock (tag group : Byte)
  | siteSet (tag : Byte) (site : SiteMsg)
  | profilePut (tag tier : Byte) (profile : ProfileData)
  | profileGet (tag tier : Byte)
  | zonePut (tag zone : Byte) (record : ZoneMsg)
  | zoneGet (tag zone : Byte)
  | saveSettings (tag : Byte)
  | layoutErase (tag slot : Byte)
  | layoutWrite (tag slot : Byte) (layout : Layout)
  | layoutRead (tag slot : Byte)
  | protectLayouts (tag n : Byte)
  | queryStatus (tag : Byte)
  | queryTier (tag tier : Byte)
  | queryMap (tag first count : Byte)
  | queryQueue (tag : Byte)
  | queryGrants (tag : Byte)
  | restart (tag : Byte)
  | setpointInterval (tier : Tier)
  | setpointRecordSent
  | feedbackRecord (bytes : List Byte)
  | feedbackGapTimeout
  | feedbackTimerExpiry (tier : Tier)
  | releaseWaitExpiry (tier : Tier)
  | secureWaitExpiry (tier : Tier)
  | watchExpiry (tier : Tier)
  | settleTimerExpiry (tier : Tier)
  | testTimerExpiry (tier : Tier)
  | tripActiveEdge (input : Input)
  | tripApplication (input : Input)
  | tripInactiveEdge (input : Input)
  | keyChange (high : Bool)
  | admissionScan
  | loadConversionComplete (counts : BitVec 12)
  | freshnessTimerExpiry (tier : Tier)
  | storeOperationComplete (failed : BitVec 3)
  | watchdogExpiry
  | lossOfPower
  | commandLinkStopBitError
  | lengthByteAbove248
  | driveLinkStopBitError
  deriving DecidableEq, Repr

end Sys2Proof
end

