-- ==== Sys2Proof/Decode.lean ====
section
/-! DEFINITION. The opcode table gives its commands no bits: they are events and framed requests, not words. The frames of
the requests are decoded in Machine/Operands.lean (`parseFrame`), byte by byte as Machine/Link.lean receives them (log 38). -/

namespace Sys2Proof

/-- The command that a word spells by the table's bits: no row of the table has bits, so no word spells one. -/
def decodeTableWord (_nbits _w : Nat) : Option Instr := none

end Sys2Proof
end

