-- ==== Sys2Proof/Config.lean ====
section
/-! DEFINITION. The free values: constants with no body for what the manual leaves open. No proof can see what
one of them is, so a claim that mentions one holds whatever it is. -/

namespace Sys2Proof

/-- What an interrupted store write leaves in a section or slot: the old contents, the new ones, or contents that
fail their check value (R186 says only that the check value tells). -/
inductive Unfinished where
  | old
  | new
  | bad
  deriving DecidableEq, Repr, Inhabited

/-- R129: whether the conversion's abort reaches the CU before the fail-safe flush removes the entries (log 14; safe). -/
opaque Config.abortBeforeFlush : Nat → Bool

/-- R186: what a store operation that RESET or a loss of power ends leaves behind (log 12; safe). -/
opaque Config.unfinished : Nat → Unfinished

/-- R186: whether a section that failed its verify passes its check value when it is next read (log 13; safe). -/
opaque Config.failedSectionReadable : Nat → Bool

/-- R189: the byte that names a slot's condition in a LAYOUT-READ reply (`true` for BAD; log 22; safe). -/
opaque Config.slotConditionByte : Bool → Byte

/-- R183: the byte that gives the level of the FAULT line (`true` while asserted; log 22; safe). -/
opaque Config.faultLineByte : Bool → Byte

/-- R183: the cause byte of QUERY-STATUS while fail-safe is INACTIVE (log 22; safe). -/
opaque Config.inactiveCauseByte : Byte

/-- CAh: the slot byte of a STORE-DONE report for SAVE-SETTINGS, which names no slot (log 22; safe). -/
opaque Config.noSlotByte : Byte

/-- CAh, R186: the failed-sections byte of a STORE-DONE report for LAYOUT-ERASE and LAYOUT-WRITE, which write no section
(log 22; safe). -/
opaque Config.slotSectionsByte : Byte

/-- R118, R183: the end-secure byte of the conversion record while it is IDLE and copies no layout (log 22; safe). -/
opaque Config.idleEndSecureByte : Byte

/-- R77, R161: what the three progress bytes of QUERY-TIER carry for a progress that is counted beyond 16 777 215 (log 22;
safe). -/
opaque Config.longProgress : Nat → BitVec 24

/-- R99, R115: what the two cap bytes of QUERY-GRANTS and of a BUDGET report carry for a cap above 65 535 (log 22, log 44;
safe). -/
opaque Config.longCap : Nat → BitVec 16

/-- R15, R161: the state byte of a QUERY-TIER reply for a tier that is not installed and so has no state (log 22, log 33;
safe). -/
opaque Config.uninstalledStateByte : Byte

end Sys2Proof
end

