-- ==== Sys2Proof/Machine/State.lean ====
section
/-! DEFINITION. The state of the part: the state of each of its ten functional blocks (00_scope, Functional blocks),
its pins, the contents of the non-volatile store, and the queue of waiting commands. Plain data throughout. -/

namespace Sys2Proof.Machine

/-! ### Names the manual uses -/

/-- The direction of a slew motion (R6). -/
inductive Dir where
  | cw
  | ccw
  deriving DecidableEq, Repr

/-- The direction a request names (R6). -/
inductive DirArg where
  | cw
  | ccw
  | short
  deriving DecidableEq, Repr

/-- The class of a motion. -/
inductive MClass where
  | convert
  | maint
  deriving DecidableEq, Repr

/-- Who asked for an entry or a move (R96). -/
inductive Origin where
  | link
  | conversion
  | route
  deriving DecidableEq, Repr

/-- The kind of a queue entry (R96). -/
inductive EntryKind where
  | move
  | gangMove
  | test
  | leg
  deriving DecidableEq, Repr

/-- The ten tier states (R18). -/
inductive TierState where
  | unsynced
  | secured
  | releasing
  | ready
  | moving
  | paused
  | settling
  | securing
  | testing
  | faulted
  deriving DecidableEq, Repr

/-- The reasons of a MOVE-END report (R32). -/
inductive MoveReason where
  | atTarget
  | halted
  | barrier
  | fault
  | failsafe
  | budget
  | showStop
  deriving DecidableEq, Repr

/-- The status codes, and the further codes of causes and reasons (chapter 11, Status codes). -/
inductive Code where
  | ok
  | queued
  | busy
  | state
  | range
  | locked
  | once
  | key
  | showLocked
  | failsafe
  | occupied
  | zone
  | claim
  | reverse
  | short
  | blank
  | notErased
  | protectedSlot
  | profile
  | brake
  | active
  | full
  | unknown
  | length
  | noTier
  | load
  | cancelled
  | fault
  | complete
  | halted
  | barrier
  | budget
  deriving DecidableEq, Repr

/-- The eight tier fault kinds (R162), in the bit order of the mask set. -/
inductive FaultKind where
  | driveTrip
  | encoderOpen
  | motorShort
  | overtemp
  | followError
  | linkLost
  | brakeStuck
  | mapConflict
  deriving DecidableEq, Repr

/-- The three device fault kinds (R167). -/
inductive DeviceFault where
  | configProfiles
  | configZones
  | store
  deriving DecidableEq, Repr

/-! ### Tiers -/

/-- A slew position and a tilt. -/
structure Pos where
  slew : Slew
  tilt : Nat
  deriving DecidableEq, Repr

/-- How a running move is being brought to rest (R18). -/
inductive StopReq where
  | none
  | halt (reason : MoveReason)
  | pause
  | quick
  deriving DecidableEq, Repr

/-- The brake timer, with the timeout it was set to (× 10 ms) when it started (R22 to R24). DESIGN CHOICE (log 4): a timer
keeps that it runs and its period, and the command of its expiry says when it runs out; unsafe. -/
inductive BrakeTimer where
  | stopped
  | releaseWait (timeout : Nat)
  | secureWait (timeout : Nat)
  | watch (timeout : Nat)
  deriving DecidableEq, Repr

/-- The slew generator record (R77). -/
structure SlewGen where
  speed : Nat
  rem : Nat
  latch : Bool
  finished : Bool
  progress : Nat
  creep : Bool
  deriving DecidableEq, Repr

/-- The direction of a tilt motion (R77). -/
inductive TiltDir where
  | none
  | up
  | down
  deriving DecidableEq, Repr

/-- The tilt generator record (R77). -/
structure TiltGen where
  dir : TiltDir
  speed : Nat
  rem : Nat
  latch : Bool
  finished : Bool
  deriving DecidableEq, Repr

/-- The move record (R18). Every member of a gang holds a copy; `members` are the tiers other than the leader
(DESIGN CHOICE, log 16; safe). -/
structure MoveRec where
  leader : Tier
  members : List Tier
  cls : MClass
  origin : Origin
  targetSlew : Slew
  dir : Dir
  targetTilt : Nat
  band : Fin 4
  auto : Bool
  slew : SlewGen
  tilt : TiltGen
  deriving DecidableEq, Repr

/-- What the fault record keeps of the first fault (R163). -/
structure FirstFault where
  kind : FaultKind
  met : TierState
  pos : Pos
  deriving DecidableEq, Repr

/-- The fault record (R163): the latched set, and the first fault while the set is not empty. -/
structure FaultRec where
  latched : KindSet
  first : Option FirstFault
  deriving DecidableEq, Repr

/-- A set waypoint of a route table (R130). -/
structure Waypoint where
  slew : Slew
  tilt : Nat
  dir : DirArg
  deriving DecidableEq, Repr

/-- The run of a route walk (R131). -/
inductive Run where
  | one
  | two
  | four
  | eight
  | cont
  deriving DecidableEq, Repr

/-- The walk record (R131); `ending` is the ending reason HALTED, and `lastWp` the waypoint of the last leg completed
that the ROUTE-END report names (R136). -/
structure WalkRec where
  active : Bool
  start : Fin 8
  run : Run
  cls : MClass
  auto : Bool
  leg : Nat
  completed : Nat
  ending : Bool
  lastWp : Option (Fin 8)
  deriving DecidableEq, Repr

/-- The result of a brake test (R150). -/
inductive TestResult where
  | pass
  | fail
  | aborted
  deriving DecidableEq, Repr

/-- The test record (R146, R150). -/
structure TestRec where
  torque : Nat
  duration : Nat
  slipLimit : Nat
  lastSlip : Option Nat
  result : Option TestResult
  deriving DecidableEq, Repr

/-- The tier record (R18), with the test record of R146 and, for a gang's quick stop, whether the tier has shown
standstill since the stop was taken (R40). -/
structure TierRec where
  state : TierState
  cmd : Option Pos
  act : Option Pos
  move : Option MoveRec
  stop : StopReq
  securePending : Bool
  brakeTimer : BrakeTimer
  settleTimer : Option Nat
  testTimer : Option Nat
  fault : FaultRec
  route : Vector (Option Waypoint) 8
  walk : WalkRec
  loadRange : Bool
  brakeWeak : Bool
  test : Option TestRec
  stoodStill : Bool
  deriving DecidableEq, Repr

/-! ### Floor Map -/

/-- A cell entry (R43): FREE, or HELD or CLAIMED by one tier. -/
inductive CellState where
  | free
  | held (owner : Tier)
  | claimed (owner : Tier)
  deriving DecidableEq, Repr

/-- The claim record (R48, R61). -/
structure ClaimRec where
  dir : Dir
  p0 : Slew
  offset : Nat
  lm : Nat
  rm : Nat
  origin : Cell
  release : Nat
  finish : Nat
  deriving DecidableEq, Repr

/-- The Floor Map: 256 cell entries, and the claim record of each tier that owns a claim arc. A gang's record is held
for each of its members. -/
structure Floor where
  cells : Vector CellState 256
  claims : Vector (Option ClaimRec) 12
  deriving DecidableEq, Repr

/-! ### Zone Unit -/

/-- The classes a zone applies to (R64). -/
inductive ZoneClasses where
  | convert
  | maint
  | both
  deriving DecidableEq, Repr

/-- The stored effect of a zone (R64). -/
inductive ZoneMode where
  | creep
  | bar
  | lowered
  deriving DecidableEq, Repr

/-- A zone record (R64). -/
structure ZoneRec where
  enable : Bool
  base : Cell
  mask : Byte
  classes : ZoneClasses
  mode : ZoneMode
  noStop : Bool
  trip : Option Input
  deriving DecidableEq, Repr

/-- What the FM and the CLP still owe the trip inputs, oldest first: a trip application not yet taken by the FM, or the
TRIP report of an inactive edge that must follow the report of such an application (R72; DESIGN CHOICE, log 7; safe). -/
inductive TripItem where
  | application (input : Input)
  | inactiveReport (input : Input)
  deriving DecidableEq, Repr

/-- The Zone Unit (R64, R70). -/
structure ZoneUnit where
  zones : Vector ZoneRec 6
  valid : Bool
  levels : Vector Bool 6
  due : List TripItem
  deriving DecidableEq, Repr

/-! ### Admission Arbiter -/

/-- The sample state of a queue entry (R96). -/
inductive SampleState where
  | none
  | pending
  | done
  deriving DecidableEq, Repr

/-- An admission queue entry (R96); `members` are the gang members other than the leader. -/
structure Entry where
  kind : EntryKind
  tier : Tier
  members : List Tier
  cls : Option MClass
  targetSlew : Option Slew
  dir : Option Dir
  targetTilt : Option Nat
  auto : Bool
  origin : Origin
  bypass : Nat
  sample : SampleState
  deriving DecidableEq, Repr

/-- A grant (R99). -/
structure Grant where
  kind : EntryKind
  leader : Tier
  members : List Tier
  cls : Option MClass
  alloc : Nat
  cap : Option Nat
  derated : Bool
  deriving DecidableEq, Repr

/-- The Admission Arbiter: budget, queue (oldest first), grant list (oldest first), and how many scan triggers of R101
have reached it that no scan has answered yet (DESIGN CHOICE, log 6; unsafe). -/
structure Arbiter where
  budget : Nat
  queue : List Entry
  grants : List Grant
  scansDue : Nat
  deriving DecidableEq, Repr

/-! ### Conversion Unit -/

/-- The state of the conversion record (R118). -/
inductive ConvState where
  | idle
  | running
  | stalled
  | aborting
  | done
  | aborted
  deriving DecidableEq, Repr

/-- The status of a tier in the conversion (R118); `out` is a tier that is not in it. -/
inductive ConvStatus where
  | out
  | waiting
  | moving
  | done
  | dropped
  deriving DecidableEq, Repr

/-- The entry state of a WAITING tier (R118). -/
inductive ConvEntry where
  | none
  | queued
  | pending
  deriving DecidableEq, Repr

/-- What the conversion record holds for one tier (R118). -/
structure ConvTier where
  status : ConvStatus
  entry : ConvEntry
  releaseWanted : Bool
  deriving DecidableEq, Repr

/-- The conversion record (R118); the running copy holds the name and the end-secure flag. -/
structure Conv where
  state : ConvState
  slot : Option (Fin 16)
  layout : Option Layout
  total : Nat
  done : Nat
  dropped : Nat
  tiers : Vector ConvTier 12
  deriving DecidableEq, Repr

/-! ### Load Converter -/

/-- A sample record (R137). A sample is fresh exactly while its freshness timer runs (R141), so one flag holds both. -/
inductive Sample where
  | none
  | valid (counts load : Nat) (fresh : Bool)
  | outOfRange (counts : Nat)
  deriving DecidableEq, Repr

/-- A channel in conversion or pending, with its requester marks (R138). -/
structure Channel where
  tier : Tier
  link : Bool
  arbiter : Bool
  deriving DecidableEq, Repr

/-- The Load Converter (R137 to R139). -/
structure LoadUnit where
  samples : Vector Sample 12
  converter : Option Channel
  fifo : List Channel
  deriving DecidableEq, Repr

/-! ### Drive Link Port -/

/-- The mode of a setpoint record (R152). -/
inductive Mode where
  | normal
  | quickStop
  | test
  | sync
  deriving DecidableEq, Repr

/-- The brake state a drive reports. -/
inductive Brake where
  | set
  | released
  | between
  deriving DecidableEq, Repr

/-- A setpoint record as the TAC hands it over (R152); its parity is assigned when it is sent. -/
structure SetpointRecord where
  tier : Tier
  slew : Slew
  tilt : Nat
  release : Bool
  mode : Mode
  torque : Nat
  deriving DecidableEq, Repr

/-- A feedback record (chapter 11, Drive-link records); parity `true` is ODD. -/
structure Feedback where
  tier : Tier
  parity : Bool
  slew : Slew
  tilt : Nat
  brake : Brake
  standstill : Bool
  faults : BitVec 4
  slip : Nat
  deriving DecidableEq, Repr

/-- What the link record keeps of the latest record sent (R154). -/
structure SentRecord where
  slew : Slew
  tilt : Nat
  mode : Mode
  deriving DecidableEq, Repr

/-- The link record of a tier (R154); parity `true` is ODD. -/
structure LinkRec where
  nextParity : Bool
  latestSent : Option Bool
  latestRec : Option SentRecord
  answered : Bool
  timer : Bool
  lost : Bool
  reported : BitVec 4
  last : Option Feedback
  stale : Nat
  deriving DecidableEq, Repr

/-- The receive framer of the drive link (R153): hunting, or the bytes of the record being assembled, start byte left
out. -/
inductive DriveFramer where
  | hunting
  | record (bytes : List Byte)
  deriving DecidableEq, Repr

/-- The Drive Link Port (R153, R154); the head of the transmit list is the record on the line. -/
structure DrivePort where
  framer : DriveFramer
  txList : List SetpointRecord
  links : Vector LinkRec 12
  deriving DecidableEq, Repr

/-! ### Fault Supervisor -/

/-- The cause of fail-safe (R171). -/
inductive Cause where
  | watchdog
  | forced
  deriving DecidableEq, Repr

/-- The watchdog setting of the site record (R169). -/
inductive WatchdogSetting where
  | off
  | timed (ms : Nat)
  | immediate
  deriving DecidableEq, Repr

/-- The watchdog timer (R169); a running timer keeps the period it was started with. -/
inductive WatchdogTimer where
  | notStarted
  | running (ms : Nat)
  | expired
  deriving DecidableEq, Repr

/-- The Fault Supervisor (R167 to R176). -/
structure Supervisor where
  device : KindSet
  failsafe : Option Cause
  watchdog : WatchdogTimer
  showLock : TierSet
  profilesLocked : Bool
  zonesLocked : Bool
  layoutsLocked : Bool
  key : Bool
  deriving DecidableEq, Repr

/-! ### Settings -/

/-- A profile: its valid flag and the record (R10). -/
structure Profile where
  valid : Bool
  data : ProfileData
  deriving DecidableEq, Repr

/-- The site record (R184). -/
structure Site where
  installed : TierSet
  watchdog : WatchdogSetting
  creep : Nat
  budget : Nat
  showLock : TierSet
  boundary : Nat
  masks : KindSet
  deriving DecidableEq, Repr

/-- A layout slot (R188). -/
inductive Slot where
  | blank
  | written (layout : Layout)
  | bad
  deriving DecidableEq, Repr

/-- The stored sections and slots; `none` is a section that cannot be read or fails its check value. -/
structure Store where
  site : Option Site
  profiles : Option (Vector Profile 12)
  zones : Option (Vector ZoneRec 6)
  slots : Vector Slot 16
  deriving DecidableEq, Repr

/-- A running store operation with what it is writing (R186, R187); the zone section of a save is `none` when it is
written with a check value that does not match it. -/
inductive StoreOp where
  | save (site : Site) (profiles : Vector Profile 12) (zones : Option (Vector ZoneRec 6))
  | erase (slot : Fin 16)
  | write (slot : Fin 16) (layout : Layout)
  deriving DecidableEq, Repr

/-- The Settings Store (R186, R190). -/
structure Nvs where
  store : Store
  op : Option StoreOp
  boundary : Nat
  deriving DecidableEq, Repr

/-! ### Command Link Port -/

/-- The receive framer of the command link (R177), with the bytes taken so far. -/
inductive Framer where
  | hunt
  | length
  | tag (len : Byte)
  | kind (len tag : Byte)
  | body (len tag kind : Byte) (got : List Byte)
  | checkHigh (len tag kind : Byte) (got : List Byte)
  | checkLow (len tag kind : Byte) (got : List Byte) (high : Byte)
  deriving DecidableEq, Repr

/-- A frame without its start byte, length and check value. -/
structure Frame where
  tag : Byte
  kind : Byte
  body : List Byte
  deriving DecidableEq, Repr

/-- A reply (R180): its TAG and KIND, its status code, and the data that follows the status byte. -/
structure Reply where
  tag : Byte
  kind : Byte
  status : Code
  data : List Byte
  deriving DecidableEq, Repr

/-- The event of a CONVERSION report (R125). -/
inductive ConvEvent where
  | done
  | stalled
  | running
  | aborted
  | tierDropped
  deriving DecidableEq, Repr

/-- The verdict of a LOAD report (R142). -/
inductive Verdict where
  | vacant
  | occupied
  | outOfRange
  deriving DecidableEq, Repr

/-- The operation a STORE-DONE report names (R186). -/
inductive StoreKind where
  | save
  | erase (slot : Fin 16)
  | write (slot : Fin 16)
  deriving DecidableEq, Repr

/-- The thirteen reports (chapter 11, Reports); FAULT has one form for a tier's fault raised, one for a tier cleared and
one for the device. -/
inductive Report where
  | tierState (tier : Tier) (state : TierState)
  | moveEnd (tier : Tier) (leader : Option Tier) (reason : MoveReason) (pos : Pos)
  | admitted (leader : Tier) (members : List Tier) (kind : EntryKind) (origin : Origin) (cap : Option Nat)
      (alloc : Nat) (derated : Bool)
  | requestDropped (leader : Tier) (members : List Tier) (kind : EntryKind) (origin : Origin) (cause : Code)
  | conversion (slot : Option (Fin 16)) (event : ConvEvent) (done dropped total : Nat) (who : Option (Tier × Code))
  | faultRaised (tier : Tier) (kind : FaultKind) (met : TierState) (pos : Pos)
  | faultCleared (tier : Tier) (kinds : KindSet)
  | device (raised : Bool) (kind : DeviceFault)
  | failsafe (entered : Bool) (cause : Cause)
  | trip (input : Input) (active : Bool) (stopped : List Tier)
  | load (tier : Tier) (counts : Nat) (load : Option Nat) (verdict : Verdict)
  | brakeTest (tier : Tier) (result : TestResult) (slip : Option Nat) (limit : Nat) (weak : Bool)
  | storeDone (op : StoreKind) (failed : Bool) (sections : BitVec 3)
  | budget (leader : Tier) (cap alloc : Nat) (derated : Bool)
  | routeEnd (tier : Tier) (reason : Code) (completed : Nat) (last : Option (Fin 8))
  deriving DecidableEq, Repr

/-- What the command-link transmitter is sending: nothing, the oldest reply, or the oldest report (R181). -/
inductive LinkTx where
  | idle
  | reply
  | report
  deriving DecidableEq, Repr

/-- The course of a RESTART (R192): none taken, taken and waiting for its reply to be sent, or its reply sent
and its start-up not yet begun (DESIGN CHOICE, log 10; unsafe). -/
inductive Restart where
  | none
  | waiting
  | due
  deriving DecidableEq, Repr

/-- The Command Link Port (R177 to R182). -/
structure LinkPort where
  framer : Framer
  hold : List Frame
  rxOverrun : Bool
  replies : List Reply
  tx : LinkTx
  reports : List Report
  reportOverrun : Bool
  restart : Restart
  deriving DecidableEq, Repr

/-! ### The part -/

/-- Where the part stands: without power, held by a low RESET line, in the 25 ms of start-up, or running. -/
inductive Phase where
  | off
  | held
  | startUp
  | running
  deriving DecidableEq, Repr

/-- The levels at the discrete input pins. -/
structure Pins where
  resetLow : Bool
  key : Bool
  trips : Vector Bool 6
  deriving DecidableEq, Repr

/-- The state of the part. `freeCount` is the model's own: it numbers the free values a step has used
(DESIGN CHOICE, log 35; safe).
`pending` is the queue of commands that wait for the block, oldest first. -/
structure State where
  phase : Phase
  pins : Pins
  clp : LinkPort
  tiers : Vector TierRec 12
  fm : Floor
  zu : ZoneUnit
  aa : Arbiter
  cu : Conv
  lc : LoadUnit
  dlp : DrivePort
  fsu : Supervisor
  nvs : Nvs
  site : Site
  siteLoaded : Bool
  siteSetTaken : Bool
  profiles : Vector Profile 12
  freeCount : Nat
  pending : List Instr
  deriving DecidableEq, Repr

/-- Why a step could stop with a fault. There is no such reason: every command of the table has an effect or, by the
rule that governs it, none, so no meaning raises a fault (log 37; safe: nothing is cut short). -/
inductive Fault where
  deriving DecidableEq, Repr

/-- Why a command could be refused. -/
inductive Refusal where
  /-- Raised only by an arm of exec whose command has no meaning yet; no arm does so (safe). -/
  | notModelled (mnemonic : String)
  deriving DecidableEq, Repr

/-! ### Reset values -/

/-- The default profile record (R10). -/
def ProfileData.default : ProfileData where
  tare := 100
  vacancyLimit := 0
  extL := Vector.replicate 4 15
  extR := Vector.replicate 4 15
  slewMax := 1
  slewAcc := 1
  tiltSpeed := 1
  tiltAcc := 1
  tiltMax := 32767
  hold := 0
  slewFollow := 65535
  tiltFollow := 4095
  releaseTimeout := 255
  secureTimeout := 255
  settleTime := 0
  loadScale := 64
  testTorque := 10
  testDuration := 10
  slipLimit := 0

/-- The default profile table: every record the default one, with its valid flag off (R10). -/
def Profile.defaults : Vector Profile 12 := Vector.replicate 12 ⟨false, ProfileData.default⟩

/-- The default zone record that names input n (R64). -/
def ZoneRec.default (n : Input) : ZoneRec where
  enable := false
  base := 0
  mask := 255
  classes := .both
  mode := .bar
  noStop := false
  trip := some n

/-- The default zone table (R64). -/
def ZoneRec.defaults : Vector ZoneRec 6 :=
  #v[ZoneRec.default 0, ZoneRec.default 1, ZoneRec.default 2, ZoneRec.default 3, ZoneRec.default 4, ZoneRec.default 5]

/-- The defaults of an unreadable site record (R191, step 2). -/
def Site.default : Site where
  installed := 0
  watchdog := .off
  creep := 16
  budget := 0
  showLock := 0
  boundary := 0
  masks := 0

/-- The walk record after each kind of reset (R131). DESIGN CHOICE (log 36): the start waypoint, run, class and auto-secure
flag of an inactive record; unsafe. -/
def WalkRec.reset : WalkRec := ⟨false, 0, .one, .convert, false, 0, 0, false, none⟩

/-- The tier record after a reset (R18), with the brake-weak restriction given. -/
def TierRec.reset (weak : Bool) : TierRec where
  state := .unsynced
  cmd := none
  act := none
  move := none
  stop := .none
  securePending := false
  brakeTimer := .stopped
  settleTimer := none
  testTimer := none
  fault := ⟨0, none⟩
  route := Vector.replicate 8 none
  walk := WalkRec.reset
  loadRange := false
  brakeWeak := weak
  test := none
  stoodStill := false

/-- The link record after reset or installation (R154). -/
def LinkRec.reset : LinkRec := ⟨false, none, none, false, false, false, 0, none, 0⟩

/-- The CLP after each kind of reset (R179 to R182, R191). -/
def LinkPort.reset : LinkPort := ⟨.hunt, [], false, [], .idle, [], false, .none⟩

/-- The conversion record after each kind of reset (R118). -/
def Conv.reset : Conv := ⟨.idle, none, none, 0, 0, 0, Vector.replicate 12 ⟨.out, .none, false⟩⟩

/-- A store nothing has been written to: no section can be read and every slot is blank. DESIGN CHOICE (log 2): the
manual gives no factory contents; unsafe. -/
def Store.blank : Store := ⟨none, none, none, Vector.replicate 16 .blank⟩

/-- The machine right after reset: power has just been applied with all inputs low, every block has its reset values
(R191, step 1), the NVS has found a blank store, so the defaults are loaded and both CONFIG faults are set, and start-up
has not completed. DESIGN CHOICE (log 1, log 2): the manual does not say what is stored; unsafe. -/
def State.reset : State where
  phase := .startUp
  pins := ⟨false, false, Vector.replicate 6 false⟩
  clp := LinkPort.reset
  tiers := Vector.replicate 12 (TierRec.reset false)
  fm := ⟨Vector.replicate 256 .free, Vector.replicate 12 none⟩
  zu := ⟨ZoneRec.defaults, false, Vector.replicate 6 false, []⟩
  aa := ⟨0, [], [], 0⟩
  cu := Conv.reset
  lc := ⟨Vector.replicate 12 .none, none, []⟩
  dlp := ⟨.hunting, [], Vector.replicate 12 LinkRec.reset⟩
  fsu := ⟨0x300#12, none, .notStarted, 0, true, true, true, false⟩
  nvs := ⟨Store.blank, none, 0⟩
  site := Site.default
  siteLoaded := false
  siteSetTaken := false
  profiles := Profile.defaults
  freeCount := 0
  pending := []

end Sys2Proof.Machine
end

