-- ==== Sys2Proof/Machine/Ring.lean ====
section
/-! DEFINITION. Ring geometry (chapter 1, R1 to R9): cells, arcs, tilt bands, directions, distances and footprints. -/

namespace Sys2Proof.Machine

/-- The cell of a slew position (R1). -/
def cellOf (p : Slew) : Cell := BitVec.ofNat 8 (p.toNat / 65536)

/-- The offset of a slew position within its cell (R1). -/
def offsetOf (p : Slew) : Nat := p.toNat % 65536

/-- An arc: its first cell in the CW sense and its length (R2). -/
structure Arc where
  first : Cell
  len : Nat
  deriving DecidableEq, Repr

/-- Whether a cell belongs to an arc (R2). -/
def Arc.mem (a : Arc) (g : Cell) : Bool := decide ((g - a.first).toNat < a.len)

/-- The cells of an arc, first to last in the CW sense (R2). -/
def Arc.cells (a : Arc) : List Cell := (List.range a.len).map fun i => a.first + BitVec.ofNat 8 i

/-- The last cell of an arc (R2). -/
def Arc.last (a : Arc) : Cell := a.first + BitVec.ofNat 8 a.len - 1

/-- Whether every cell of `a` lies within `b`. -/
def Arc.within (a b : Arc) : Bool := a.cells.all b.mem

/-- The tilt band of a tilt (R3); a tilt position is at most 32 767. -/
def tiltBand (t : Nat) : Fin 4 :=
  if t < 8192 then 0 else if t < 16384 then 1 else if t < 24576 then 2 else 3

/-- A tilt target limited to the tilt maximum of a profile (R3). -/
def clampTilt (p : ProfileData) (t : Nat) : Nat := min t p.tiltMax

/-- The direction of a tilt motion (R3, R77). -/
def tiltDir (start target : Nat) : TiltDir :=
  if start < target then .up else if target < start then .down else .none

/-- Half a turn (R6, R7). -/
def halfTurn : Nat := 8388608

/-- The distance of a motion from `p0` to `p1` (R6). -/
def distance (d : Dir) (p0 p1 : Slew) : Nat :=
  match d with
  | .cw => (p1 - p0).toNat
  | .ccw => (p0 - p1).toNat

/-- The resolution of a requested direction against the commanded slew (R6). -/
def resolveDir (arg : DirArg) (p0 : Slew) (target : Option Slew) : Dir :=
  match arg with
  | .cw => .cw
  | .ccw => .ccw
  | .short =>
    match target with
    | none => .cw
    | some p1 => if distance .cw p0 p1 ≤ halfTurn then .cw else .ccw

/-- The magnitude of the offset of `a` from `c` (R7). -/
def offsetMagnitude (a c : Slew) : Nat :=
  let e := (a - c).toNat
  if e ≤ halfTurn then e else 16777216 - e

/-- A slew position moved `n` ring units in a direction, modulo one turn (R1, R83). -/
def advance (d : Dir) (p : Slew) (n : Nat) : Slew :=
  match d with
  | .cw => p + BitVec.ofNat 24 n
  | .ccw => p - BitVec.ofNat 24 n

/-- The offset within the start cell counted in the direction of motion (R46 to R48). -/
def refOffset (d : Dir) (p : Slew) : Nat :=
  match d with
  | .cw => offsetOf p
  | .ccw => 65535 - offsetOf p

/-- The cells crossed by a motion of `n` ring units from `p` (R46, R47). -/
def cellsCrossed (d : Dir) (p : Slew) (n : Nat) : Nat := (refOffset d p + n) / 65536

/-- The footprint at a slew position and tilt band (R8). -/
def footprint (p : ProfileData) (slew : Slew) (band : Fin 4) : Arc where
  first := cellOf slew - BitVec.ofNat 8 (p.extL.get band)
  len := p.extL.get band + p.extR.get band + 1

/-- The leading edge of a footprint for a motion (R9). -/
def Arc.leading (a : Arc) (d : Dir) : Cell :=
  match d with
  | .cw => a.last
  | .ccw => a.first

/-- The trailing edge of a footprint for a motion (R9). -/
def Arc.trailing (a : Arc) (d : Dir) : Cell :=
  match d with
  | .cw => a.first
  | .ccw => a.last

/-- The extent of a tier ahead of its cell, in the direction of motion (R9). -/
def leadExtent (p : ProfileData) (d : Dir) (band : Fin 4) : Nat :=
  match d with
  | .cw => p.extR.get band
  | .ccw => p.extL.get band

/-- The extent of a tier behind its cell, in the direction of motion (R9). -/
def trailExtent (p : ProfileData) (d : Dir) (band : Fin 4) : Nat :=
  match d with
  | .cw => p.extL.get band
  | .ccw => p.extR.get band

/-- How many steps in the direction of motion lie from cell `f` to cell `g`. -/
def stepsFrom (d : Dir) (f g : Cell) : Nat :=
  match d with
  | .cw => (g - f).toNat
  | .ccw => (f - g).toNat

/-- The arc of the steps `lo` to `hi - 1` counted from the origin cell `f` in the direction of motion (R48). -/
def stepArc (d : Dir) (f : Cell) (lo hi : Nat) : Arc :=
  match d with
  | .cw => ⟨f + BitVec.ofNat 8 lo, hi - lo⟩
  | .ccw => ⟨f - BitVec.ofNat 8 hi + 1, hi - lo⟩

end Sys2Proof.Machine
end

