-- ==== Sys2Proof/Machine/Ops.lean ====
section
/-! DEFINITION. The named operations every block shares: reading and changing one tier's record, handing a report to the
CLP (R182), giving the AA a scan trigger (R101), and reading and changing the cells of the Floor Map (R43). The part has
no exceptions; taking a fault is `raiseFault` in Tac.lean. -/

namespace Sys2Proof.Machine

/-- The twelve tiers in ascending order. -/
def allTiers : List Tier := [0, 1, 2, 3, 4, 5, 6, 7, 8, 9, 10, 11]

/-- The record of one tier. -/
def State.tier (s : State) (t : Tier) : TierRec := s.tiers.get t

/-- A change of one tier's record. -/
def State.modTier (s : State) (t : Tier) (f : TierRec → TierRec) : State :=
  { s with tiers := s.tiers.set t (f (s.tiers.get t)) }

/-- The profile record in force for a tier. -/
def State.prof (s : State) (t : Tier) : ProfileData := (s.profiles.get t).data

/-- Whether a tier is in the running installed-tier set (R15). -/
def State.installed (s : State) (t : Tier) : Bool := s.site.installed.getLsbD t

/-- The installed tiers in ascending order. -/
def State.installedTiers (s : State) : List Tier := allTiers.filter s.installed

/-- The commanded position of a tier; a tier without one is UNSYNCED or not installed. -/
def State.cmdPos (s : State) (t : Tier) : Pos := (s.tier t).cmd.getD ⟨0, 0⟩

/-- The standing footprint of a tier (R8). -/
def State.standing (s : State) (t : Tier) : Arc :=
  footprint (s.prof t) (s.cmdPos t).slew (tiltBand (s.cmdPos t).tilt)

/-- The link record of a tier. -/
def State.link (s : State) (t : Tier) : LinkRec := s.dlp.links.get t

/-- A change of one tier's link record. -/
def State.modLink (s : State) (t : Tier) (f : LinkRec → LinkRec) : State :=
  { s with dlp := { s.dlp with links := s.dlp.links.set t (f (s.dlp.links.get t)) } }

/-- The sample record of a tier. -/
def State.sample (s : State) (t : Tier) : Sample := s.lc.samples.get t

/-- A block hands a report to the CLP: it joins the tail, or is discarded with the overrun flag set (R182). -/
def State.report (s : State) (r : Report) : State :=
  if s.clp.reports.length < 32 then { s with clp := { s.clp with reports := s.clp.reports ++ [r] } }
  else { s with clp := { s.clp with reportOverrun := true } }

/-- Hands several reports over, in order. -/
def State.reportAll (s : State) (rs : List Report) : State := rs.foldl State.report s

/-- A scan trigger of R101 reaches the AA. -/
def State.trigger (s : State) : State := { s with aa := { s.aa with scansDue := s.aa.scansDue + 1 } }

/-- A scan trigger that comes about only under a condition. -/
def State.triggerIf (s : State) (b : Bool) : State := if b then s.trigger else s

/-- The number of the next free value has been used. -/
def State.useFree (s : State) : State := { s with freeCount := s.freeCount + 1 }

/-! ### Cells of the Floor Map -/

/-- The owner of a cell (R43). -/
def CellState.owner : CellState → Option Tier
  | .free => none
  | .held t => some t
  | .claimed t => some t

/-- One cell entry. -/
def Floor.at (m : Floor) (g : Cell) : CellState := m.cells.get g.toFin

/-- A list of cell entries changed one by one, the first of them being cell number `i`. -/
def mapCellsFrom (f : Cell → CellState → CellState) : Nat → List CellState → List CellState
  | _, [] => []
  | i, c :: cs => f (BitVec.ofNat 8 i) c :: mapCellsFrom f (i + 1) cs

theorem mapCellsFrom_length (f : Cell → CellState → CellState) (i : Nat) (l : List CellState) :
    (mapCellsFrom f i l).length = l.length := by
  induction l generalizing i with
  | nil => rfl
  | cons c cs ih => simp [mapCellsFrom, ih]

/-- Every cell entry changed by `f`: an operation of the FM makes all its changes at once (R45). -/
def Floor.mapCells (m : Floor) (f : Cell → CellState → CellState) : Floor :=
  { m with cells := ⟨(mapCellsFrom f 0 m.cells.toList).toArray, by simp [mapCellsFrom_length]⟩ }

/-- A change of the Floor Map. -/
def State.modFloor (s : State) (f : Floor → Floor) : State := { s with fm := f s.fm }

/-- The claim record of a tier (R48). -/
def State.claim (s : State) (t : Tier) : Option ClaimRec := s.fm.claims.get t

/-- A claim record put in place or removed, for each tier of a list. -/
def Floor.setClaims (m : Floor) (ts : List Tier) (c : Option ClaimRec) : Floor :=
  ts.foldl (fun (m : Floor) (t : Tier) => { m with claims := m.claims.set t c }) m

end Sys2Proof.Machine
end

