-- ==== Sys2Proof/Machine/FloorMap.lean ====
section
/-! DEFINITION. The Floor Map (chapter 3, R43 to R63): claim arcs, grants, trailing release, placements and marking. -/

namespace Sys2Proof.Machine

/-! ### Claim arcs -/

/-- The claim arc a record describes: the steps from its release index to its end index (R48). -/
def ClaimRec.arc (c : ClaimRec) : Arc := stepArc c.dir c.origin c.release (c.finish + 1)

/-- The claim of one tier's motion over `d` ring units from `p0` at the move band (R46 to R48). -/
def formClaim (dir : Dir) (p0 : Slew) (d : Nat) (p : ProfileData) (band : Fin 4) : ClaimRec where
  dir := dir
  p0 := p0
  offset := refOffset dir p0
  lm := p.extL.get band
  rm := p.extR.get band
  origin := (footprint p p0 band).trailing dir
  release := 0
  finish := cellsCrossed dir p0 d + p.extL.get band + p.extR.get band

/-- The move band: the greater of the band at the start and the band of the target (R8). -/
def moveBand (start target : Nat) : Fin 4 := max (tiltBand start) (tiltBand target)

/-- The cases of R49 in which a MOVE or LEG entry is refused or dropped with RANGE do not arise. -/
def claimFits (c : ClaimRec) (standing target : Arc) : Bool :=
  decide (c.arc.len ≤ 256) && standing.within c.arc && target.within c.arc

/-! ### Grants -/

/-- Whether a tier carries MAP-CONFLICT (R162). -/
def State.carriesConflict (s : State) (t : Tier) : Bool := (s.tier t).fault.latched.getLsbD 7

/-- Whether some installed tier carries MAP-CONFLICT (R50, R102). -/
def State.mapConflict (s : State) : Bool := s.installedTiers.any s.carriesConflict

/-- Whether a cell is FREE or owned by one of the tiers. -/
def Floor.freeOrOf (m : Floor) (own : List Tier) (g : Cell) : Bool :=
  match (m.at g).owner with
  | none => true
  | some o => own.contains o

/-- Whether a claim arc can be granted to the tiers (R50). -/
def State.grantable (s : State) (own : List Tier) (a : Arc) : Bool :=
  !s.mapConflict && a.cells.all (s.fm.freeOrOf own)

/-- A successful grant to one tier (R50). -/
def Floor.grant (m : Floor) (t : Tier) (c : ClaimRec) : Floor :=
  (m.mapCells fun g x => if c.arc.mem g then .claimed t else x).setClaims [t] (some c)

/-- The tier that owns a cell of a gang's arc at the grant: the member whose footprint holds it, else the leader (R61). -/
def gangOwner (leader : Tier) (fps : List (Tier × Arc)) (g : Cell) : Tier :=
  match fps.find? (fun x => x.2.mem g) with
  | some x => x.1
  | none => leader

/-- A successful grant to a gang, given its members' standing footprints (R61). -/
def Floor.grantGang (m : Floor) (leader : Tier) (fps : List (Tier × Arc)) (c : ClaimRec) : Floor :=
  (m.mapCells fun g x => if c.arc.mem g then .claimed (gangOwner leader fps g) else x).setClaims (fps.map (·.1)) (some c)

/-! ### Gangs: the standing span (R60) -/

/-- The last-named member of a gang, which trails. -/
def trailingMember (leader : Tier) (members : List Tier) : Tier := members.getLastD leader

/-- The trailing end of a gang's standing span (R60). -/
def State.spanOrigin (s : State) (dir : Dir) (leader : Tier) (members : List Tier) : Cell :=
  (s.standing (trailingMember leader members)).trailing dir

/-- The length of a gang's standing span (R60). -/
def State.spanLength (s : State) (dir : Dir) (leader : Tier) (members : List Tier) : Nat :=
  stepsFrom dir (s.spanOrigin dir leader members) ((s.standing leader).leading dir) + 1

/-- Whether the footprints, taken from the trailing end, lie one beyond another from step `next` on within `w` steps. -/
def inOrder (dir : Dir) (f : Cell) (w : Nat) : Nat → List Arc → Bool
  | _, [] => true
  | next, a :: rest =>
    let at' := stepsFrom dir f (a.trailing dir)
    decide (next ≤ at' ∧ at' + a.len ≤ w) && inOrder dir f w (at' + a.len) rest

/-- Whether a cell of the span is FREE or HELD by a member (R60). -/
def Floor.freeOrHeldBy (m : Floor) (own : List Tier) (g : Cell) : Bool :=
  match m.at g with
  | .free => true
  | .held o => own.contains o
  | .claimed _ => false

/-- The contiguity test of a gang (R60). -/
def State.contiguous (s : State) (dir : Dir) (leader : Tier) (members : List Tier) : Bool :=
  let f := s.spanOrigin dir leader members
  let w := s.spanLength dir leader members
  (stepArc dir f 0 w).cells.all (s.fm.freeOrHeldBy (leader :: members)) &&
    inOrder dir f w 0 ((leader :: members).reverse.map s.standing)

/-- The claim of a gang (R61). -/
def State.gangClaim (s : State) (dir : Dir) (leader : Tier) (members : List Tier) (target : Slew) : ClaimRec :=
  let trail := trailingMember leader members
  let tp := s.cmdPos trail
  let lp := s.cmdPos leader
  { dir := dir
    p0 := tp.slew
    offset := refOffset dir tp.slew
    lm := trailExtent (s.prof trail) dir (tiltBand tp.tilt)
    rm := leadExtent (s.prof leader) dir (tiltBand lp.tilt)
    origin := s.spanOrigin dir leader members
    release := 0
    finish := s.spanLength dir leader members - 1 + cellsCrossed dir lp.slew (distance dir lp.slew target) }

/-! ### Retarget (R51) -/

/-- The end index a retarget gives, with `dc` travelled and `r` still to go (R51). -/
def ClaimRec.newFinish (c : ClaimRec) (dc r : Nat) : Nat := (c.offset + dc + r) / 65536 + c.lm + c.rm

/-- The claim record a retarget gives (R51). -/
def ClaimRec.retargeted (c : ClaimRec) (dc r : Nat) : ClaimRec := { c with finish := c.newFinish dc r }

/-- Whether the FM can grant a retarget: the length, no MAP-CONFLICT, and FREE cells beyond the old end (R51). -/
def State.retargetable (s : State) (c : ClaimRec) (dc r : Nat) : Bool :=
  let e := c.newFinish dc r
  decide (e + 1 - c.release ≤ 256) && !s.mapConflict &&
    (stepArc c.dir c.origin (c.finish + 1) (e + 1)).cells.all fun g => decide (s.fm.at g = .free)

/-- The retarget made: cells beyond the old end become CLAIMED, cells beyond the new end FREE (R51). -/
def Floor.retarget (m : Floor) (t : Tier) (c : ClaimRec) (e : Nat) : Floor :=
  let gain := stepArc c.dir c.origin (c.finish + 1) (e + 1)
  let loss := stepArc c.dir c.origin (e + 1) (c.finish + 1)
  (m.mapCells fun g x => if gain.mem g then .claimed t else if loss.mem g then .free else x).setClaims [t]
    (some { c with finish := e })

/-! ### Trailing release (R52, R53) -/

/-- The actual progress of a move: its commanded progress less what the wagon lies behind (R52). -/
def actualProgress (dir : Dir) (dc : Nat) (commanded actual : Slew) : Nat :=
  let e := (actual - commanded).toNat
  match dir with
  | .cw => if e ≤ halfTurn then dc else dc - (16777216 - e)
  | .ccw => if e ≤ halfTurn then dc - e else dc

/-- The trailing index (R52). -/
def ClaimRec.trailingIndex (c : ClaimRec) (progress : Nat) : Nat := (c.offset + progress) / 65536

/-- The release of the steps below index `i`, for the tiers of the claim (R53, R62). -/
def Floor.releaseTo (m : Floor) (own : List Tier) (c : ClaimRec) (i : Nat) : Floor :=
  let freed := stepArc c.dir c.origin c.release i
  (m.mapCells fun g x =>
    if freed.mem g && (x.owner.map own.contains).getD false then .free else x).setClaims own (some { c with release := i })

/-! ### Placements (R54 to R59, R62) -/

/-- Whether a footprint can be placed for a tier; cells CLAIMED by a member of `gang` pass as well (R54). -/
def Floor.canPlace (m : Floor) (t : Tier) (gang : List Tier) (a : Arc) : Bool :=
  a.cells.all fun g =>
    match m.at g with
    | .free => true
    | .held o => decide (o = t)
    | .claimed o => decide (o = t) || gang.contains o

/-- A footprint made HELD, every other cell of the tier made FREE, and its claim record removed (R54). -/
def Floor.place (m : Floor) (t : Tier) (a : Arc) : Floor :=
  (m.mapCells fun g x => if a.mem g then .held t else if x.owner = some t then .free else x).setClaims [t] none

/-- Every cell a tier owns made FREE and its claim record removed (R55, R56, R59). -/
def Floor.freeAll (m : Floor) (t : Tier) : Floor :=
  (m.mapCells fun _ x => if x.owner = some t then .free else x).setClaims [t] none

/-- Whether a tier owns any cell. -/
def Floor.ownsAny (m : Floor) (t : Tier) : Bool := m.cells.toList.any fun x => decide (x.owner = some t)

/-- Whether a tier owns a CLAIMED cell. -/
def Floor.claimsAny (m : Floor) (t : Tier) : Bool := m.cells.toList.any fun x => decide (x = .claimed t)

/-- One member of a gang trim: its footprint made HELD where the placement passes, with the tiers that failed (R62). -/
def Floor.placeMember (gang : List Tier) (acc : Floor × List Tier) (x : Tier × Arc) : Floor × List Tier :=
  if acc.1.canPlace x.1 gang x.2 then
    (acc.1.mapCells fun g c => if x.2.mem g then .held x.1 else c, acc.2)
  else (acc.1, acc.2 ++ [x.1])

/-- The gang trim: the members placed in turn, the cells still CLAIMED by a member made FREE, the claim record removed.
Answers the map and the members whose placement failed (R62). -/
def Floor.gangTrim (m : Floor) (fps : List (Tier × Arc)) : Floor × List Tier :=
  let gang := fps.map (·.1)
  let placed := fps.foldl (Floor.placeMember gang) (m, [])
  ((placed.1.mapCells fun _ x =>
      match x with
      | .claimed o => if gang.contains o then .free else x
      | .held o => if placed.2.contains o then .free else x
      | .free => .free).setClaims gang none, placed.2)

/-- Whether every cell of a footprint is FREE (R58). -/
def Floor.allFree (m : Floor) (a : Arc) : Bool := a.cells.all fun g => decide (m.at g = .free)

/-- The sync marking of a footprint whose cells are all FREE (R58). -/
def Floor.mark (m : Floor) (t : Tier) (a : Arc) : Floor := m.mapCells fun g x => if a.mem g then .held t else x

end Sys2Proof.Machine
end

