-- ==== Sys2Proof/Machine/Motion.lean ====
section
/-! DEFINITION. The profile generators (chapter 5, R77 to R94): braking distance, the step of each axis, and what a
halt, a pause, a resume, a retarget and a stop do to the generator records. -/

namespace Sys2Proof.Machine

/-- The braking distance at speed `v` with acceleration `a` (R78). -/
def braking (a v : Nat) : Nat := if a < v then v * (v - a) / (2 * a) else 0

/-- The candidate speed of an unlatched axis (R81). -/
def candidate (a cap v : Nat) : Nat := if v ≤ cap then min (v + a) cap else max (v - a) cap

/-- The speed of a latched axis (R82). -/
def latchedSpeed (a v : Nat) : Nat := max (v - a) a

/-- The speed choice of one interval, with the latch it leaves (R81, R82). -/
def chooseSpeed (a cap v r : Nat) (latch : Bool) : Nat × Bool :=
  if latch then (latchedSpeed a v, true)
  else
    let u := candidate a cap v
    if u + braking a u ≤ r then (u, false) else (latchedSpeed a v, true)

/-- The slew generator at admission (R77). -/
def SlewGen.start (d : Nat) : SlewGen := ⟨0, d, false, decide (d = 0), 0, false⟩

/-- The difference of two tilts, taken without sign (R77, R87, R159). -/
def tiltGap (a b : Nat) : Nat := (a - b) + (b - a)

/-- The tilt generator at admission (R77). -/
def TiltGen.start (now target : Nat) : TiltGen :=
  ⟨tiltDir now target, 0, tiltGap target now, false, decide (tiltGap target now = 0)⟩

/-- The step a slew axis takes at an interval (R83). -/
def SlewGen.stepLength (g : SlewGen) (a cap : Nat) : Nat :=
  if g.finished then 0 else min (chooseSpeed a cap g.speed g.rem g.latch).1 g.rem

/-- A slew axis after its step (R83). -/
def SlewGen.step (g : SlewGen) (a cap : Nat) : SlewGen :=
  if g.finished then g
  else
    let n := g.stepLength a cap
    { g with
      speed := if g.rem = n then 0 else n
      rem := g.rem - n
      latch := (chooseSpeed a cap g.speed g.rem g.latch).2
      finished := decide (g.rem = n)
      progress := g.progress + n }

/-- The step a tilt axis takes at an interval (R83, R92). -/
def TiltGen.stepLength (g : TiltGen) (a cap : Nat) : Nat :=
  if g.finished then 0 else min (chooseSpeed a cap g.speed g.rem g.latch).1 g.rem

/-- A tilt axis after its step (R83, R92). -/
def TiltGen.step (g : TiltGen) (a cap : Nat) : TiltGen :=
  if g.finished then g
  else
    let n := g.stepLength a cap
    { g with
      speed := if g.rem = n then 0 else n
      rem := g.rem - n
      latch := (chooseSpeed a cap g.speed g.rem g.latch).2
      finished := decide (g.rem = n) }

/-- A commanded tilt after a step (R83). -/
def tiltAdvance (d : TiltDir) (t n : Nat) : Nat :=
  match d with
  | .up => t + n
  | .down => t - n
  | .none => t

/-- The halt or pause deceleration of a slew axis (R85, R86). -/
def SlewGen.brake (g : SlewGen) (a : Nat) : SlewGen :=
  if g.finished then g
  else
    let r := min g.rem (braking a g.speed)
    { g with rem := r, latch := true, finished := decide (r = 0), speed := if r = 0 then 0 else g.speed }

/-- The halt or pause deceleration of a tilt axis (R85, R86, R92). -/
def TiltGen.brake (g : TiltGen) (a : Nat) : TiltGen :=
  if g.finished then g
  else
    let r := min g.rem (braking a g.speed)
    { g with rem := r, latch := true, finished := decide (r = 0), speed := if r = 0 then 0 else g.speed }

/-- The restart of a slew axis by RESUME with `d` still to go (R87). -/
def SlewGen.resume (g : SlewGen) (d : Nat) : SlewGen :=
  { g with speed := 0, latch := false, rem := d, finished := decide (d = 0) }

/-- The restart of a tilt axis by RESUME with `d` still to go (R87). -/
def TiltGen.resume (g : TiltGen) (d : Nat) : TiltGen :=
  { g with speed := 0, latch := false, rem := d, finished := decide (d = 0) }

/-- A move record restarted with slew distance `d` to go, from a commanded tilt (R87). -/
def MoveRec.resume (m : MoveRec) (d now : Nat) : MoveRec :=
  { m with slew := m.slew.resume d, tilt := m.tilt.resume (tiltGap m.targetTilt now) }

/-- A retarget of a slew axis with `r` still to go (R89). -/
def SlewGen.retarget (g : SlewGen) (r : Nat) : SlewGen :=
  { g with rem := r, latch := false, finished := g.finished && decide (r = 0) }

/-- The stop of both generators at a quick stop or a fault: no further step, both speeds 0 (R88). -/
def MoveRec.stopGenerators (m : MoveRec) : MoveRec :=
  { m with slew := { m.slew with speed := 0 }, tilt := { m.tilt with speed := 0 } }

/-- All the tiers of a move, the leader first. -/
def MoveRec.tiers (m : MoveRec) : List Tier := m.leader :: m.members

/-- Whether both axes have finished (R26). -/
def MoveRec.finished (m : MoveRec) : Bool := m.slew.finished && m.tilt.finished

/-- The tiers that move with a tier: the members of its gang while the gang's move lasts, else the tier alone (R40). -/
def State.gangOf (s : State) (t : Tier) : List Tier :=
  match (s.tier t).state, (s.tier t).move with
  | .moving, some m => m.tiers
  | .paused, some m => m.tiers
  | .securing, some m => m.tiers
  | _, _ => [t]

/-- Whether show lock stands against a motion of a tier: the tier, or any member of its gang, is in the show-lock set (R33,
check 4). -/
def State.showBarred (s : State) (t : Tier) : Bool := (s.gangOf t).any fun u => s.fsu.showLock.getLsbD u

/-- The slew maximum of a move: the tier's own, or the least of a gang's members (R80, R94). -/
def State.slewMaxOf (s : State) (ts : List Tier) : Nat :=
  match ts with
  | [] => 1
  | t :: rest => rest.foldl (fun m u => min m (s.prof u).slewMax) (s.prof t).slewMax

/-- The slew acceleration of a move: the tier's own, or the least of a gang's members (R78, R94). -/
def State.slewAccOf (s : State) (ts : List Tier) : Nat :=
  match ts with
  | [] => 1
  | t :: rest => rest.foldl (fun m u => min m (s.prof u).slewAcc) (s.prof t).slewAcc

/-- A change of the move record of every tier in a list. -/
def State.modMoves (s : State) (ts : List Tier) (f : MoveRec → MoveRec) : State :=
  ts.foldl (fun s t => s.modTier t fun r => { r with move := r.move.map f }) s

/-- A change of the record of every tier in a list. -/
def State.modTiers (s : State) (ts : List Tier) (f : TierRec → TierRec) : State :=
  ts.foldl (fun s t => s.modTier t f) s

/-- The deceleration of R85 or R86 applied to a move's generators, the tilt axis with the leader's acceleration. -/
def State.brakeMove (s : State) (m : MoveRec) : State :=
  let a := s.slewAccOf m.tiers
  let ta := (s.prof m.leader).tiltAcc
  s.modMoves m.tiers fun r => { r with slew := r.slew.brake a, tilt := r.tilt.brake ta }

end Sys2Proof.Machine
end

