-- ==== Sys2Proof/Machine/Zones.lean ====
section
/-! DEFINITION. The Zone Unit's decisions (chapter 4, R65 to R69) and its trip inputs' levels (R70). -/

namespace Sys2Proof.Machine

/-- Whether a cell matches a zone by base and mask (R65). -/
def ZoneRec.matchesCell (z : ZoneRec) (g : Cell) : Bool := decide ((g ^^^ z.base) &&& ~~~z.mask = 0)

/-- Whether some cell of an arc matches a zone. -/
def ZoneRec.touches (z : ZoneRec) (a : Arc) : Bool := a.cells.any z.matchesCell

/-- Whether a zone's trip input is active (R68). -/
def State.zoneTripped (s : State) (z : ZoneRec) : Bool :=
  match z.trip with
  | none => false
  | some i => s.zu.levels.get i

/-- Whether a zone's classes name a class of motion (R64). -/
def ZoneRec.names (z : ZoneRec) (c : MClass) : Bool :=
  match z.classes, c with
  | .both, _ => true
  | .convert, .convert => true
  | .maint, .maint => true
  | _, _ => false

/-- Whether a zone applies to a motion (R66). -/
def ZoneRec.applies (z : ZoneRec) (c : MClass) : Bool := z.enable && z.names c

/-- Whether a zone forbids a claim: BAR, LOWERED with a raised deck, or no-stop (R66). -/
def ZoneRec.forbids (z : ZoneRec) (c : MClass) (arc : Arc) (raised : Bool) (finals : List Arc) : Bool :=
  z.applies c &&
    ((decide (z.mode = .bar) && z.touches arc) ||
     (decide (z.mode = .lowered) && raised && z.touches arc) ||
     (z.noStop && finals.any z.touches))

/-- The ZU's three decisions (R66). -/
inductive ZoneDecision where
  | pass
  | wait
  | zone
  deriving DecidableEq, Repr

/-- The decision on a claim of a class, whether the deck is raised in it, and its final footprints (R66 to R68). -/
def State.zoneDecision (s : State) (c : MClass) (arc : Arc) (raised : Bool) (finals : List Arc) : ZoneDecision :=
  let zs := s.zu.zones.toList
  if zs.any (fun z => z.forbids c arc raised finals) then .zone
  else if zs.any (fun z => s.zoneTripped z && z.touches arc) then .wait
  else .pass

/-- The look-ahead window of a slew axis at commanded slew `p` and speed `v` with acceleration `a` (R69). -/
def lookAhead (prof : ProfileData) (dir : Dir) (band : Fin 4) (p : Slew) (a v : Nat) : Arc :=
  let kw := cellsCrossed dir p (braking a v + v)
  let edge := (footprint prof p band).leading dir
  stepArc dir edge 0 (min (kw + 1) 256)

/-- The ZU's answer on a look-ahead window: `true` for CREEP (R69). -/
def State.creepAnswer (s : State) (c : MClass) (window : Arc) : Bool :=
  s.zu.zones.toList.any fun z => z.applies c && decide (z.mode = .creep) && !s.zoneTripped z && z.touches window

/-- Whether a cell belongs to the trip set of an input (R71). -/
def State.inTripSet (s : State) (i : Input) (g : Cell) : Bool :=
  s.zu.zones.toList.any fun z => decide (z.trip = some i) && z.matchesCell g

/-- Whether some cell CLAIMED by a tier belongs to the trip set of an input (R71). -/
def State.claimTripped (s : State) (i : Input) (t : Tier) : Bool :=
  (List.range 256).any fun n =>
    let g := BitVec.ofNat 8 n
    decide (s.fm.at g = .claimed t) && s.inTripSet i g

end Sys2Proof.Machine
end

