-- ==== Sys2Proof/Machine/Queue.lean ====
section
/-! DEFINITION. Entries of the admission queue and what follows their coming and going (R96 to R98): the offer to the
AA, removal with its report, the CU's count of a conversion's tiers (R124), and the legs of a route walk (R131 to R136). -/

namespace Sys2Proof.Machine

/-! ### The conversion record (R118, R124, R125) -/

/-- A CONVERSION report with the counts as they stand (R125). -/
def State.convReport (s : State) (ev : ConvEvent) (who : Option (Tier × Code)) : State :=
  s.report (.conversion s.cu.slot ev s.cu.done s.cu.dropped s.cu.total who)

/-- What the conversion record holds for a tier. -/
def State.convTier (s : State) (t : Tier) : ConvTier := s.cu.tiers.get t

/-- A change of what the conversion record holds for a tier. -/
def State.setConvTier (s : State) (t : Tier) (c : ConvTier) : State :=
  { s with cu := { s.cu with tiers := s.cu.tiers.set t c } }

/-- A tier counted done (R120, R122, R124). -/
def State.countDone (s : State) (t : Tier) : State :=
  let s := s.setConvTier t ⟨.done, .none, false⟩
  { s with cu := { s.cu with done := s.cu.done + 1 } }

/-- A tier counted dropped (R120 to R124, R128). -/
def State.countDropped (s : State) (t : Tier) : State :=
  let s := s.setConvTier t ⟨.dropped, .none, false⟩
  { s with cu := { s.cu with dropped := s.cu.dropped + 1 } }

/-- The conversion's state set. -/
def State.setConvState (s : State) (c : ConvState) : State := { s with cu := { s.cu with state := c } }

/-- Whether the CU is following tiers. -/
def State.convActive (s : State) : Bool :=
  match s.cu.state with
  | .running => true
  | .stalled => true
  | .aborting => true
  | _ => false

/-- Whether some tier of the conversion is WAITING or MOVING. -/
def State.convOpen (s : State) : Bool :=
  s.cu.tiers.toList.any fun c => decide (c.status = .waiting) || decide (c.status = .moving)

/-- The end of a conversion, once every tier is counted: DONE in RUNNING or STALLED (R124), ABORTED in ABORTING once
no tier is WAITING or MOVING (R128, R129). -/
def State.convCheck (s : State) : State :=
  match s.cu.state with
  | .running | .stalled =>
    if s.cu.done + s.cu.dropped = s.cu.total then (s.setConvState .done).convReport .done none else s
  | .aborting => if s.convOpen then s else (s.setConvState .aborted).convReport .aborted none
  | _ => s

/-- A tier dropped without another report to name the cause (R125). -/
def State.convDropWith (s : State) (t : Tier) (c : Code) : State :=
  (s.countDropped t).convReport .tierDropped (some (t, c))

/-- A conversion entry has left the queue without admission (R124). -/
def State.convEntryRemoved (s : State) (t : Tier) : State :=
  if s.convActive && decide ((s.convTier t).status = .waiting) && decide ((s.convTier t).entry = .queued) then
    (s.countDropped t).convCheck
  else s

/-- A conversion move has ended (R124). -/
def State.convMoveEnd (s : State) (t : Tier) (r : MoveReason) : State :=
  if s.convActive && decide ((s.convTier t).status = .moving) then
    (if r = .atTarget then s.countDone t else s.countDropped t).convCheck
  else s

/-- A conversion entry has been admitted (R124, R127). -/
def State.convAdmitted (s : State) (t : Tier) : State :=
  if s.convActive && decide ((s.convTier t).status = .waiting) then
    let s := s.setConvTier t ⟨.moving, .none, false⟩
    if s.cu.state = .stalled then (s.setConvState .running).convReport .running none else s
  else s

/-! ### Route walks (R131 to R136) -/

/-- How many waypoints a run visits; a CONT walk goes round all eight (R133). -/
def Run.size : Run → Nat
  | .one => 1
  | .two => 2
  | .four => 4
  | .eight => 8
  | .cont => 8

/-- The waypoint of the current leg (R133). -/
def WalkRec.waypoint (w : WalkRec) : Fin 8 :=
  let n := w.run.size
  let base := w.start.val - w.start.val % n
  Fin.ofNat 8 (base + (w.start.val - base + w.leg) % n)

/-- Whether the current leg is the last one (R133). -/
def WalkRec.isLast (w : WalkRec) : Bool := decide (w.run ≠ .cont) && decide (w.leg + 1 = w.run.size)

/-- The leg number after the current one; a CONT walk keeps it modulo 8 (R133). -/
def WalkRec.nextLeg (w : WalkRec) : Nat := if w.run = .cont then (w.leg + 1) % 8 else w.leg + 1

/-- A change of a tier's walk record. -/
def State.modWalk (s : State) (t : Tier) (f : WalkRec → WalkRec) : State :=
  s.modTier t fun r => { r with walk := f r.walk }

/-- The end of a walk: the ROUTE-END report, and the record inactive (R136). -/
def State.walkEnd (s : State) (t : Tier) (c : Code) : State :=
  let w := (s.tier t).walk
  (s.report (.routeEnd t c w.completed w.lastWp)).modWalk t fun w => { w with active := false }

/-- A leg entry has left the queue without admission; a HALT has set the ending reason before it removed one (R136;
DEDUCED, log 17; unsafe). -/
def State.walkEntryRemoved (s : State) (t : Tier) (c : Code) : State :=
  let w := (s.tier t).walk
  if w.active then s.walkEnd t (if w.ending then .halted else c) else s

/-- The LEG entry of the current leg, absent while its waypoint is unset (R134). -/
def State.legEntry (s : State) (t : Tier) : Option Entry :=
  let r := s.tier t
  (r.route.get r.walk.waypoint).map fun p =>
    { kind := .leg
      tier := t
      members := []
      cls := some r.walk.cls
      targetSlew := some p.slew
      dir := some (resolveDir p.dir (s.cmdPos t).slew (some p.slew))
      targetTilt := some (clampTilt (s.prof t) p.tilt)
      auto := r.walk.isLast && r.walk.auto
      origin := .route
      bypass := 0
      sample := .none }

/-! ### Entries (R96 to R98) -/

/-- The tiers an entry names, the leader first. -/
def Entry.tiers (e : Entry) : List Tier := e.tier :: e.members

/-- Whether an entry names a tier. -/
def Entry.names (e : Entry) (t : Tier) : Bool := e.tiers.contains t

/-- The tiers a grant names, the leader first. -/
def Grant.tiers (g : Grant) : List Tier := g.leader :: g.members

/-- Whether a grant names a tier. -/
def Grant.names (g : Grant) (t : Tier) : Bool := g.tiers.contains t

/-- The queue entry that names a tier. -/
def State.entryOf (s : State) (t : Tier) : Option Entry := s.aa.queue.find? fun e => e.names t

/-- The target slew of an entry, or the commanded slew of its leader (R25, R67). -/
def State.entryTarget (s : State) (e : Entry) : Slew := e.targetSlew.getD (s.cmdPos e.tier).slew

/-- The target tilt of an entry, or the commanded tilt of its tier (R25, R67). -/
def State.entryTilt (s : State) (e : Entry) : Nat := e.targetTilt.getD (s.cmdPos e.tier).tilt

/-- The direction of an entry. -/
def Entry.way (e : Entry) : Dir := e.dir.getD .cw

/-- The slew distance of an entry, formed at the commanded position as it stands (R77). -/
def State.entryDistance (s : State) (e : Entry) : Nat := distance e.way (s.cmdPos e.tier).slew (s.entryTarget e)

/-- The move band of a single-tier entry (R8). -/
def State.entryBand (s : State) (e : Entry) : Fin 4 := moveBand (s.cmdPos e.tier).tilt (s.entryTilt e)

/-- The claim record an entry would have now (R49, R61). -/
def State.entryClaim (s : State) (e : Entry) : ClaimRec :=
  match e.kind with
  | .gangMove => s.gangClaim e.way e.tier e.members (s.entryTarget e)
  | _ => formClaim e.way (s.cmdPos e.tier).slew (s.entryDistance e) (s.prof e.tier) (s.entryBand e)

/-- The final footprint of a single-tier entry (R67). -/
def State.entryFinal (s : State) (e : Entry) : Arc :=
  footprint (s.prof e.tier) (s.entryTarget e) (tiltBand (s.entryTilt e))

/-- Whether an entry's arc is one the AA accepts: the cases of R49 for a MOVE or LEG, the length for a gang (R61). -/
def State.entryFits (s : State) (e : Entry) : Bool :=
  match e.kind with
  | .test => true
  | .gangMove => decide ((s.entryClaim e).arc.len ≤ 256)
  | _ => claimFits (s.entryClaim e) (s.standing e.tier) (s.entryFinal e)

/-- The AA's checks at an offer: one entry per tier, room, and the arc (R97). -/
def State.offerCheck (s : State) (e : Entry) : Option Code :=
  if s.aa.queue.any (fun q => e.tiers.any q.names) then some .busy
  else if 8 ≤ s.aa.queue.length then some .full
  else if s.entryFits e then none
  else some .range

/-- An offer that passed becomes an entry at the tail, a scan trigger (R97). -/
def State.enqueue (s : State) (e : Entry) : State :=
  { s with aa := { s.aa with queue := s.aa.queue ++ [e] } }.trigger

/-- Places the current leg of a walk, or ends the walk where it cannot be placed (R134). -/
def State.placeLeg (s : State) (t : Tier) : State :=
  match s.legEntry t with
  | none => s.walkEnd t .range
  | some e =>
    match s.offerCheck e with
    | some c => s.walkEnd t c
    | none => s.enqueue e

/-- The code of a reason in a ROUTE-END report (R136). -/
def MoveReason.code : MoveReason → Code
  | .atTarget => .complete
  | .halted => .halted
  | .barrier => .barrier
  | .fault => .fault
  | .failsafe => .failsafe
  | .budget => .budget
  | .showStop => .showLocked

/-- A leg's move has ended: the walk goes on with its next leg, or ends (R135, R136). -/
def State.walkMoveEnd (s : State) (t : Tier) (r : MoveReason) : State :=
  let w := (s.tier t).walk
  if !w.active then s
  else if w.ending then s.walkEnd t .halted
  else if r = .atTarget then
    let s := s.modWalk t fun w => { w with completed := min (w.completed + 1) 65535, lastWp := some w.waypoint }
    if w.isLast then s.walkEnd t .complete
    else (s.modWalk t fun w => { w with leg := w.nextLeg }).placeLeg t
  else s.walkEnd t r.code

/-- An entry leaves the queue without admission: its REQUEST-DROPPED report, then the CU or the walk (R98). -/
def State.dropEntry (s : State) (e : Entry) (c : Code) : State :=
  let s := { s with aa := { s.aa with queue := s.aa.queue.erase e } }
  let s := s.report (.requestDropped e.tier e.members e.kind e.origin c)
  match e.origin with
  | .link => s
  | .conversion => s.convEntryRemoved e.tier
  | .route => s.walkEntryRemoved e.tier c

/-- A removal made outside a scan, which is a scan trigger (R98). -/
def State.removeEntry (s : State) (e : Entry) (c : Code) : State := (s.dropEntry e c).trigger

/-- The removal of the entry that names a tier, if there is one. -/
def State.removeEntryOf (s : State) (t : Tier) (c : Code) : State :=
  match s.entryOf t with
  | some e => s.removeEntry e c
  | none => s

/-- The removal of a tier's grant, its allocation freed: a scan trigger if there was one (R100). -/
def State.freeGrant (s : State) (t : Tier) : State :=
  if s.aa.grants.any (fun g => g.names t) then
    { s with aa := { s.aa with grants := s.aa.grants.filter fun g => !g.names t } }.trigger
  else s

/-- The MOVE-END report of one tier of a move, and what the CU and the walk make of it (R32, R124, R135, R136). -/
def State.moveEnd (s : State) (t : Tier) (m : MoveRec) (r : MoveReason) : State :=
  let leader := if m.members.isEmpty then none else some m.leader
  let s := s.report (.moveEnd t leader r (s.cmdPos t))
  match m.origin with
  | .link => s
  | .conversion => s.convMoveEnd t r
  | .route => s.walkMoveEnd t r

end Sys2Proof.Machine
end

