-- ==== Sys2Proof/Machine/Tac.lean ====
section
/-! DEFINITION. The Tier Axis Controller's shared operations (chapter 2, R20 to R42; chapter 10, R163): entering a
state, taking a fault, ending a move, halting, pausing, securing, the quick stop and the trim that follows it. -/

namespace Sys2Proof.Machine

/-! ### Entering a state -/

/-- A tier enters a state: the brake timer of the state it leaves stops, and a TIER-STATE report is queued (R20, R24). -/
def State.enter (s : State) (t : Tier) (st : TierState) : State :=
  (s.modTier t fun r => { r with state := st, brakeTimer := .stopped }).report (.tierState t st)

/-- The tier enters RELEASING and the RELEASE-WAIT timer starts (R22). -/
def State.enterReleasing (s : State) (t : Tier) : State :=
  (s.enter t .releasing).modTier t fun r => { r with brakeTimer := .releaseWait (s.prof t).releaseTimeout }

/-- The tier enters SECURING and the SECURE-WAIT timer starts (R23). -/
def State.enterSecuring (s : State) (t : Tier) : State :=
  (s.enter t .securing).modTier t fun r => { r with brakeTimer := .secureWait (s.prof t).secureTimeout }

/-- The tier enters READY, a scan trigger (R22, R27, R101). -/
def State.enterReady (s : State) (t : Tier) : State := (s.enter t .ready).trigger

/-- RELEASE by R33 (from FAILSAFE on) and R34: its code and the state after it (R22, R120, R123). -/
def State.tryRelease (s : State) (t : Tier) : Code × State :=
  if s.fsu.failsafe.isSome then (.failsafe, s)
  else if s.showBarred t then (.showLocked, s)
  else if !(s.profiles.get t).valid then (.profile, s)
  else if (s.tier t).brakeWeak then (.brake, s)
  else
    match (s.tier t).state with
    | .unsynced => (.state, s)
    | .secured => (.ok, s.enterReleasing t)
    | .releasing => (.ok, s)
    | .ready => (.ok, s)
    | .moving => (.ok, s)
    | .paused => (.ok, s)
    | .settling => (.ok, s)
    | .securing => (.busy, s)
    | .testing => (.busy, s)
    | .faulted => (.state, s)

/-- A WAITING tier of the conversion that wanted its release has reached SECURED: the CU releases it, or drops it where
the release is refused (R123). -/
def State.convSecured (s : State) (t : Tier) : State :=
  let c := s.convTier t
  if decide (s.cu.state = .running ∨ s.cu.state = .stalled) && decide (c.status = .waiting) && c.releaseWanted then
    let s := s.setConvTier t { c with releaseWanted := false }
    match s.tryRelease t with
    | (.ok, s) => s
    | (code, s) =>
      let s := s.convDropWith t code
      let s := if c.entry = .queued then s.removeEntryOf t .cancelled else s
      s.convCheck
  else s

/-- The tier enters SECURED, a scan trigger (R23, R101), and the CU hears of it (R123). -/
def State.enterSecured (s : State) (t : Tier) : State := ((s.enter t .secured).trigger).convSecured t

/-- The settle timer runs out (R27). -/
def State.settleExpire (s : State) (t : Tier) : State :=
  let pending := (s.tier t).securePending
  let s := s.modTier t fun r => { r with settleTimer := none, securePending := false }
  if pending then s.enterSecuring t else s.enterReady t

/-- The tier enters SETTLING; a settle time of 0 runs out at its start (R27). -/
def State.enterSettling (s : State) (t : Tier) : State :=
  let s := (s.enter t .settling).modTier t fun r => { r with settleTimer := some (s.prof t).settleTime }
  if (s.prof t).settleTime = 0 then s.settleExpire t else s

/-! ### Taking a fault (R42, R163) -/

/-- The bit of a tier fault kind in the mask set. -/
def FaultKind.bit : FaultKind → Nat
  | .driveTrip => 0
  | .encoderOpen => 1
  | .motorShort => 2
  | .overtemp => 3
  | .followError => 4
  | .linkLost => 5
  | .brakeStuck => 6
  | .mapConflict => 7

/-- A kind latched into a tier's fault record, with its FAULT report when it is new (R163). -/
def State.latch (s : State) (t : Tier) (k : FaultKind) : State :=
  let r := s.tier t
  if r.fault.latched.getLsbD k.bit then s
  else
    let now : FirstFault := ⟨k, r.state, s.cmdPos t⟩
    let first := if r.fault.latched = 0 then now else r.fault.first.getD now
    (s.modTier t fun r =>
      { r with fault := ⟨r.fault.latched ||| (1#12 <<< k.bit), some first⟩ }).report (.faultRaised t k first.met first.pos)

/-- A brake test ends without a verdict: its timer stops, the ABORTED report is queued, its allocation is freed (R148). -/
def State.abortTest (s : State) (t : Tier) : State :=
  let r := s.tier t
  let rec' := r.test.getD ⟨0, 0, 0, none, none⟩
  let s := s.modTier t fun r => { r with testTimer := none, test := r.test.map fun x => { x with result := some .aborted } }
  (s.report (.brakeTest t .aborted rec'.lastSlip rec'.slipLimit r.brakeWeak)).freeGrant t

/-- What a fault does to a tier that is not yet FAULTED, by the state it meets (R42, R88, R148). -/
def State.faultReaction (s : State) (t : Tier) : State :=
  let r := s.tier t
  let running := decide (r.state = .moving ∨ r.state = .paused)
  let s :=
    match r.move with
    | some m => if running && decide (r.stop ≠ StopReq.quick) then s.moveEnd t m .fault else s
    | none => s
  let s := if running then s.modTier t fun r => { r with move := r.move.map MoveRec.stopGenerators } else s
  let s := if r.state = .testing then s.abortTest t else s
  let s := s.freeGrant t
  let s := s.removeEntryOf t .fault
  let s := s.modTier t fun r => { r with securePending := false, settleTimer := none, testTimer := none }
  s.enter t .faulted

/-- A fault reaches a tier. An UNSYNCED tier does not latch it; a FAULTED one adds the kind; otherwise the tier, and with
it every member of its gang, latches the kind and goes to FAULTED (R40, R42, R163). -/
def State.raiseFault (s : State) (t : Tier) (k : FaultKind) : State :=
  match (s.tier t).state with
  | .unsynced => s
  | .faulted => s.latch t k
  | _ =>
    let gang := s.gangOf t
    let s := gang.foldl (fun s u => s.latch u k) s
    gang.foldl State.faultReaction s

/-! ### The end of a move (R26, R55, R62) -/

/-- The trim of the tiers of a move to their standing footprints at the commanded positions in force; answers the tiers
whose placement failed. A single tier's failed placement frees all it owns (R55, R56); a gang's is R62. -/
def State.trimAll (s : State) (ts : List Tier) : State × List Tier :=
  match ts with
  | [t] =>
    let a := s.standing t
    if s.fm.canPlace t [] a then ((s.modFloor fun m => m.place t a).trigger, [])
    else ((s.modFloor fun m => m.freeAll t).trigger, [t])
  | _ =>
    let res := s.fm.gangTrim (ts.map fun t => (t, s.standing t))
    ((s.modFloor fun _ => res.1).trigger, res.2)

/-- Where a tier goes when its move has ended. -/
inductive AfterMove where
  | settle
  | secure
  deriving DecidableEq, Repr

/-- The last step of a move's end for one tier: the move record goes, and the tier enters SETTLING, SECURING or, after a
failed placement, FAULTED (R26, R28, R55). -/
def State.leaveMove (s : State) (auto : Bool) (after : AfterMove) (failed : List Tier) (t : Tier) : State :=
  let s := s.modTier t fun r =>
    { r with move := none, stop := .none, stoodStill := false,
             securePending := r.securePending || (auto && decide (after = .settle)) }
  if failed.contains t then s.raiseFault t .mapConflict
  else
    match after with
    | .settle => s.enterSettling t
    | .secure => s.enterSecuring t

/-- The end of a move with the steps of R26: trim, allocation, MOVE-END, and the state that follows. -/
def State.endMove (s : State) (m : MoveRec) (reason : MoveReason) (after : AfterMove) : State :=
  let trimmed := s.trimAll m.tiers
  let s := trimmed.1.freeGrant m.leader
  let s := m.tiers.foldl (fun s t => s.moveEnd t m reason) s
  m.tiers.foldl (fun s t => s.leaveMove m.auto after trimmed.2 t) s

/-- Whether a tier's move stands at its kept targets: the leader's commanded slew, and the tier's own commanded tilt, which
the tier's copy of the record targets (R26, R94). -/
def State.atTargets (s : State) (t : Tier) (m : MoveRec) : Bool :=
  decide ((s.cmdPos m.leader).slew = m.targetSlew) && decide ((s.cmdPos t).tilt = m.targetTilt)

/-- What R26 does with a MOVING tier's move once both axes have finished. -/
def State.finishMove (s : State) (t : Tier) : State :=
  let r := s.tier t
  match r.state, r.move with
  | .moving, some m =>
    if m.finished then
      match r.stop with
      | .none => s.endMove m .atTarget .settle
      | .halt reason => s.endMove m reason .settle
      | .pause =>
        if s.atTargets t m then s.endMove m .atTarget .settle
        else m.tiers.foldl (fun s u => s.enter u .paused) s
      | .quick => s
    else s
  | _, _ => s

/-! ### Halting, pausing, securing -/

/-- The stop request of every tier of a move. -/
def State.setStop (s : State) (ts : List Tier) (q : StopReq) : State := s.modTiers ts fun r => { r with stop := q }

/-- The auto-secure flag of a move set. -/
def State.setAuto (s : State) (ts : List Tier) : State := s.modMoves ts fun m => { m with auto := true }

/-- A controlled halt of a MOVING or PAUSED tier with its reason, with or without auto-secure (R28, R85). -/
def State.controlledHalt (s : State) (t : Tier) (reason : MoveReason) (auto : Bool) : State :=
  let r := s.tier t
  match r.move with
  | none => s
  | some m =>
    match r.state, r.stop with
    | .moving, .none =>
      let s := if auto then s.setAuto m.tiers else s
      ((s.setStop m.tiers (.halt reason)).brakeMove m).finishMove t
    | .moving, .pause =>
      let s := if auto then s.setAuto m.tiers else s
      s.setStop m.tiers (.halt reason)
    | .moving, .halt _ => if auto then s.setAuto m.tiers else s
    | .moving, .quick => s
    | .paused, _ => s.endMove { m with auto := m.auto || auto } reason .settle
    | _, _ => s

/-- Secure pending set (R27). -/
def State.setSecurePending (s : State) (t : Tier) : State := s.modTier t fun r => { r with securePending := true }

/-- A tier in MOVING whose stop request is QUICK is secured with its claim and allocation kept, its whole gang with it
(R23, R31, R40). -/
def State.secureQuick (s : State) (t : Tier) : State := (s.gangOf t).foldl State.enterSecuring s

/-- The stop that fail-safe and show lock send a tier (the tables of R171 and R174); `test` says whether a running brake
test is aborted. -/
def State.safetyStop (s : State) (reason : MoveReason) (test : Bool) (t : Tier) : State :=
  match (s.tier t).state with
  | .moving => if (s.tier t).stop = .quick then s.secureQuick t else s.controlledHalt t reason true
  | .paused => s.controlledHalt t reason true
  | .releasing => s.enterSecuring t
  | .ready => s.enterSecuring t
  | .settling => s.setSecurePending t
  | .testing => if test then (s.abortTest t).enterSecured t else s
  | _ => s

/-- One operation applied to each of the tiers in turn, a gang reached through several members once (R38, R40, R171). -/
def State.eachGang (f : State → Tier → State) (ts : List Tier) (s : State) : State :=
  (ts.foldl (fun (acc : State × List Tier) t =>
    if acc.2.contains t then acc else (f acc.1 t, acc.2 ++ acc.1.gangOf t)) (s, [])).1

/-! ### Quick stop and the trim at the actual position (R31, R56) -/

/-- The commanded position set from the latest accepted feedback, the tilt limited to the profile maximum (R4). -/
def State.cmdFromActual (s : State) (t : Tier) : State :=
  s.modTier t fun r =>
    match r.act with
    | some p => { r with cmd := some ⟨p.slew, clampTilt (s.prof t) p.tilt⟩ }
    | none => r

/-- A tier of a trimmed move leaves it: SETTLING from MOVING or PAUSED, SECURING kept, FAULTED where the placement
failed (R23, R31, R56). -/
def State.leaveTrimmed (s : State) (auto : Bool) (failed : List Tier) (t : Tier) : State :=
  let settles := decide ((s.tier t).state ≠ .securing)
  let s := s.modTier t fun r =>
    { r with move := none, stop := .none, stoodStill := false, securePending := r.securePending || (auto && settles) }
  if failed.contains t then s.raiseFault t .mapConflict
  else if settles then s.enterSettling t else s

/-- The trim at the actual position that ends a stopped move, with its MOVE-END where none has been queued (R31, R56).
DEDUCED (log 42): the MOVE-END BARRIER of a PAUSED tier, queued after the trim, carries the positions that the trim set;
unsafe. -/
def State.endAtActual (s : State) (m : MoveRec) (report : Bool) : State :=
  let s := m.tiers.foldl State.cmdFromActual s
  let trimmed := s.trimAll m.tiers
  let s := trimmed.1.freeGrant m.leader
  let s := if report then m.tiers.foldl (fun s t => s.moveEnd t m .barrier) s else s
  m.tiers.foldl (fun s t => s.leaveTrimmed m.auto trimmed.2 t) s

/-- A quick stop reaches a tier, and with it every member of its gang (R31, R40, R88). -/
def State.quickStop (s : State) (t : Tier) : State :=
  let r := s.tier t
  match r.move with
  | none => s
  | some m =>
    match r.state, r.stop with
    | .moving, .quick => s
    | .moving, _ =>
      let s := s.modTiers m.tiers fun r =>
        { r with stop := .quick, stoodStill := false, move := r.move.map MoveRec.stopGenerators }
      m.tiers.foldl (fun s u => s.moveEnd u m .barrier) s
    | .paused, _ => s.endAtActual m true
    | _, _ => s

/-- A feedback shows standstill on a tier stopping after a quick stop: the trim is made once every tier of the move has
shown it (R23, R31, R40). -/
def State.standstill (s : State) (t : Tier) : State :=
  let r := s.tier t
  match r.move, r.stop with
  | some m, .quick =>
    let s := s.modTier t fun r => { r with stoodStill := true }
    if m.tiers.all (fun u => (s.tier u).stoodStill) then s.endAtActual m false else s
  | _, _ => s

end Sys2Proof.Machine
end

