-- ==== Sys2Proof/Machine/Loads.lean ====
section
/-! DEFINITION. The Load Converter (chapter 8, R137 to R144): requests for a conversion, its completion, freshness, and
the mass a load gives (R17). -/

namespace Sys2Proof.Machine

/-- A requester's marks set on a channel (R138). -/
def Channel.mark (c : Channel) (link arbiter : Bool) : Channel :=
  { c with link := c.link || link, arbiter := c.arbiter || arbiter }

/-- A request for one conversion of a tier's channel: merged, appended, or begun at once (R138, R139). -/
def State.requestSample (s : State) (t : Tier) (link arbiter : Bool) : State :=
  let new : Channel := ⟨t, link, arbiter⟩
  match s.lc.converter with
  | some c =>
    if c.tier = t then { s with lc := { s.lc with converter := some (c.mark link arbiter) } }
    else if s.lc.fifo.any (fun x => x.tier = t) then
      { s with lc := { s.lc with fifo := s.lc.fifo.map fun x => if x.tier = t then x.mark link arbiter else x } }
    else { s with lc := { s.lc with fifo := s.lc.fifo ++ [new] } }
  | none =>
    if s.lc.fifo.any (fun x => x.tier = t) then
      { s with lc := { s.lc with fifo := s.lc.fifo.map fun x => if x.tier = t then x.mark link arbiter else x } }
    else if s.lc.fifo.isEmpty then { s with lc := { s.lc with converter := some new } }
    else { s with lc := { s.lc with fifo := s.lc.fifo ++ [new] } }

/-- The sample record a converter result gives (R140). -/
def Sample.ofCounts (p : ProfileData) (counts : Nat) : Sample :=
  if counts = 4095 then .outOfRange counts else .valid counts (counts * p.loadScale / 64) true

/-- A tier's sample record and its LOAD-RANGE restriction set together (R137, R140). -/
def State.setSample (s : State) (t : Tier) (x : Sample) : State :=
  let ranged := match x with
    | .outOfRange _ => true
    | _ => false
  ({ s with lc := { s.lc with samples := s.lc.samples.set t x } } : State).modTier t fun r => { r with loadRange := ranged }

/-- The LOAD report of a completed conversion (R142). -/
def loadReport (p : ProfileData) (t : Tier) (counts : Nat) (x : Sample) : Report :=
  match x with
  | .valid _ l _ => .load t counts (some l) (if l ≤ p.vacancyLimit then .vacant else .occupied)
  | _ => .load t counts none .outOfRange

/-- A load result reaches the AA: PENDING entries that name the tier become DONE, and a scan is due (R103, R140). -/
def State.loadResult (s : State) (t : Tier) : State :=
  State.trigger { s with aa := { s.aa with queue := s.aa.queue.map fun e =>
      if (e.names t && decide (e.sample = .pending)) then { e with sample := .done } else e } }

/-- The converter goes on with the channel at the head of the FIFO, or becomes IDLE (R139). -/
def State.nextChannel (s : State) : State :=
  match s.lc.fifo with
  | [] => { s with lc := { s.lc with converter := none } }
  | c :: rest => { s with lc := { s.lc with converter := some c, fifo := rest } }

/-- The completion of the running conversion with a converter result (R139, R140). -/
def State.completeConversion (s : State) (counts : Nat) : State :=
  match s.lc.converter with
  | none => s
  | some c =>
    if s.installed c.tier then
      let x := Sample.ofCounts (s.prof c.tier) counts
      let s := s.setSample c.tier x
      let s := if c.link then s.report (loadReport (s.prof c.tier) c.tier counts x) else s
      (s.loadResult c.tier).nextChannel
    else s.nextChannel

/-- A sample's freshness timer runs out (R141). -/
def State.expireFreshness (s : State) (t : Tier) : State :=
  match s.sample t with
  | .valid n l true => { s with lc := { s.lc with samples := s.lc.samples.set t (.valid n l false) } }
  | _ => s

/-- The mass of a tare and a load, in tonnes (R17). -/
def massOf (tare load : Nat) : Nat := max 1 (min 63 (ceilDiv (tare + load) 100))

/-- The mass of a tier for an entry or grant of a class, none for a TEST: from the valid sample, else from the vacancy
limit, or 63 tonnes for a CONVERT-class grant (R17, R144). -/
def State.mass (s : State) (c : Option MClass) (t : Tier) : Nat :=
  match s.sample t with
  | .valid _ l _ => massOf (s.prof t).tare l
  | _ => if c = some .convert then 63 else massOf (s.prof t).tare (s.prof t).vacancyLimit

/-- The mass of a gang is the sum of its members' (R17). -/
def State.massAll (s : State) (c : Option MClass) (ts : List Tier) : Nat := (ts.map (s.mass c)).sum

end Sys2Proof.Machine
end

