-- ==== Sys2Proof/Machine/Admission.lean ====
section
/-! DEFINITION. The Admission Arbiter (chapter 6): demand, the tests of a scan, admission, and budget changes. -/

namespace Sys2Proof.Machine

/-! ### Power (R95, R105, R106) -/

/-- The sum of the allocations of the grant list (R95). -/
def State.allocated (s : State) : Nat := (s.aa.grants.map (·.alloc)).sum

/-- The remaining budget (R95). -/
def State.remaining (s : State) : Nat := s.aa.budget - s.allocated

/-- What a motion needs: its mass, whether it slews, its tilt demand, its hold draw and its full speed (R105). -/
structure Need where
  mass : Nat
  slews : Bool
  tilt : Nat
  hold : Nat
  full : Nat
  deriving DecidableEq, Repr

/-- The demand at a slew speed (R105). -/
def Need.demand (n : Need) (v : Nat) : Nat := (if n.slews then ceilDiv (n.mass * v) 256 else 0) + n.tilt + n.hold

/-- The derated speed that `room` allows, absent when nothing is left for slew (R106, R114, R115). -/
def Need.speedIn (n : Need) (room : Int) : Option Nat :=
  let x := room - n.tilt - n.hold
  if 0 < x then some (x.toNat * 256 / n.mass) else none

/-- The need of tiers moving together (R105); `slews` and `tilts` say which axes the motion changes. -/
def State.need (s : State) (c : Option MClass) (ts : List Tier) (slews tilts : Bool) : Need where
  mass := s.massAll c ts
  slews := slews
  tilt :=
    match ts with
    | [t] => if tilts then ceilDiv (s.massAll c ts * (s.prof t).tiltSpeed) 8 else 0
    | _ => 0
  hold := (ts.map fun t => (s.prof t).hold).sum
  full := if c = some .maint then min s.site.creep (s.slewMaxOf ts) else s.slewMaxOf ts

/-- The need of a queue entry (R105). -/
def State.entryNeed (s : State) (e : Entry) : Need :=
  s.need e.cls e.tiers (decide (s.entryDistance e ≠ 0)) (decide (s.entryTilt e ≠ (s.cmdPos e.tier).tilt))

/-- The demand of a brake test (R105). -/
def State.testDemand (s : State) (t : Tier) : Nat :=
  (s.prof t).hold + ceilDiv (s.mass none t * (s.prof t).testTorque) 10

/-- Whether a running move changes slew: its target differs from where its commanded slew started (R105; DEDUCED, log 25;
unsafe). -/
def State.moveSlews (s : State) (m : MoveRec) : Bool :=
  let back := match m.dir with
    | .cw => Dir.ccw
    | .ccw => Dir.cw
  decide (advance back (s.cmdPos m.leader).slew m.slew.progress ≠ m.targetSlew)

/-- The need of a grant, computed afresh (R114, R115). -/
def State.grantNeed (s : State) (g : Grant) : Need :=
  match (s.tier g.leader).move with
  | some m => s.need g.cls g.tiers (s.moveSlews m) (decide (m.tilt.dir ≠ .none))
  | none => s.need g.cls g.tiers false false

/-! ### The tests of a scan (R102 to R106, R110) -/

/-- What the tests make of an entry. -/
inductive Judged where
  | pass (cap : Option Nat) (alloc : Nat) (derated : Bool)
  | drop (cause : Code)
  | wait
  | want (tiers : List Tier)
  deriving DecidableEq, Repr

/-- The hall test: no entry is tested while it fails (R102). -/
def State.hallClosed (s : State) : Bool :=
  s.fsu.failsafe.isSome || s.installedTiers.any (fun t => decide ((s.tier t).state = .unsynced)) || s.mapConflict

/-- Whether a tier stands in the state its entry needs (R102). -/
def State.standsFor (s : State) (e : Entry) (t : Tier) : Bool :=
  match e.kind with
  | .test => decide ((s.tier t).state = .secured)
  | _ => decide ((s.tier t).state = .ready)

/-- Whether a tier's sample is valid and fresh (R103, R141). -/
def State.sampleFresh (s : State) (t : Tier) : Bool :=
  match s.sample t with
  | .valid _ _ fresh => fresh
  | _ => false

/-- Whether a tier's sample is valid and fresh and its load above the vacancy limit (R103, R143). -/
def State.occupied (s : State) (t : Tier) : Bool :=
  match s.sample t with
  | .valid _ l fresh => fresh && decide ((s.prof t).vacancyLimit < l)
  | _ => false

/-- The load test of each named tier in turn: the first drop, or the tiers that want a sample (R103). -/
def State.loadTest (s : State) : List Tier → List Tier → Except Code (List Tier)
  | [], wanted => .ok wanted
  | t :: ts, wanted =>
    if (s.tier t).loadRange then .error .load
    else if !s.sampleFresh t then s.loadTest ts (wanted ++ [t])
    else if s.occupied t then .error .occupied
    else s.loadTest ts wanted

/-- Where each member of a gang entry ends: its commanded slew moved by the leader's distance (R39, R67). -/
def State.memberFinal (s : State) (e : Entry) (t : Tier) : Arc :=
  let p := s.cmdPos t
  footprint (s.prof t) (advance e.way p.slew (s.entryDistance e)) (tiltBand p.tilt)

/-- The ZU's decision on an entry's claim (R66 to R68). -/
def State.entryZone (s : State) (e : Entry) : ZoneDecision :=
  match e.kind, e.cls with
  | .test, _ => .pass
  | _, none => .pass
  | .gangMove, some c =>
    s.zoneDecision c (s.entryClaim e).arc (e.tiers.any fun t => decide (tiltBand (s.cmdPos t).tilt ≠ 0))
      (e.tiers.map (s.memberFinal e))
  | _, some c => s.zoneDecision c (s.entryClaim e).arc (decide (s.entryBand e ≠ 0)) [s.entryFinal e]

/-- Whether an entry's arc is still one that can be granted at all (R104, R110). -/
def State.entryValid (s : State) (e : Entry) : Bool :=
  match e.kind with
  | .gangMove => s.contiguous e.way e.tier e.members && s.entryFits e
  | _ => s.entryFits e

/-- The budget test (R106). -/
def State.budgetTest (s : State) (e : Entry) : Judged :=
  match e.kind with
  | .test => if s.testDemand e.tier ≤ s.remaining then .pass none (s.testDemand e.tier) false else .wait
  | _ =>
    let n := s.entryNeed e
    if n.demand n.full ≤ s.remaining then .pass (some n.full) (n.demand n.full) false
    else if n.slews then
      match n.speedIn s.remaining with
      | some v => if s.site.creep ≤ v then .pass (some v) (n.demand v) true else .wait
      | none => .wait
    else .wait

/-- The claim test and then the budget test (R104, R106). -/
def State.claimTest (s : State) (e : Entry) : Judged :=
  if e.kind = .test then s.budgetTest e
  else if !s.entryValid e then .drop .range
  else
    match s.entryZone e with
    | .zone => .drop .zone
    | .wait => .wait
    | .pass => if s.grantable e.tiers (s.entryClaim e).arc then s.budgetTest e else .wait

/-- All the tests of one entry in their order (R102 to R106). -/
def State.judge (s : State) (e : Entry) : Judged :=
  if e.tiers.any (fun t => s.fsu.showLock.getLsbD t) then .drop .showLocked
  else if e.tiers.any (fun t => decide ((s.tier t).state = .faulted)) then .drop .fault
  else if !e.tiers.all (s.standsFor e) then .wait
  else if e.cls = some .convert then
    if !s.zu.valid then .wait
    else
      match s.loadTest e.tiers [] with
      | .error c => .drop c
      | .ok [] => s.claimTest e
      | .ok wanted => if e.sample = .pending then .wait else .want wanted
  else s.claimTest e

/-! ### Admission (R25, R41, R107) -/

/-- The FM's part of an admission (R50, R61). -/
def State.grantClaim (s : State) (e : Entry) : State :=
  match e.kind with
  | .test => s
  | .gangMove =>
    s.modFloor fun m => m.grantGang e.tier (e.tiers.map fun t => (t, s.standing t)) (s.entryClaim e)
  | _ => s.modFloor fun m => m.grant e.tier (s.entryClaim e)

/-- The move record one tier takes from an admitted entry (R25, R77, R94). -/
def State.moveFrom (s : State) (e : Entry) (t : Tier) : MoveRec :=
  let now := (s.cmdPos t).tilt
  let target := e.targetTilt.getD now
  { leader := e.tier
    members := e.members
    cls := e.cls.getD .maint
    origin := e.origin
    targetSlew := s.entryTarget e
    dir := e.way
    targetTilt := target
    band := moveBand now target
    auto := e.auto
    slew := SlewGen.start (s.entryDistance e)
    tilt := TiltGen.start now target }

/-- The test record and timer of an admitted TEST entry (R41, R146). -/
def State.startTest (s : State) (t : Tier) : State :=
  let p := s.prof t
  s.modTier t fun r =>
    { r with testTimer := some p.testDuration, test := some ⟨p.testTorque, p.testDuration, p.slipLimit, none, none⟩ }

/-- The move record and stop request of a tier of an admitted move (R25). -/
def State.startMove (s : State) (m : MoveRec) (t : Tier) : State :=
  s.modTier t fun r => { r with move := some m, stop := .none, stoodStill := false }

/-- The admission of an entry with the cap, allocation and derated flag the budget test gave it (R107). -/
def State.startEntry (s : State) (e : Entry) (cap : Option Nat) (alloc : Nat) (derated : Bool) : State :=
  let moves := e.tiers.map fun t => (t, s.moveFrom e t)
  let s := s.grantClaim e
  let s := { s with aa := { s.aa with
    queue := s.aa.queue.erase e
    grants := s.aa.grants ++ [{ kind := e.kind, leader := e.tier, members := e.members, cls := e.cls, alloc, cap, derated : Grant }] } }
  let s := s.report (.admitted e.tier e.members e.kind e.origin cap alloc derated)
  match e.kind with
  | .test => (s.enter e.tier .testing).startTest e.tier
  | _ =>
    let s := moves.foldl (fun s x => (s.enter x.1 .moving).startMove x.2 x.1) s
    let s := if e.origin = .conversion then s.convAdmitted e.tier else s
    s.finishMove e.tier

/-! ### The scan (R101, R102, R108) -/

/-- What a scan has done so far: the leaders of the entries it left waiting, those of them that stood ahead of the last
admission, whether it admitted any, and whether a blocking entry has ended it. -/
structure Scan where
  state : State
  waited : List Tier
  ahead : List Tier
  admitted : Bool
  ended : Bool

/-- An entry left waiting; a blocking one ends the scan (R108). -/
def Scan.leave (a : Scan) (e : Entry) : Scan :=
  { a with waited := a.waited ++ [e.tier], ended := decide (8 ≤ e.bypass) }

/-- An entry that wants samples: they are asked for, and it becomes PENDING (R103). -/
def State.wantSamples (s : State) (e : Entry) (ts : List Tier) : State :=
  let s := ts.foldl (fun s t => s.requestSample t false true) s
  { s with aa := { s.aa with queue := s.aa.queue.map fun q => if q.tier = e.tier then { q with sample := .pending } else q } }

/-- One entry of the walk, named by its leader (R102, R107, R108). -/
def Scan.visit (a : Scan) (leader : Tier) : Scan :=
  if a.ended then a
  else
    match a.state.aa.queue.find? fun e => e.tier = leader with
    | none => a
    | some e =>
      match a.state.judge e with
      | .pass cap alloc derated =>
        { a with state := a.state.startEntry e cap alloc derated, ahead := a.waited, admitted := true }
      | .drop c => { a with state := a.state.dropEntry e c }
      | .wait => a.leave e
      | .want ts => { a with state := a.state.wantSamples e ts }.leave e

/-- The bypass counts raised at the end of a scan (R108). -/
def State.raiseBypass (s : State) (ts : List Tier) : State :=
  { s with aa := { s.aa with queue := s.aa.queue.map fun e =>
      if (ts.contains e.tier) then { e with bypass := min 8 (e.bypass + 1) } else e } }

/-- The walk of the queue, from the head, over the entries that stand in it when the scan begins (R102). DESIGN CHOICE
(log 43): an entry placed during the scan is not tested by that scan; unsafe. -/
def State.walkQueue (s : State) : Scan :=
  if s.hallClosed then ⟨s, [], [], false, false⟩
  else (s.aa.queue.map (·.tier)).foldl Scan.visit ⟨s, [], [], false, false⟩

/-! ### Budget changes (R112 to R116) -/

/-- A grant of the list changed in place. -/
def State.setGrant (s : State) (g new : Grant) : State :=
  { s with aa := { s.aa with grants := s.aa.grants.replace g new } }

/-- A grant given a new cap, allocation and derated flag, with its BUDGET report (R114, R115). DEDUCED (log 44): a cap that the
lowering pass finds above 2047 is held as it is; unsafe. -/
def State.recap (s : State) (g : Grant) (cap alloc : Nat) (derated : Bool) : State :=
  (s.setGrant g { g with cap := some cap, alloc := alloc, derated := derated }).report (.budget g.leader cap alloc derated)

/-- Whether the restore pass considers a grant (R114). -/
def State.restorable (s : State) (g : Grant) : Bool :=
  let r := s.tier g.leader
  g.derated && (decide (r.state = .paused) ||
    (decide (r.state = .moving) && (decide (r.stop = .none) || decide (r.stop = .pause))))

/-- The restore pass at one grant (R114). -/
def State.restoreGrant (s : State) (g : Grant) : State :=
  if s.restorable g then
    let n := s.grantNeed g
    let room := s.remaining + g.alloc
    if n.demand n.full ≤ room then s.recap g n.full (n.demand n.full) false
    else
      match n.speedIn room with
      | some v => if g.cap.getD 0 < v then s.recap g v (n.demand v) true else s
      | none => s
  else s

/-- A grant removed by a budget lowering, which is no trigger of its own (R100, R115). -/
def State.removeGrant (s : State) (g : Grant) : State :=
  { s with aa := { s.aa with grants := s.aa.grants.erase g } }

/-- The lowering pass at one grant, reached only while the allocations exceed the budget (R115, R116). DEDUCED (log 44): v′ is
the formula's value, also where a mass computed afresh brings it to creep, above the present cap or above the 2047 of R99; unsafe. -/
def State.lowerGrant (s : State) (g : Grant) : State :=
  if s.allocated ≤ s.aa.budget then s
  else
    match g.kind with
    | .test => ((s.removeGrant g).abortTest g.leader).enterSecured g.leader
    | _ =>
      let n := s.grantNeed g
      let room : Int := (s.aa.budget : Int) - ((s.allocated - g.alloc : Nat) : Int)
      let removed := (s.removeGrant g).controlledHalt g.leader .budget false
      match n.speedIn room with
      | some v => if s.site.creep ≤ v then s.recap g v (n.demand v) true else removed
      | none => removed

/-- A new budget in force: the lowering pass from the newest grant, or the restore pass from the oldest, and then the
scan trigger (R112). -/
def State.changeBudget (s : State) (b : Nat) : State :=
  let s := { s with aa := { s.aa with budget := b } }
  let s :=
    if b < s.allocated then s.aa.grants.reverse.foldl State.lowerGrant s
    else s.aa.grants.foldl State.restoreGrant s
  s.trigger

end Sys2Proof.Machine
end

