-- ==== Sys2Proof/Machine/Conversion.lean ====
section
/-! DEFINITION. The Conversion Unit (chapter 7, R117 to R129): rank order, the offer of conversion entries, the scan-end
event, and the abort. -/

namespace Sys2Proof.Machine

/-- A direction from its code: 0 CW, 1 CCW, 2 SHORT. -/
def dirOfCode (c : Nat) : Option DirArg :=
  match c with
  | 0 => some .cw
  | 1 => some .ccw
  | 2 => some .short
  | _ => none

/-- The tier entry of a layout. -/
def layoutEntry (l : Layout) (t : Tier) : LayoutEntry := l.entries.get t

/-- Tiers in rank order: by rank, and by tier number where ranks are equal (R117). -/
def rankOrder (l : Layout) (ts : List Tier) : List Tier :=
  ts.insertionSort fun a b => (layoutEntry l a).rank.toNat ≤ (layoutEntry l b).rank.toNat

/-- The tiers of a conversion of a layout: its present entries of installed tiers (R117, R118). -/
def State.convTiersOf (s : State) (l : Layout) : List Tier := s.installedTiers.filter fun t => (layoutEntry l t).present

/-- Whether a tier stands at its layout target, the tilt clamped (R120). -/
def State.atLayout (s : State) (l : Layout) (t : Tier) : Bool :=
  decide (s.cmdPos t = ⟨(layoutEntry l t).slew, clampTilt (s.prof t) (layoutEntry l t).tilt⟩)

/-- The conversion entry of a tier (R121). -/
def State.convEntryFor (s : State) (l : Layout) (t : Tier) : Entry :=
  let x := layoutEntry l t
  { kind := .move
    tier := t
    members := []
    cls := some .convert
    targetSlew := some x.slew
    dir := some (resolveDir ((dirOfCode x.dir.toNat).getD .short) (s.cmdPos t).slew (some x.slew))
    targetTilt := some (clampTilt (s.prof t) x.tilt)
    auto := l.endSecure
    origin := .conversion
    bypass := 0
    sample := .none }

/-- The entry state of a WAITING tier set. -/
def State.setConvEntry (s : State) (t : Tier) (x : ConvEntry) : State :=
  s.setConvTier t { s.convTier t with entry := x }

/-- A tier found at its target: DONE, and secured from READY when the layout ends secured (R120, R122). -/
def State.convAtTarget (s : State) (l : Layout) (t : Tier) : State :=
  let s := s.countDone t
  if l.endSecure && decide ((s.tier t).state = .ready) then s.enterSecuring t else s

/-- One offer of a conversion entry: `true` when it was refused FULL, in which case the tier is PENDING (R121). -/
def State.convOffer (s : State) (l : Layout) (t : Tier) : State × Bool :=
  let e := s.convEntryFor l t
  match s.offerCheck e with
  | none => ((s.setConvEntry t .queued).enqueue e, false)
  | some .full => (s.setConvEntry t .pending, true)
  | some c => (s.convDropWith t c, false)

/-- The first offers, in rank order: after one refused FULL every later tier is PENDING without an offer (R121). -/
def State.convOfferAll (l : Layout) (acc : State × Bool) (t : Tier) : State × Bool :=
  if acc.2 then (acc.1.setConvEntry t .pending, true) else acc.1.convOffer l t

/-- A tier taken up by CONVERT, before any offer (R120). -/
def State.convTake (l : Layout) (s : State) (t : Tier) : State :=
  if s.atLayout l t then s.convAtTarget l t
  else
    let s := s.setConvTier t ⟨.waiting, .none, decide ((s.tier t).state = .securing)⟩
    if (s.tier t).state = .secured then
      match s.tryRelease t with
      | (.ok, s) => s
      | (c, s) => s.convDropWith t c
    else s

/-- The WAITING tiers of a list. -/
def State.waitingOf (s : State) (ts : List Tier) : List Tier :=
  ts.filter fun t => decide ((s.convTier t).status = .waiting)

/-- A taken CONVERT (R120, R121). -/
def State.startConversion (s : State) (slot : Fin 16) (l : Layout) : State :=
  let ts := rankOrder l (s.convTiersOf l)
  let s := { s with cu := { Conv.reset with state := .running, slot := some slot, layout := some l, total := ts.length } }
  let s := ts.foldl (State.convTake l) s
  let s := ((s.waitingOf ts).foldl (State.convOfferAll l) (s, false)).1
  s.convCheck

/-- The PENDING tiers of the conversion in rank order (R122). -/
def State.pendingTiers (s : State) (l : Layout) : List Tier :=
  rankOrder l (allTiers.filter fun t =>
    decide ((s.convTier t).status = .waiting) && decide ((s.convTier t).entry = .pending))

/-- The placing at a scan end: each PENDING tier in turn, until an offer is refused FULL. The two flags say that the
placing has stopped and that it has placed an entry (R122). -/
def State.convPlace (l : Layout) (acc : State × Bool × Bool) (t : Tier) : State × Bool × Bool :=
  if acc.2.1 then acc
  else if acc.1.atLayout l t then (acc.1.convAtTarget l t, false, acc.2.2)
  else
    let r := acc.1.convOffer l t
    (r.1, r.2, acc.2.2 || decide ((r.1.convTier t).entry = .queued))

/-- Whether a tier of the conversion is on its way (R126). -/
def State.convMoves (s : State) (t : Tier) : Bool :=
  decide ((s.convTier t).status ≠ .out) &&
    match (s.tier t).state with
    | .releasing => true
    | .moving => true
    | .paused => true
    | .settling => true
    | _ => false

/-- Whether a WAITING tier of the conversion is in SECURING with its release wanted (R126). -/
def State.convReleases (s : State) (t : Tier) : Bool :=
  decide ((s.convTier t).status = .waiting) && (s.convTier t).releaseWanted && decide ((s.tier t).state = .securing)

/-- The conditions of a stall, apart from the scan's own (R126). -/
def State.convStuck (s : State) : Bool :=
  !allTiers.any s.convMoves && !allTiers.any s.convReleases &&
    !s.aa.queue.any (fun e => decide (e.origin = .conversion) && decide (e.sample = .pending)) &&
    allTiers.any fun t => decide ((s.convTier t).status = .waiting)

/-- The scan-end event at the CU: PENDING tiers are placed, and a scan that admitted nothing is tested for a stall
(R101, R122, R126). -/
def State.convScanEnd (s : State) (admitted : Bool) : State :=
  match s.cu.state, s.cu.layout with
  | .running, some l =>
    let r := (s.pendingTiers l).foldl (State.convPlace l) (s, false, false)
    let s := r.1.convCheck
    if !admitted && !r.2.2 && decide (s.cu.state = .running) && s.convStuck then
      (s.setConvState .stalled).convReport .stalled none
    else s
  | .stalled, some l => (((s.pendingTiers l).foldl (State.convPlace l) (s, false, false)).1).convCheck
  | _, _ => s

/-- One full scan of the AA: the walk, the bypass counts, and the scan-end event (R101, R102, R108). -/
def State.scan (s : State) : State :=
  let a := s.walkQueue
  (a.state.raiseBypass a.ahead).convScanEnd a.admitted

/-- A PENDING tier is discarded and counted dropped; every release-wanted flag is cleared (R128, R129). -/
def State.convDiscard (s : State) (t : Tier) : State :=
  let c := s.convTier t
  if decide (c.status = .waiting) && decide (c.entry = .pending) then s.countDropped t
  else s.setConvTier t { c with releaseWanted := false }

/-- CONVERT-ABORT while a conversion is RUNNING or STALLED (R128). DESIGN CHOICE (log 15): the MOVING tiers are halted, and the
PENDING ones discarded, in ascending order; unsafe. -/
def State.abortConversion (s : State) : State :=
  let s := s.setConvState .aborting
  let mine := s.aa.queue.filter fun e => decide (e.origin = .conversion)
  let s := mine.foldl (fun s e => s.removeEntry e .cancelled) s
  let s := allTiers.foldl State.convDiscard s
  let moving := allTiers.filter fun t => decide ((s.convTier t).status = .moving)
  let s := moving.foldl (fun s t => s.controlledHalt t .halted false) s
  s.convCheck

/-- Fail-safe entry at the CU (R129). -/
def State.failsafeConversion (s : State) : State :=
  match s.cu.state with
  | .running | .stalled => (allTiers.foldl State.convDiscard (s.setConvState .aborting)).convCheck
  | _ => s

end Sys2Proof.Machine
end

