-- ==== Sys2Proof/Machine/Faults.lean ====
section
/-! DEFINITION. The Fault Supervisor (chapter 10): device faults, clearing a tier, the watchdog, fail-safe and show lock. -/

namespace Sys2Proof.Machine

/-! ### Device faults (R167) -/

/-- The bit of a device fault kind in the mask set. -/
def DeviceFault.bit : DeviceFault → Nat
  | .configProfiles => 8
  | .configZones => 9
  | .store => 10

/-- A kind added to the device fault set, with its FAULT report when it is new (R167). -/
def State.raiseDevice (s : State) (k : DeviceFault) : State :=
  if s.fsu.device.getLsbD k.bit then s
  else ({ s with fsu := { s.fsu with device := s.fsu.device ||| (1#12 <<< k.bit) } } : State).report (.device true k)

/-- A kind leaves the device fault set: a FAULT report of event CLEARED, and a scan trigger (R101, R167). -/
def State.clearDevice (s : State) (k : DeviceFault) : State :=
  if s.fsu.device.getLsbD k.bit then
    (({ s with fsu := { s.fsu with device := s.fsu.device &&& ~~~(1#12 <<< k.bit) } } : State).report
      (.device false k)).trigger
  else s

/-! ### Clearing a tier (R57, R58, R164, R165) -/

/-- The kinds that a tier's own conditions hold active (R162). -/
def State.conditions (s : State) (t : Tier) : KindSet :=
  ((s.link t).reported.zeroExtend 12) ||| (if (s.link t).lost then 0x020#12 else 0#12)

/-- The latched kinds that are active, MAP-CONFLICT among them (R162, R163). -/
def State.activeKinds (s : State) (t : Tier) : KindSet :=
  (s.tier t).fault.latched &&& (s.conditions t ||| 0x080#12)

/-- The other members of a tier's faulted gang that have not been cleared (R165). -/
def State.faultedMates (s : State) (t : Tier) : List Tier :=
  match (s.tier t).move with
  | none => []
  | some m => m.tiers.filter fun u =>
      decide (u ≠ t) && decide ((s.tier u).state = .faulted) &&
        decide ((s.tier u).move.map MoveRec.tiers = some m.tiers)

/-- The clear's placement on the map: the sync marking where MAP-CONFLICT is latched, else the trim at the actual
position; absent where it fails (R57, R58, R164, R165). -/
def State.clearPlace (s : State) (t : Tier) : Option State :=
  let conflict := s.carriesConflict t
  let mates := s.faultedMates t
  let s := s.cmdFromActual t
  let a := s.standing t
  if conflict then
    if s.fm.allFree a then some (s.modFloor fun m => m.mark t a) else none
  else if s.fm.canPlace t mates a then
    let s := s.modFloor fun m => m.place t a
    let s := if mates.any s.fm.claimsAny then s else s.modFloor fun m => m.setClaims mates none
    some s.trigger
  else none

/-- The rest of a clear that has been taken: the empty record, the reports and the state (R164). -/
def State.clearTaken (s : State) (t : Tier) : State :=
  let kinds := (s.tier t).fault.latched
  let s := s.modTier t fun r => { r with fault := ⟨0, none⟩, move := none, stop := .none, stoodStill := false }
  let s := s.report (.faultCleared t kinds)
  let set := ((s.link t).last.map fun f => decide (f.brake = .set)).getD false
  (if set then s.enterSecured t else s.enterSecuring t).trigger

/-- The clear of R164 offered to a FAULTED tier; absent where it is refused ACTIVE. -/
def State.clearTier (s : State) (t : Tier) : Option State :=
  if (s.tier t).fault.latched &&& s.conditions t ≠ 0 then none
  else (s.clearPlace t).map fun s => s.clearTaken t

/-! ### Fail-safe (R171, R172) -/

/-- The flush of the admission queue (R172). -/
def State.flushQueue (s : State) : State := s.aa.queue.foldl (fun s e => s.removeEntry e .failsafe) s

/-- The entry of fail-safe, while it is INACTIVE: the stops, the report, the flush and the CU's abort. The order of the
last two is open (R129), so a free value chooses it (DESIGN CHOICE, log 14; unsafe as to the rest of the order). -/
def State.enterFailsafe (s : State) (c : Cause) : State :=
  if s.fsu.failsafe.isSome then s
  else
    let s : State := { s with fsu := { s.fsu with failsafe := some c } }
    let s := State.eachGang (fun s t => s.safetyStop .failsafe true t) s.installedTiers s
    let s := s.report (.failsafe true c)
    if Config.abortBeforeFlush s.freeCount then s.useFree.failsafeConversion.flushQueue
    else s.useFree.flushQueue.failsafeConversion

/-! ### The link watchdog (R169, R170) -/

/-- A valid frame acts on the watchdog (R169). -/
def State.kickWatchdog (s : State) : State :=
  match s.site.watchdog with
  | .off => s
  | .timed ms => { s with fsu := { s.fsu with watchdog := .running ms } }
  | .immediate => s.enterFailsafe .watchdog

/-- The running watchdog timer runs out (R169). -/
def State.expireWatchdog (s : State) : State :=
  match s.fsu.watchdog with
  | .running _ => ({ s with fsu := { s.fsu with watchdog := .expired } } : State).enterFailsafe .watchdog
  | _ => s

/-- The timer after a SITE-SET has replaced the setting (R170). -/
def WatchdogTimer.resetFor (w : WatchdogTimer) (x : WatchdogSetting) : WatchdogTimer :=
  match w, x with
  | .notStarted, _ => .notStarted
  | _, .timed ms => .running ms
  | _, _ => .notStarted

/-! ### Show lock (R174) -/

/-- The show stop of a newly locked tier, and the removal of any entry that names it (R174). -/
def State.showStop (s : State) (t : Tier) : State := (s.safetyStop .showStop false t).removeEntryOf t .showLocked

/-- Tiers added to the show-lock set, each newly locked installed one receiving a show stop (R174). -/
def State.addShow (s : State) (set : TierSet) : State :=
  let new : List Tier := s.installedTiers.filter fun (t : Tier) => set.getLsbD t && !s.fsu.showLock.getLsbD t
  let s : State := { s with fsu := { s.fsu with showLock := s.fsu.showLock ||| set } }
  new.foldl State.showStop s

end Sys2Proof.Machine
end

