-- ==== Sys2Proof/Machine/Operands.lean ====
section
/-! DEFINITION. The layouts of both links (chapter 11, Message and record layouts): the check value, the settings records,
the bodies of requests, replies and reports, and the drive-link records. Every number is sent most significant byte
first. -/

namespace Sys2Proof.Machine

/-! ### Bytes and the check value (R178) -/

/-- A number in one byte. -/
def u8 (n : Nat) : List Byte := [BitVec.ofNat 8 n]

/-- A number in two bytes. -/
def u16 (n : Nat) : List Byte := [BitVec.ofNat 8 (n / 256), BitVec.ofNat 8 n]

/-- A number in three bytes. -/
def u24 (n : Nat) : List Byte := [BitVec.ofNat 8 (n / 65536), BitVec.ofNat 8 (n / 256), BitVec.ofNat 8 n]

/-- A cap of the grant list. A budget lowering can leave one above the 2047 of R99, where the tier's mass has fallen since its
admission (log 44), and what the two bytes carry for one above 65 535 is a free value (DESIGN CHOICE, log 22; safe). -/
def capBytes (n : Nat) : List Byte := u16 (if n < 65536 then n else (Config.longCap n).toNat)

/-- A yes-or-no field: 1 for yes. DEDUCED (log 21) from the valid flag, the validity byte and the presence bytes; unsafe. -/
def flag (b : Bool) : List Byte := [if b then 1 else 0]

/-- A two-byte number read back. -/
def n16 (hi lo : Byte) : Nat := hi.toNat * 256 + lo.toNat

/-- A slew position read back from its three bytes. -/
def slewOf (a b c : Byte) : Slew := BitVec.ofNat 24 (a.toNat * 65536 + b.toNat * 256 + c.toNat)

/-- The bytes of a slew position. -/
def slewBytes (p : Slew) : List Byte := u24 p.toNat

/-- The two bytes of a sixteen-bit set. -/
def setBytes (s : BitVec 16) : List Byte := [s.extractLsb' 8 8, s.extractLsb' 0 8]

/-- A sixteen-bit set read back. -/
def set16 (hi lo : Byte) : BitVec 16 := hi ++ lo

/-- The set of the tiers of a list. -/
def tierSet (ts : List Tier) : TierSet := ts.foldl (fun (s : TierSet) t => s ||| (1#12 <<< t.val)) 0

/-- The two bytes of a set of tiers or of fault kinds. -/
def set12 (s : BitVec 12) : List Byte := setBytes (s.zeroExtend 16)

/-- One left shift of the check register (R178). -/
def crcShift (r : BitVec 16) : BitVec 16 := if r.msb then (r <<< 1) ^^^ 0x1021 else r <<< 1

/-- One byte taken into the check register (R178). -/
def crcByte (r : BitVec 16) (b : Byte) : BitVec 16 :=
  let x := r ^^^ (b.zeroExtend 16 <<< 8)
  crcShift (crcShift (crcShift (crcShift (crcShift (crcShift (crcShift (crcShift x)))))))

/-- The check value of a sequence of bytes (R178). -/
def crc (bs : List Byte) : BitVec 16 := bs.foldl crcByte 0xFFFF

/-- The bytes of a frame as sent (chapter 11, Frame). -/
def frameBytes (tag kind : Byte) (body : List Byte) : List Byte :=
  let inner := BitVec.ofNat 8 body.length :: tag :: kind :: body
  0xA5 :: (inner ++ setBytes (crc inner))

/-! ### Codes -/

/-- The status codes and the further codes of causes and reasons (chapter 11, Status codes). -/
def Code.byte : Code → Byte
  | .ok => 0x00
  | .queued => 0x01
  | .busy => 0x02
  | .state => 0x03
  | .range => 0x04
  | .locked => 0x05
  | .once => 0x06
  | .key => 0x07
  | .showLocked => 0x08
  | .failsafe => 0x09
  | .occupied => 0x0A
  | .zone => 0x0B
  | .claim => 0x0C
  | .reverse => 0x0D
  | .short => 0x0E
  | .blank => 0x0F
  | .notErased => 0x10
  | .protectedSlot => 0x11
  | .profile => 0x12
  | .brake => 0x13
  | .active => 0x14
  | .full => 0x15
  | .unknown => 0x16
  | .length => 0x17
  | .noTier => 0x18
  | .load => 0x19
  | .cancelled => 0x20
  | .fault => 0x21
  | .complete => 0x22
  | .halted => 0x23
  | .barrier => 0x24
  | .budget => 0x25

/-- The state codes of TIER-STATE. -/
def TierState.byte : TierState → Byte
  | .unsynced => 0
  | .secured => 1
  | .releasing => 2
  | .ready => 3
  | .moving => 4
  | .paused => 5
  | .settling => 6
  | .securing => 7
  | .testing => 8
  | .faulted => 9

/-- The reason codes of MOVE-END. -/
def MoveReason.byte : MoveReason → Byte
  | .atTarget => 0
  | .halted => 1
  | .barrier => 2
  | .fault => 3
  | .failsafe => 4
  | .budget => 5
  | .showStop => 6

/-- The kind codes of entries and grants. -/
def EntryKind.byte : EntryKind → Byte
  | .move => 0
  | .gangMove => 1
  | .test => 2
  | .leg => 3

/-- The origin codes. -/
def Origin.byte : Origin → Byte
  | .link => 0
  | .conversion => 1
  | .route => 2

/-- The direction codes. -/
def Dir.byte : Dir → Byte
  | .cw => 0
  | .ccw => 1

/-- The direction codes of requests. -/
def DirArg.code : DirArg → BitVec 2
  | .cw => 0
  | .ccw => 1
  | .short => 2

/-- The class codes. -/
def MClass.byte : MClass → Byte
  | .convert => 0
  | .maint => 1

/-- The run codes of ROUTE. -/
def Run.byte : Run → Byte
  | .one => 1
  | .two => 2
  | .four => 4
  | .eight => 8
  | .cont => 0

/-- A run from its code. -/
def runOfCode (b : Byte) : Option Run :=
  if b = 1 then some .one
  else if b = 2 then some .two
  else if b = 4 then some .four
  else if b = 8 then some .eight
  else if b = 0 then some .cont
  else none

/-- The codes of the watchdog setting. -/
def watchdogOfCode (b : Byte) : Option WatchdogSetting :=
  match b.toNat with
  | 0 => some .off
  | 1 => some (.timed 50)
  | 2 => some (.timed 100)
  | 3 => some (.timed 200)
  | 4 => some (.timed 500)
  | 5 => some (.timed 1000)
  | 6 => some (.timed 2000)
  | 7 => some (.timed 5000)
  | 8 => some .immediate
  | _ => none

/-- The code of a watchdog setting. -/
def WatchdogSetting.byte : WatchdogSetting → Byte
  | .off => 0
  | .timed ms =>
    if ms = 50 then 1 else if ms = 100 then 2 else if ms = 200 then 3 else if ms = 500 then 4
    else if ms = 1000 then 5 else if ms = 2000 then 6 else 7
  | .immediate => 8

/-! ### Flag bytes -/

/-- A byte with the given bits set. -/
def bits (bs : List (Nat × Bool)) : Byte :=
  bs.foldl (fun (r : Byte) x => if x.2 then r ||| (1#8 <<< x.1) else r) 0

/-- A flag byte that carries a direction in bits 4 and 5 and one flag in bit 0. -/
def flagDir (b : Bool) (d : BitVec 2) : Byte := (d.zeroExtend 8 <<< 4) ||| (if b then 1 else 0)

/-- The direction in bits 4 and 5 of a flag byte. -/
def dirBits (f : Byte) : BitVec 2 := f.extractLsb' 4 2

/-! ### Settings records -/

/-- The 32-byte profile record. -/
def profileBytes (p : ProfileData) : List Byte :=
  u16 p.tare ++ u16 p.vacancyLimit ++
  (u8 (p.extL.get 0) ++ u8 (p.extR.get 0) ++ u8 (p.extL.get 1) ++ u8 (p.extR.get 1) ++
   u8 (p.extL.get 2) ++ u8 (p.extR.get 2) ++ u8 (p.extL.get 3) ++ u8 (p.extR.get 3)) ++
  u16 p.slewMax ++ u8 p.slewAcc ++ u8 p.tiltSpeed ++ u8 p.tiltAcc ++ u16 p.tiltMax ++ u8 p.hold ++
  u16 p.slewFollow ++ u16 p.tiltFollow ++ u8 p.releaseTimeout ++ u8 p.secureTimeout ++ u8 p.settleTime ++
  u8 p.loadScale ++ u8 p.testTorque ++ u8 p.testDuration ++ u16 p.slipLimit

/-- A byte of a body by its place. -/
def byteAt (bs : List Byte) (i : Nat) : Byte := bs.getD i 0

/-- A one-byte number of a body. -/
def num8 (bs : List Byte) (i : Nat) : Nat := (byteAt bs i).toNat

/-- A two-byte number of a body. -/
def num16 (bs : List Byte) (i : Nat) : Nat := n16 (byteAt bs i) (byteAt bs (i + 1))

/-- A slew position of a body. -/
def slewAt (bs : List Byte) (i : Nat) : Slew := slewOf (byteAt bs i) (byteAt bs (i + 1)) (byteAt bs (i + 2))

/-- A profile record read from 32 bytes. -/
def profileOf (b : List Byte) : ProfileData where
  tare := num16 b 0
  vacancyLimit := num16 b 2
  extL := #v[num8 b 4, num8 b 6, num8 b 8, num8 b 10]
  extR := #v[num8 b 5, num8 b 7, num8 b 9, num8 b 11]
  slewMax := num16 b 12
  slewAcc := num8 b 14
  tiltSpeed := num8 b 15
  tiltAcc := num8 b 16
  tiltMax := num16 b 17
  hold := num8 b 19
  slewFollow := num16 b 20
  tiltFollow := num16 b 22
  releaseTimeout := num8 b 24
  secureTimeout := num8 b 25
  settleTime := num8 b 26
  loadScale := num8 b 27
  testTorque := num8 b 28
  testDuration := num8 b 29
  slipLimit := num16 b 30

/-- The 11-byte site record of a SITE-SET. -/
def siteMsgBytes (m : SiteMsg) : List Byte :=
  setBytes m.installed ++ [m.watchdog, m.creep] ++ u16 m.budget ++ setBytes m.showLock ++ [m.boundary] ++ setBytes m.masks

/-- A site record read from 11 bytes. -/
def siteMsgOf (b : List Byte) : SiteMsg where
  installed := set16 (byteAt b 0) (byteAt b 1)
  watchdog := byteAt b 2
  creep := byteAt b 3
  budget := num16 b 4
  showLock := set16 (byteAt b 6) (byteAt b 7)
  boundary := byteAt b 8
  masks := set16 (byteAt b 9) (byteAt b 10)

/-- The 11 bytes of the running site record. -/
def siteBytes (x : Site) : List Byte :=
  set12 x.installed ++ [x.watchdog.byte] ++ u8 x.creep ++ u16 x.budget ++ set12 x.showLock ++ u8 x.boundary ++ set12 x.masks

/-- The 6-byte zone record of a ZONE-PUT. -/
def zoneMsgBytes (z : ZoneMsg) : List Byte :=
  [bits [(0, z.enable), (1, z.noStop)], z.base, z.mask, z.classes, z.mode, z.trip]

/-- A zone record read from 6 bytes. -/
def zoneMsgOf (b : List Byte) : ZoneMsg where
  enable := (byteAt b 0).getLsbD 0
  noStop := (byteAt b 0).getLsbD 1
  base := byteAt b 1
  mask := byteAt b 2
  classes := byteAt b 3
  mode := byteAt b 4
  trip := byteAt b 5

/-- The classes of a zone from their code. -/
def classesOfCode (b : Byte) : Option ZoneClasses :=
  if b = 0 then some .convert else if b = 1 then some .maint else if b = 2 then some .both else none

/-- The mode of a zone from its code. -/
def modeOfCode (b : Byte) : Option ZoneMode :=
  if b = 0 then some .creep else if b = 1 then some .bar else if b = 2 then some .lowered else none

/-- The trip input of a zone from its code: 0 none, 1 to 6 for TRIP0 to TRIP5. -/
def tripOfCode (b : Byte) : Option (Option Input) :=
  if b = 0 then some none
  else if h : b.toNat - 1 < 6 then some (some ⟨b.toNat - 1, h⟩)
  else none

/-- The code of a zone's classes. -/
def ZoneClasses.byte : ZoneClasses → Byte
  | .convert => 0
  | .maint => 1
  | .both => 2

/-- The code of a zone's mode. -/
def ZoneMode.byte : ZoneMode → Byte
  | .creep => 0
  | .bar => 1
  | .lowered => 2

/-- The code of a zone's trip input. -/
def tripByte : Option Input → Byte
  | none => 0
  | some i => BitVec.ofNat 8 (i.val + 1)

/-- The 6 bytes of a running zone record. -/
def zoneBytes (z : ZoneRec) : List Byte :=
  [bits [(0, z.enable), (1, z.noStop)], z.base, z.mask, z.classes.byte, z.mode.byte, tripByte z.trip]

/-- The 7 bytes of one tier entry of a layout record. -/
def layoutEntryBytes (e : LayoutEntry) : List Byte :=
  [flagDir e.present e.dir] ++ slewBytes e.slew ++ u16 e.tilt ++ [e.rank]

/-- The 101-byte layout record. -/
def layoutBytes (l : Layout) : List Byte :=
  l.name.toList ++ flag l.endSecure ++ (l.entries.toList.map layoutEntryBytes).flatten

/-- One tier entry read from a layout record. -/
def layoutEntryOf (b : List Byte) (t : Nat) : LayoutEntry where
  present := (byteAt b (17 + 7 * t)).getLsbD 0
  dir := dirBits (byteAt b (17 + 7 * t))
  slew := slewAt b (18 + 7 * t)
  tilt := num16 b (21 + 7 * t)
  rank := byteAt b (23 + 7 * t)

/-- A layout record read from 101 bytes. -/
def layoutOf (b : List Byte) : Layout where
  name := #v[byteAt b 0, byteAt b 1, byteAt b 2, byteAt b 3, byteAt b 4, byteAt b 5, byteAt b 6, byteAt b 7,
    byteAt b 8, byteAt b 9, byteAt b 10, byteAt b 11, byteAt b 12, byteAt b 13, byteAt b 14, byteAt b 15]
  endSecure := (byteAt b 16).getLsbD 0
  entries := #v[layoutEntryOf b 0, layoutEntryOf b 1, layoutEntryOf b 2, layoutEntryOf b 3, layoutEntryOf b 4,
    layoutEntryOf b 5, layoutEntryOf b 6, layoutEntryOf b 7, layoutEntryOf b 8, layoutEntryOf b 9, layoutEntryOf b 10,
    layoutEntryOf b 11]

/-! ### Request bodies (chapter 11, Request catalogue) -/

/-- The body bytes of a MOVE or GANG-MOVE after its tiers. -/
def moveArgsBytes (a : MoveArgs) : List Byte :=
  [bits [(0, a.slew.isSome), (1, a.tilt.isSome), (2, a.auto), (3, a.maint)], a.dir] ++
    slewBytes (a.slew.getD 0) ++ u16 (a.tilt.getD 0)

/-- The same bytes read back from place `i` of a body; an absent field's bytes are ignored. -/
def moveArgsOf (b : List Byte) (i : Nat) : MoveArgs where
  slew := if (byteAt b i).getLsbD 0 then some (slewAt b (i + 2)) else none
  tilt := if (byteAt b i).getLsbD 1 then some (num16 b (i + 5)) else none
  auto := (byteAt b i).getLsbD 2
  maint := (byteAt b i).getLsbD 3
  dir := byteAt b (i + 1)

/-- The KIND of a request and its body bytes. -/
def requestBytes : Request → Byte × List Byte
  | .release t => (0x01, [t])
  | .secure t => (0x02, [t])
  | .secureAll => (0x03, [])
  | .move t a => (0x04, t :: moveArgsBytes a)
  | .gangMove n t0 t1 t2 t3 a => (0x05, n :: t0 :: t1 :: t2 :: t3 :: moveArgsBytes a)
  | .halt t => (0x06, [t])
  | .haltAll => (0x07, [])
  | .pause t => (0x08, [t])
  | .resume t => (0x09, [t])
  | .route t st run auto maint => (0x0A, [t, st, run, bits [(2, auto), (3, maint)]])
  | .routePut t w none => (0x0B, [t, w, 0, 0, 0, 0, 0, 0])
  | .routePut t w (some c) => (0x0B, [t, w, flagDir true c.dir] ++ slewBytes c.slew ++ u16 c.tilt)
  | .convert n => (0x10, [n])
  | .convertAbort => (0x11, [])
  | .setBudget b => (0x14, u16 b)
  | .sampleLoad t => (0x18, [t])
  | .brakeTest t => (0x19, [t])
  | .forceFailsafe => (0x20, [])
  | .clearFailsafe => (0x21, [])
  | .clearFaults t => (0x22, [t])
  | .clearFaultsAll => (0x22, [0xFF])
  | .showLock x => (0x23, setBytes x)
  | .releaseShow x => (0x24, setBytes x)
  | .lock g => (0x25, [g])
  | .unlock g => (0x26, [g])
  | .siteSet m => (0x28, siteMsgBytes m)
  | .profilePut t p => (0x29, t :: profileBytes p)
  | .profileGet t => (0x2A, [t])
  | .zonePut z r => (0x2B, z :: zoneMsgBytes r)
  | .zoneGet z => (0x2C, [z])
  | .saveSettings => (0x2D, [])
  | .layoutErase n => (0x2E, [n])
  | .layoutWrite n l => (0x2F, n :: layoutBytes l)
  | .layoutRead n => (0x30, [n])
  | .protectLayouts n => (0x31, [n])
  | .queryStatus => (0x38, [])
  | .queryTier t => (0x39, [t])
  | .queryMap f c => (0x3A, [f, c])
  | .queryQueue => (0x3B, [])
  | .queryGrants => (0x3C, [])
  | .restart => (0x3F, [])

/-- The body length of a request KIND; absent when the KIND is not a request's (R180, the request catalogue). -/
def catalogueLength (k : Byte) : Option Nat :=
  match k.toNat with
  | 0x01 => some 1
  | 0x02 => some 1
  | 0x03 => some 0
  | 0x04 => some 8
  | 0x05 => some 12
  | 0x06 => some 1
  | 0x07 => some 0
  | 0x08 => some 1
  | 0x09 => some 1
  | 0x0A => some 4
  | 0x0B => some 8
  | 0x10 => some 1
  | 0x11 => some 0
  | 0x14 => some 2
  | 0x18 => some 1
  | 0x19 => some 1
  | 0x20 => some 0
  | 0x21 => some 0
  | 0x22 => some 1
  | 0x23 => some 2
  | 0x24 => some 2
  | 0x25 => some 1
  | 0x26 => some 1
  | 0x28 => some 11
  | 0x29 => some 33
  | 0x2A => some 1
  | 0x2B => some 7
  | 0x2C => some 1
  | 0x2D => some 0
  | 0x2E => some 1
  | 0x2F => some 102
  | 0x30 => some 1
  | 0x31 => some 1
  | 0x38 => some 0
  | 0x39 => some 1
  | 0x3A => some 2
  | 0x3B => some 0
  | 0x3C => some 0
  | 0x3F => some 0
  | _ => none

/-- The request of a KIND and a body of that KIND's length. -/
def requestOfBody (k : Byte) (b : List Byte) : Option Request :=
  match k.toNat with
  | 0x01 => some (.release (byteAt b 0))
  | 0x02 => some (.secure (byteAt b 0))
  | 0x03 => some .secureAll
  | 0x04 => some (.move (byteAt b 0) (moveArgsOf b 1))
  | 0x05 => some (.gangMove (byteAt b 0) (byteAt b 1) (byteAt b 2) (byteAt b 3) (byteAt b 4) (moveArgsOf b 5))
  | 0x06 => some (.halt (byteAt b 0))
  | 0x07 => some .haltAll
  | 0x08 => some (.pause (byteAt b 0))
  | 0x09 => some (.resume (byteAt b 0))
  | 0x0A => some (.route (byteAt b 0) (byteAt b 1) (byteAt b 2) ((byteAt b 3).getLsbD 2) ((byteAt b 3).getLsbD 3))
  | 0x0B => some (.routePut (byteAt b 0) (byteAt b 1)
      (if (byteAt b 2).getLsbD 0 then some ⟨dirBits (byteAt b 2), slewAt b 3, num16 b 6⟩ else none))
  | 0x10 => some (.convert (byteAt b 0))
  | 0x11 => some .convertAbort
  | 0x14 => some (.setBudget (num16 b 0))
  | 0x18 => some (.sampleLoad (byteAt b 0))
  | 0x19 => some (.brakeTest (byteAt b 0))
  | 0x20 => some .forceFailsafe
  | 0x21 => some .clearFailsafe
  | 0x22 => some (if byteAt b 0 = 0xFF then .clearFaultsAll else .clearFaults (byteAt b 0))
  | 0x23 => some (.showLock (set16 (byteAt b 0) (byteAt b 1)))
  | 0x24 => some (.releaseShow (set16 (byteAt b 0) (byteAt b 1)))
  | 0x25 => some (.lock (byteAt b 0))
  | 0x26 => some (.unlock (byteAt b 0))
  | 0x28 => some (.siteSet (siteMsgOf b))
  | 0x29 => some (.profilePut (byteAt b 0) (profileOf (b.drop 1)))
  | 0x2A => some (.profileGet (byteAt b 0))
  | 0x2B => some (.zonePut (byteAt b 0) (zoneMsgOf (b.drop 1)))
  | 0x2C => some (.zoneGet (byteAt b 0))
  | 0x2D => some .saveSettings
  | 0x2E => some (.layoutErase (byteAt b 0))
  | 0x2F => some (.layoutWrite (byteAt b 0) (layoutOf (b.drop 1)))
  | 0x30 => some (.layoutRead (byteAt b 0))
  | 0x31 => some (.protectLayouts (byteAt b 0))
  | 0x38 => some .queryStatus
  | 0x39 => some (.queryTier (byteAt b 0))
  | 0x3A => some (.queryMap (byteAt b 0) (byteAt b 1))
  | 0x3B => some .queryQueue
  | 0x3C => some .queryGrants
  | 0x3F => some .restart
  | _ => none

/-- What a valid frame asks: the request, or the status UNKNOWN or LENGTH (R180). -/
def parseFrame (f : Frame) : Except Code Request :=
  match catalogueLength f.kind with
  | none => .error .unknown
  | some n =>
    if f.body.length ≠ n then .error .length
    else
      match requestOfBody f.kind f.body with
      | some r => .ok r
      | none => .error .unknown

/-- A request as the frame that carries it. -/
def requestFrame (tag : Byte) (r : Request) : Frame := ⟨tag, (requestBytes r).1, (requestBytes r).2⟩

/-- The KIND of the reply to a request of KIND `k`: plus 80h, but FFh where an UNKNOWN reply would take a report KIND
(R180). -/
def replyKind (k : Byte) (c : Code) : Byte :=
  let x := k + 0x80
  if decide (c = .unknown) && decide (0xC0 ≤ x.toNat ∧ x.toNat ≤ 0xCC) then 0xFF else x

/-- The bytes of a reply as sent. -/
def Reply.bytes (r : Reply) : List Byte := frameBytes r.tag r.kind (r.status.byte :: r.data)

/-! ### Reports (chapter 11, Reports) -/

/-- The byte of a tier, FFh when there is none. -/
def tierByte (t : Option Tier) : List Byte :=
  match t with
  | some t => u8 t.val
  | none => [0xFF]

/-- The bytes of a position. -/
def posBytes (p : Pos) : List Byte := slewBytes p.slew ++ u16 p.tilt

/-- The event codes of CONVERSION. -/
def ConvEvent.byte : ConvEvent → Byte
  | .done => 0
  | .stalled => 1
  | .running => 2
  | .aborted => 3
  | .tierDropped => 4

/-- The cause codes of FAILSAFE. -/
def Cause.byte : Cause → Byte
  | .watchdog => 0
  | .forced => 1

/-- The verdict codes of LOAD. -/
def Verdict.byte : Verdict → Byte
  | .vacant => 0
  | .occupied => 1
  | .outOfRange => 2

/-- The result codes of BRAKE-TEST. -/
def TestResult.byte : TestResult → Byte
  | .pass => 0
  | .fail => 1
  | .aborted => 2

/-- The operation codes of STORE-DONE. -/
def StoreKind.byte : StoreKind → Byte
  | .save => 0
  | .erase _ => 1
  | .write _ => 2

/-- The slot byte of STORE-DONE. -/
def StoreKind.slotByte : StoreKind → Byte
  | .save => Config.noSlotByte
  | .erase n => BitVec.ofNat 8 n.val
  | .write n => BitVec.ofNat 8 n.val

/-- The failed-sections byte of STORE-DONE: the sections of a save; for a slot the manual gives no value (log 22; safe). -/
def StoreKind.sectionsByte : StoreKind → BitVec 3 → Byte
  | .save, x => x.zeroExtend 8
  | .erase _, _ => Config.slotSectionsByte
  | .write _, _ => Config.slotSectionsByte

/-- The KIND of a report and its body. -/
def Report.body : Report → Byte × List Byte
  | .tierState t st => (0xC0, u8 t.val ++ [st.byte])
  | .moveEnd t l r p => (0xC1, u8 t.val ++ tierByte l ++ [r.byte] ++ posBytes p)
  | .admitted l ms k o cap a d =>
    (0xC2, u8 l.val ++ set12 (tierSet ms) ++ [k.byte, o.byte] ++ u16 (cap.getD 0) ++ u16 a ++ flag d)
  | .requestDropped l ms k o c => (0xC3, u8 l.val ++ set12 (tierSet ms) ++ [k.byte, o.byte, c.byte])
  | .conversion slot ev dn dr tot who =>
    (0xC4, u8 ((slot.map (·.val)).getD 0) ++ [ev.byte] ++ u8 dn ++ u8 dr ++ u8 tot ++
      (match who with
       | some (t, c) => u8 t.val ++ [c.byte]
       | none => [0xFF, 0x00]))
  | .faultRaised t k met p => (0xC5, u8 t.val ++ [0] ++ set12 (1#12 <<< k.bit) ++ [met.byte] ++ posBytes p)
  | .faultCleared t ks => (0xC5, u8 t.val ++ [1] ++ set12 ks ++ [0xFF] ++ posBytes ⟨0, 0⟩)
  | .device raised k => (0xC5, [0xFF, if raised then 0 else 1] ++ set12 (1#12 <<< k.bit) ++ [0xFF] ++ posBytes ⟨0, 0⟩)
  | .failsafe entered c => (0xC6, [if entered then 0 else 1, c.byte])
  | .trip i active ts => (0xC7, u8 i.val ++ flag active ++ set12 (tierSet ts))
  | .load t n l v => (0xC8, u8 t.val ++ u16 n ++ u16 (l.getD 0) ++ [v.byte])
  | .brakeTest t r sl lim w =>
    (0xC9, u8 t.val ++ [r.byte] ++ flag sl.isSome ++ u16 (sl.getD 0) ++ u16 lim ++ flag w)
  | .storeDone op failed secs => (0xCA, [op.byte, op.slotByte] ++ flag failed ++ [op.sectionsByte secs])
  | .budget l cap a d => (0xCB, u8 l.val ++ capBytes cap ++ u16 a ++ flag d)
  | .routeEnd t c n wp =>
    (0xCC, u8 t.val ++ [c.byte] ++ u16 n ++ (match wp with
       | some w => u8 w.val
       | none => [0xFF]))

/-- The bytes of a report as sent, with TAG 0 (R182). -/
def Report.bytes (r : Report) : List Byte := frameBytes 0 r.body.1 r.body.2

/-! ### Drive-link records -/

/-- The codes of a setpoint record's mode. -/
def Mode.code : Mode → Nat
  | .normal => 0
  | .quickStop => 1
  | .test => 2
  | .sync => 3

/-- The 11 bytes of a setpoint record sent with a parity. -/
def SetpointRecord.bytes (r : SetpointRecord) (odd : Bool) : List Byte :=
  let inner := [BitVec.ofNat 8 (r.tier.val + if odd then 128 else 0)] ++ slewBytes r.slew ++ u16 r.tilt ++
    [BitVec.ofNat 8 ((if r.release then 1 else 0) + 2 * r.mode.code)] ++ u8 r.torque
  0x5A :: (inner ++ setBytes (crc inner))

/-- The code of a brake state. -/
def Brake.code : Brake → Nat
  | .set => 0
  | .released => 1
  | .between => 2

/-- A brake state from its code. -/
def brakeOfCode (n : Nat) : Option Brake :=
  match n with
  | 0 => some .set
  | 1 => some .released
  | 2 => some .between
  | _ => none

/-- The byte of a brake state and standstill flag. -/
def Feedback.brakeByte (f : Feedback) : Byte := BitVec.ofNat 8 (f.brake.code + if f.standstill then 4 else 0)

/-- The 13 bytes of a feedback record. -/
def Feedback.bytes (f : Feedback) : List Byte :=
  let inner := [BitVec.ofNat 8 (f.tier.val + if f.parity then 128 else 0)] ++ slewBytes f.slew ++ u16 f.tilt ++
    [f.brakeByte, f.faults.zeroExtend 8] ++ u16 f.slip
  0x5B :: (inner ++ setBytes (crc inner))

/-- A feedback record from the 12 bytes after its start byte; absent where R153 discards it for its check value or a field
outside its encoding: a brake state of 3, a tier above 11, a tilt above 32 767, or a drive fault set with a bit that names
no fault. DEDUCED (log 23): bits 4 to 6 of byte 1 and bits 3 to 7 of byte 7 carry no field and are ignored; unsafe. -/
def feedbackOf (b : List Byte) : Option Feedback :=
  let inner := b.take 10
  if setBytes (crc inner) ≠ b.drop 10 then none
  else
    match brakeOfCode ((byteAt b 6).toNat % 4) with
    | none => none
    | some brake =>
      if h : (byteAt b 0).toNat % 16 < 12 then
        if num16 b 4 < 32768 ∧ (byteAt b 7).toNat < 16 then
          some
            { tier := ⟨(byteAt b 0).toNat % 16, h⟩
              parity := (byteAt b 0).getLsbD 7
              slew := slewAt b 1
              tilt := num16 b 4
              brake := brake
              standstill := (byteAt b 6).getLsbD 2
              faults := (byteAt b 7).extractLsb' 0 4
              slip := num16 b 8 }
        else none
      else none

end Sys2Proof.Machine
end

