-- ==== Sys2Proof/Machine/Flags.lean ====
section
/-! DEFINITION. The output lines and status flags that follow from the state: FAULT (R168), ATTN (R182) and DDE (R153). -/

namespace Sys2Proof.Machine

/-- Whether start-up has completed and neither RESET nor a loss of power stops the part. -/
def State.running (s : State) : Bool := decide (s.phase = .running)

/-- Every kind that is latched at an installed tier, set in the device, or FAILSAFE while it is active (R168). -/
def State.raisedKinds (s : State) : KindSet :=
  (s.installedTiers.foldl (fun (k : KindSet) t => k ||| (s.tier t).fault.latched) s.fsu.device) |||
    (if s.fsu.failsafe.isSome then 0x800#12 else 0#12)

/-- The level of the FAULT line (R168, R191). -/
def State.faultLine (s : State) : Bool := s.running && decide (s.raisedKinds &&& ~~~s.site.masks ≠ 0)

/-- The level of the ATTN line (R182, R191). -/
def State.attnLine (s : State) : Bool := s.running && !s.clp.reports.isEmpty

/-- The level of the DDE line: high while a setpoint record is in transmission (R153, R191). DEDUCED (log 9): the
line is driven exactly while the transmit list holds a record; unsafe. -/
def State.ddeLine (s : State) : Bool := s.running && !s.dlp.txList.isEmpty

end Sys2Proof.Machine
end

