-- ==== Sys2Proof/Machine/DriveLink.lean ====
section
/-! DEFINITION. The drive link (chapter 9): the setpoint interval of a tier (R19, R79, R151), the sending of a record
(R154, R157), the receive framer (R153), and the handling of a feedback (R155, R156). -/

namespace Sys2Proof.Machine

/-! ### Setpoint records -/

/-- A record that carries the commanded positions of a tier. -/
def State.recordOf (s : State) (t : Tier) (release : Bool) (mode : Mode) (torque : Nat) : SetpointRecord :=
  ⟨t, (s.cmdPos t).slew, (s.cmdPos t).tilt, release, mode, torque⟩

/-- The setpoint record a tier hands over in the state it is in (R19, R152). DESIGN CHOICE (log 41): a gang member secured
after a quick stop, itself at standstill, keeps mode QUICK-STOP until the gang's trim; unsafe. -/
def State.setpointRecord (s : State) (t : Tier) : SetpointRecord :=
  let r := s.tier t
  match r.state with
  | .unsynced => ⟨t, 0, 0, false, .sync, 0⟩
  | .secured => s.recordOf t false .normal 0
  | .releasing => s.recordOf t true .normal 0
  | .ready => s.recordOf t true .normal 0
  | .moving => s.recordOf t true (if r.stop = .quick then .quickStop else .normal) 0
  | .paused => s.recordOf t true .normal 0
  | .settling => s.recordOf t true .normal 0
  | .securing => s.recordOf t false (if r.stop = .quick then .quickStop else .normal) 0
  | .testing => s.recordOf t false .test ((r.test.map TestRec.torque).getD 0)
  | .faulted => s.recordOf t false .quickStop 0

/-- A record joins the transmit list, in the place of an unsent one of the same tier (R153). DEDUCED (log 9): the record
on the line counts as unsent until its last byte; unsafe. -/
def State.handRecord (s : State) (r : SetpointRecord) : State :=
  if s.dlp.txList.any (fun x => decide (x.tier = r.tier)) then
    { s with dlp := { s.dlp with txList := s.dlp.txList.map fun x => if x.tier = r.tier then r else x } }
  else { s with dlp := { s.dlp with txList := s.dlp.txList ++ [r] } }

/-! ### The setpoint interval (R79 to R83, R91, R94) -/

/-- The grant that names a tier. -/
def State.grantOf (s : State) (t : Tier) : Option Grant := s.aa.grants.find? fun g => g.names t

/-- The cap of the slew axis at an interval (R80, R94). -/
def State.slewCap (s : State) (m : MoveRec) (creep : Bool) : Nat :=
  let c := s.slewMaxOf m.tiers
  let c := min c (((s.grantOf m.leader).bind Grant.cap).getD c)
  if creep || decide (m.cls = .maint) then min c s.site.creep else c

/-- The creep answer of an interval: formed for an unfinished unlatched slew axis, otherwise kept (R91). -/
def State.creepNow (s : State) (m : MoveRec) : Bool :=
  if !m.slew.finished && !m.slew.latch then
    s.creepAnswer m.cls (lookAhead (s.prof m.leader) m.dir m.band (s.cmdPos m.leader).slew (s.slewAccOf m.tiers) m.slew.speed)
  else m.slew.creep

/-- The step of both generators of a move, taken at its leader's interval and handed to every member (R79, R83, R94). -/
def State.stepMove (s : State) (m : MoveRec) : State :=
  let a := s.slewAccOf m.tiers
  let p := s.prof m.leader
  let slew : SlewGen := { m.slew with creep := s.creepNow m }
  let cap := s.slewCap m slew.creep
  let n := slew.stepLength a cap
  let tn := m.tilt.stepLength p.tiltAcc p.tiltSpeed
  let s := s.modMoves m.tiers fun r => { r with slew := slew.step a cap, tilt := r.tilt.step p.tiltAcc p.tiltSpeed }
  let s := s.modTiers m.tiers fun r => { r with cmd := r.cmd.map fun q => { q with slew := advance m.dir q.slew n } }
  s.modTier m.leader fun r => { r with cmd := r.cmd.map fun q => { q with tilt := tiltAdvance m.tilt.dir q.tilt tn } }

/-- The move whose generators run at a tier's interval (R79, R94). -/
def State.runningMove (s : State) (t : Tier) : Option MoveRec :=
  match (s.tier t).state, (s.tier t).move with
  | .moving, some m => if decide ((s.tier t).stop ≠ StopReq.quick) && decide (m.leader = t) then some m else none
  | _, _ => none

/-- One setpoint interval of an installed tier: the generators step, the record is produced and handed over, and a move
both of whose axes have finished ends (R79, R151). -/
def State.interval (s : State) (t : Tier) : State :=
  match s.runningMove t with
  | none => s.handRecord (s.setpointRecord t)
  | some m =>
    let s := s.stepMove m
    (s.handRecord (s.setpointRecord t)).finishMove t

/-! ### Sending (R154, R157) -/

/-- The link record of a tier after a record of it has been sent; `synced` says that the tier is not UNSYNCED. -/
def LinkRec.sent (l : LinkRec) (r : SetpointRecord) (synced : Bool) : LinkRec :=
  { l with
    latestSent := some l.nextParity
    latestRec := some ⟨r.slew, r.tilt, r.mode⟩
    nextParity := !l.nextParity
    answered := false
    timer := l.timer || (synced && !l.lost) }

/-- The last byte of the record at the head of the transmit list has left the transmitter. -/
def State.recordSent (s : State) : State :=
  match s.dlp.txList with
  | [] => s
  | r :: rest =>
    ({ s with dlp := { s.dlp with txList := rest } } : State).modLink r.tier fun l =>
      l.sent r (decide ((s.tier r.tier).state ≠ .unsynced))

/-- The feedback timer of a tier expires (R157). -/
def State.feedbackExpire (s : State) (t : Tier) : State :=
  if (s.link t).timer then (s.modLink t fun l => { l with timer := false, lost := true }).raiseFault t .linkLost
  else s

/-! ### Feedback (R155, R156) -/

/-- Step 1: the actual positions, and the slip of a test that has sent a TEST record (R4, R146, R156). -/
def State.takePosition (s : State) (f : Feedback) : State :=
  let testing := decide ((s.tier f.tier).state = .testing) &&
    decide ((s.link f.tier).latestRec.map SentRecord.mode = some .test)
  s.modTier f.tier fun r =>
    { r with act := some ⟨f.slew, f.tilt⟩
             test := if testing then r.test.map fun x => { x with lastSlip := some f.slip } else r.test }

/-- Step 2 on an UNSYNCED tier that passes the tilt test: the marking, or MAP-CONFLICT (R21, R58). -/
def State.synchronise (s : State) (f : Feedback) : State :=
  let s := s.cmdFromActual f.tier
  let a := s.standing f.tier
  if s.fm.allFree a then
    let s := s.modFloor fun m => m.mark f.tier a
    (if f.brake = .set then s.enterSecured f.tier else s.enterSecuring f.tier).trigger
  else (s.latch f.tier .mapConflict).faultReaction f.tier

/-- Step 3: the trailing release of a MOVING tier, for a gang on the trailing member's feedback (R52, R53, R62). -/
def State.trailingRelease (s : State) (f : Feedback) : State :=
  let r := s.tier f.tier
  match r.state, r.move, s.claim f.tier with
  | .moving, some m, some c =>
    let i := c.trailingIndex (actualProgress m.dir m.slew.progress (s.cmdPos f.tier).slew f.slew)
    if decide (trailingMember m.leader m.members = f.tier) && decide (c.release < i) then
      (s.modFloor fun x => x.releaseTo m.tiers c i).trigger
    else s
  | _, _, _ => s

/-- Whether the following-error check is made in the tier's state (R159). -/
def TierRec.followed (r : TierRec) : Bool :=
  match r.state with
  | .moving => decide (r.stop ≠ StopReq.quick)
  | .paused => true
  | .settling => true
  | _ => false

/-- Whether a feedback lies beyond a following limit from the record it answers (R7, R159). -/
def Feedback.beyond (f : Feedback) (p : ProfileData) (x : SentRecord) : Bool :=
  decide (p.slewFollow < offsetMagnitude f.slew x.slew) ||
    decide (p.tiltFollow < tiltGap f.tilt x.tilt)

/-- Step 4: the following-error check (R159). -/
def State.followCheck (s : State) (f : Feedback) : State :=
  match (s.link f.tier).latestRec with
  | some x =>
    if (s.tier f.tier).followed && f.beyond (s.prof f.tier) x then s.raiseFault f.tier .followError else s
  | none => s

/-- The drive fault kinds in the order in which they are delivered (R160). -/
def driveKinds : List FaultKind := [.driveTrip, .encoderOpen, .motorShort, .overtemp]

/-- Step 5: the newly reported drive faults in their order, and the reported set (R160). -/
def State.driveFaults (s : State) (f : Feedback) : State :=
  let new := f.faults &&& ~~~(s.link f.tier).reported
  let s := driveKinds.foldl (fun s k => if new.getLsbD k.bit then s.raiseFault f.tier k else s) s
  s.modLink f.tier fun l => { l with reported := f.faults }

/-- The brake watch: the timer stops at the expected brake state, and starts at any other if it is not running (R24). -/
def State.brakeWatch (s : State) (t : Tier) (asExpected : Bool) (timeout : Nat) : State :=
  s.modTier t fun r =>
    { r with brakeTimer :=
        match r.brakeTimer with
        | .watch n => if asExpected then .stopped else .watch n
        | .stopped => if asExpected then .stopped else .watch timeout
        | x => x }

/-- Step 6: the brake state and the standstill flag, in the state the tier is now in (R22, R23, R24, R31, R40).
DESIGN CHOICE (log 32): the brake watch is taken before the standstill; unsafe. -/
def State.brakeStep (s : State) (f : Feedback) : State :=
  let t := f.tier
  let p := s.prof t
  let stops := f.standstill && decide ((s.tier t).stop = .quick)
  match (s.tier t).state with
  | .unsynced => s
  | .releasing => if f.brake = .released then s.enterReady t else s
  | .securing =>
    let s := if stops then s.standstill t else s
    let r := s.tier t
    if decide (r.state = .securing) && decide (r.stop ≠ StopReq.quick) && decide (f.brake = .set) then s.enterSecured t else s
  | .secured => s.brakeWatch t (decide (f.brake = .set)) p.secureTimeout
  | .testing => s.brakeWatch t (decide (f.brake = .set)) p.secureTimeout
  | .ready => s.brakeWatch t (decide (f.brake = .released)) p.releaseTimeout
  | .paused => s.brakeWatch t (decide (f.brake = .released)) p.releaseTimeout
  | .settling => s.brakeWatch t (decide (f.brake = .released)) p.releaseTimeout
  | .moving =>
    let s := s.brakeWatch t (decide (f.brake = .released)) p.releaseTimeout
    if stops then s.standstill t else s
  | .faulted => s

/-- Step 7: the feedback timer stops and a LINK-LOST condition ends (R157, R158). -/
def State.linkStep (s : State) (t : Tier) : State := s.modLink t fun l => { l with timer := false, lost := false }

/-- Steps 3 to 7 for a synchronised tier (R156). -/
def State.handOn (s : State) (f : Feedback) : State :=
  ((((s.trailingRelease f).followCheck f).driveFaults f).brakeStep f).linkStep f.tier

/-- The link record of a feedback accepted (R155). -/
def LinkRec.accept (l : LinkRec) (f : Feedback) : LinkRec := { l with answered := true, last := some f }

/-- Steps 1 and 2, and the rest of them unless the tier stays UNSYNCED (R156). -/
def State.acceptFeedback (s : State) (f : Feedback) : State :=
  let s := (s.modLink f.tier fun l => l.accept f).takePosition f
  if (s.tier f.tier).state = .unsynced then
    if f.tilt ≤ (s.prof f.tier).tiltMax then (s.synchronise f).handOn f else s
  else s.handOn f

/-- Whether a feedback is accepted: it answers the latest record sent, which has not been answered (R155). -/
def LinkRec.accepts (l : LinkRec) (f : Feedback) : Bool := decide (l.latestSent = some f.parity) && !l.answered

/-- A stale feedback raises the stale count (R155). -/
def LinkRec.countStale (l : LinkRec) : LinkRec := { l with stale := min 65535 (l.stale + 1) }

/-- A feedback record that R153 has passed is tested against its tier's link record (R155). -/
def State.testFeedback (s : State) (f : Feedback) : State :=
  if (s.link f.tier).accepts f then s.acceptFeedback f else s.modLink f.tier LinkRec.countStale

/-- A completed feedback record: discarded for its check value, a field outside the layout or its tier, or tested
(R153). -/
def State.completeRecord (s : State) (bs : List Byte) : State :=
  match feedbackOf bs with
  | none => s
  | some f => if s.installed f.tier then s.testFeedback f else s

/-- The receive framer of the drive link set. -/
def State.setDriveFramer (s : State) (x : DriveFramer) : State := { s with dlp := { s.dlp with framer := x } }

/-- One byte received on DRX (R153). -/
def State.driveByte (s : State) (b : Byte) : State :=
  match s.dlp.framer with
  | .hunting => if b = 0x5B then s.setDriveFramer (.record []) else s
  | .record got =>
    if got.length < 11 then s.setDriveFramer (.record (got ++ [b]))
    else (s.setDriveFramer .hunting).completeRecord (got ++ [b])

/-- The bytes of a feedback record received one after another. -/
def State.driveBytes (s : State) (bs : List Byte) : State := bs.foldl State.driveByte s

end Sys2Proof.Machine
end

