-- ==== Sys2Proof/Machine/Store.lean ====
section
/-! DEFINITION. The Settings Store (chapter 11, R186 to R190): the requests for its operations, their completion, and what
an operation that RESET or a loss of power ends leaves behind. -/

namespace Sys2Proof.Machine

/-- What a request gives: the state after it, its status code and the data of its reply. -/
abbrev Answer := State × Code × List Byte

/-- A refused request changes nothing (R180). -/
def State.refuse (s : State) (c : Code) : Answer := (s, c, [])

/-- A taken request with no data. -/
def State.accept (s : State) : Answer := (s, .ok, [])

/-- A slot from its byte. -/
def slotOf (b : Byte) : Option (Fin 16) := if h : b.toNat < 16 then some ⟨b.toNat, h⟩ else none

/-- Whether a store operation is running (R186). -/
def State.nvsBusy (s : State) : Bool := s.nvs.op.isSome

/-- The contents of a slot (R188). -/
def State.slot (s : State) (n : Fin 16) : Slot := s.nvs.store.slots.get n

/-- A store operation begun (R186). -/
def State.beginStore (s : State) (op : StoreOp) : State := { s with nvs := { s.nvs with op := some op } }

/-! ### Requests -/

/-- SAVE-SETTINGS (R187). -/
def State.serveSave (s : State) : Answer :=
  if s.fsu.profilesLocked || s.fsu.zonesLocked then s.refuse .locked
  else if s.nvsBusy then s.refuse .busy
  else (s.beginStore (.save s.site s.profiles (if s.zu.valid then some s.zu.zones else none))).accept

/-- The checks LAYOUT-ERASE and LAYOUT-WRITE share (R188, R189). -/
def State.slotCheck (s : State) (n : Fin 16) : Option Code :=
  if s.fsu.layoutsLocked then some .locked
  else if s.nvsBusy then some .busy
  else if n.val < s.nvs.boundary then some .protectedSlot
  else none

/-- LAYOUT-ERASE (R188). -/
def State.serveErase (s : State) (b : Byte) : Answer :=
  match slotOf b with
  | none => s.refuse .range
  | some n =>
    match s.slotCheck n with
    | some c => s.refuse c
    | none => (s.beginStore (.erase n)).accept

/-- Whether a tier entry of a layout, present or not, carries values its encodings allow (R189, check 6; R180). DESIGN CHOICE
(log 18): a tilt above 32 767 is refused with them, and the entries of tiers that are not installed are tested too; unsafe. -/
def layoutEntryLegal (e : LayoutEntry) : Bool :=
  decide (e.dir.toNat ≤ 2) && decide (e.rank.toNat ≤ 11) && decide (e.tilt < 32768)

/-- Whether two of the tiers carry the same rank (R189). -/
def sameRank (l : Layout) : List Tier → Bool
  | [] => false
  | t :: ts => ts.any (fun u => decide ((layoutEntry l u).rank = (layoutEntry l t).rank)) || sameRank l ts

/-- LAYOUT-WRITE (R189). -/
def State.serveWrite (s : State) (b : Byte) (l : Layout) : Answer :=
  match slotOf b with
  | none => s.refuse .range
  | some n =>
    match s.slotCheck n with
    | some c => s.refuse c
    | none =>
      if s.slot n ≠ .blank then s.refuse .notErased
      else if !l.entries.toList.all layoutEntryLegal || sameRank l (s.convTiersOf l) then s.refuse .range
      else (s.beginStore (.write n l)).accept

/-- LAYOUT-READ (R189). -/
def State.serveRead (s : State) (b : Byte) : Answer :=
  match slotOf b with
  | none => s.refuse .range
  | some n =>
    if s.nvsBusy then s.refuse .busy
    else
      match s.slot n with
      | .written l => (s, .ok, layoutBytes l)
      | .blank => (s, .blank, [Config.slotConditionByte false])
      | .bad => (s, .blank, [Config.slotConditionByte true])

/-- PROTECT-LAYOUTS (R190). -/
def State.serveProtect (s : State) (n : Byte) : Answer :=
  if 16 < n.toNat then s.refuse .range
  else if s.fsu.layoutsLocked then s.refuse .locked
  else if n.toNat < s.nvs.boundary then s.refuse .protectedSlot
  else
    State.accept { s with
      nvs := { s.nvs with boundary := n.toNat }
      site := { s.site with boundary := max s.site.boundary n.toNat } }

/-! ### Completion (R186 to R189) -/

/-- A change of the stored contents. -/
def State.modStore (s : State) (f : Store → Store) : State := { s with nvs := { s.nvs with store := f s.nvs.store } }

/-- What a slot holds after the operation set. -/
def State.setSlot (s : State) (n : Fin 16) (x : Slot) : State := s.modStore fun d => { d with slots := d.slots.set n x }

/-- A section as written, or, where the verify failed, one that may or may not pass its check value (R186). -/
def savedSection {α : Type} (failed : Bool) (n : Nat) (new : Option α) : Option α :=
  if failed && !Config.failedSectionReadable n then none else new

/-- The three sections written by SAVE-SETTINGS; `failed` are the sections whose verify failed. -/
def State.saveSections (s : State) (failed : BitVec 3) (site : Site) (ps : Vector Profile 12)
    (zs : Option (Vector ZoneRec 6)) : State :=
  let n := s.freeCount
  (s.modStore fun d =>
    { d with
      site := savedSection (failed.getLsbD 0) n (some site)
      profiles := savedSection (failed.getLsbD 1) (n + 1) (some ps)
      zones := savedSection (failed.getLsbD 2) (n + 2) zs }).useFree.useFree.useFree

/-- The STORE-DONE report, and STORE on a failure (R186). -/
def State.storeDone (s : State) (k : StoreKind) (failed : Bool) (sections : BitVec 3) : State :=
  let s := s.report (.storeDone k failed sections)
  if failed then s.raiseDevice .store else s

/-- The completion of the running store operation. DESIGN CHOICE (log 31): `failed` is an operand (safe). It is what
the read-back found different: the sections of a save, or any bit for a layout slot. -/
def State.completeStore (s : State) (failed : BitVec 3) : State :=
  let idle : State := { s with nvs := { s.nvs with op := none } }
  let fails := decide (failed ≠ 0)
  match s.nvs.op with
  | none => s
  | some (.save site ps zs) => (idle.saveSections failed site ps zs).storeDone .save fails failed
  | some (.erase n) => (idle.setSlot n (if fails then .bad else .blank)).storeDone (.erase n) fails 0
  | some (.write n l) => (idle.setSlot n (if fails then .bad else .written l)).storeDone (.write n) fails 0

/-! ### An operation ended unfinished (R186) -/

/-- What an unfinished write leaves of a section. -/
def unfinishedSection {α : Type} (n : Nat) (old new : Option α) : Option α :=
  match Config.unfinished n with
  | .old => old
  | .new => new
  | .bad => none

/-- What an unfinished operation leaves of a slot. -/
def unfinishedSlot (n : Nat) (old new : Slot) : Slot :=
  match Config.unfinished n with
  | .old => old
  | .new => new
  | .bad => .bad

/-- A RESET line or a loss of power ends the running store operation unfinished (R186). -/
def State.cutStore (s : State) : State :=
  let idle : State := { s with nvs := { s.nvs with op := none } }
  let n := s.freeCount
  match s.nvs.op with
  | none => s
  | some (.save site ps zs) =>
    (idle.modStore fun d =>
      { d with
        site := unfinishedSection n d.site (some site)
        profiles := unfinishedSection (n + 1) d.profiles (some ps)
        zones := unfinishedSection (n + 2) d.zones zs }).useFree.useFree.useFree
  | some (.erase k) => (idle.setSlot k (unfinishedSlot n (s.slot k) .blank)).useFree
  | some (.write k l) => (idle.setSlot k (unfinishedSlot n (s.slot k) (.written l))).useFree

end Sys2Proof.Machine
end

