-- ==== Sys2Proof/Machine/StartUp.lean ====
section
/-! DEFINITION. Start-up, RESET and power (R191, R192): the reset values of every block, the loads from the store, and the
completion of start-up. -/

namespace Sys2Proof.Machine

/-- Step 1: every block takes its reset values, and holds the default settings until the loads (DESIGN CHOICE, log 34;
unsafe); the brake-weak restrictions are kept by a RESTART only (R18, R149, R191).
Pins and store stay as they are. -/
def State.resetBlocks (s : State) (keepWeak : Bool) : State where
  phase := s.phase
  pins := s.pins
  clp := LinkPort.reset
  tiers := s.tiers.map fun r => TierRec.reset (keepWeak && r.brakeWeak)
  fm := ⟨Vector.replicate 256 .free, Vector.replicate 12 none⟩
  zu := ⟨ZoneRec.defaults, false, Vector.replicate 6 false, []⟩
  aa := ⟨0, [], [], 0⟩
  cu := Conv.reset
  lc := ⟨Vector.replicate 12 .none, none, []⟩
  dlp := ⟨.hunting, [], Vector.replicate 12 LinkRec.reset⟩
  fsu := ⟨0, none, .notStarted, 0, true, true, true, false⟩
  nvs := ⟨s.nvs.store, none, 0⟩
  site := Site.default
  siteLoaded := false
  siteSetTaken := false
  profiles := Profile.defaults
  freeCount := s.freeCount
  pending := s.pending

/-- Step 2: the stored site record, or the defaults (R191). -/
def State.loadSite (s : State) : State :=
  { s with site := s.nvs.store.site.getD Site.default, siteLoaded := s.nvs.store.site.isSome }

/-- Step 3: the profile table and the zone table, or their defaults with the CONFIG faults (R10, R64, R167). -/
def State.loadTables (s : State) : State :=
  let d := s.nvs.store
  { s with
    profiles := d.profiles.getD Profile.defaults
    zu := { s.zu with zones := d.zones.getD ZoneRec.defaults, valid := d.zones.isSome }
    fsu := { s.fsu with device :=
      (if d.profiles.isSome then 0#12 else 0x100#12) ||| (if d.zones.isSome then 0#12 else 0x200#12) } }

/-- Step 4: what the site record sets at start-up (R95, R174, R190). -/
def State.applySite (s : State) : State :=
  { s with
    nvs := { s.nvs with boundary := s.site.boundary }
    fsu := { s.fsu with showLock := s.site.showLock }
    aa := { s.aa with budget := s.site.budget } }

/-- Step 5: the levels of the TRIP and KEY inputs as found (R70). -/
def State.takeLevels (s : State) : State :=
  { s with zu := { s.zu with levels := s.pins.trips }, fsu := { s.fsu with key := s.pins.key } }

/-- The steps of start-up, which its 25 ms then follow (R191). -/
def State.boot (s : State) (keepWeak : Bool) : State :=
  State.takeLevels (State.applySite (State.loadTables (State.loadSite
    { s.resetBlocks keepWeak with phase := .startUp })))

/-- Power is applied: start-up begins, unless the RESET line is low (R191; on a part that has power DESIGN CHOICE, log 11;
unsafe). -/
def State.powerOn (s : State) : State :=
  let s := s.cutStore
  if s.pins.resetLow then { s.resetBlocks false with phase := .held } else s.boot false

/-- Power is lost (R186). -/
def State.losePower (s : State) : State := { s.cutStore.resetBlocks false with phase := .off }

/-- The RESET line goes low: every block is held in its reset values (R191). -/
def State.resetFalls (s : State) : State :=
  let s : State := { s with pins := { s.pins with resetLow := true } }
  if s.phase = .off then s else { s.cutStore.resetBlocks false with phase := .held }

/-- The RESET line rises: a power-on start-up begins (R191). -/
def State.resetRises (s : State) : State :=
  let s : State := { s with pins := { s.pins with resetLow := false } }
  if s.phase = .held then s.boot false else s

/-- The FAULT reports of the CONFIG kinds found at start-up (R191). -/
def State.configReports (s : State) : List Report :=
  (if s.fsu.device.getLsbD 8 then [.device true .configProfiles] else []) ++
    (if s.fsu.device.getLsbD 9 then [.device true .configZones] else [])

/-- The six inputs in order. -/
def allInputs : List Input := [0, 1, 2, 3, 4, 5]

/-- The TRIP reports of the inputs found ACTIVE at start-up (R70, R191). -/
def State.tripReports (s : State) : List Report :=
  (allInputs.filter s.zu.levels.get).map fun i => .trip i true []

/-- Start-up completes (R191). -/
def State.completeStartUp (s : State) : State :=
  if s.phase = .startUp then
    State.reportAll { s with phase := .running } (s.configReports ++ s.tripReports)
  else s

end Sys2Proof.Machine
end

