-- ==== Sys2Proof/Machine/Requests.lean ====
section
/-! DEFINITION. The requests addressed to tiers and to the hall (chapters 1, 2, 4, 6 to 8 and 10): each answers the state
after it, its status code and the data of its reply. -/

namespace Sys2Proof.Machine

/-! ### The checks ahead of the state (R33) -/

/-- A tier from its byte. -/
def tierOf (b : Byte) : Option Tier := if h : b.toNat < 12 then some ⟨b.toNat, h⟩ else none

/-- Check 1: a tier number above 11 is refused RANGE (R33). -/
def State.withTier (s : State) (b : Byte) (k : Tier → Answer) : Answer :=
  match tierOf b with
  | none => s.refuse .range
  | some t => k t

/-- Checks 1 and 2: and a tier that is not installed NO-TIER (R33). -/
def State.withInstalled (s : State) (b : Byte) (k : Tier → Answer) : Answer :=
  s.withTier b fun t => if s.installed t then k t else s.refuse .noTier

/-- Checks 3 and 4 of a request that may move a tier, or its gang (R33). -/
def State.motionCheck (s : State) (t : Tier) : Option Code :=
  if s.fsu.failsafe.isSome then some .failsafe
  else if s.showBarred t then some .showLocked
  else none

/-! ### RELEASE, SECURE, HALT, PAUSE, RESUME (R22, R23, R28 to R31, R34) -/

/-- RELEASE (R22, R33, R34). -/
def State.serveRelease (s : State) (b : Byte) : Answer :=
  s.withInstalled b fun t => ((s.tryRelease t).2, (s.tryRelease t).1, [])

/-- SECURE as the legality table gives it for the tier's state (R23, R27, R28, R31, R34). -/
def State.secure (s : State) (t : Tier) : State :=
  let r := s.tier t
  match r.state with
  | .unsynced => s
  | .secured => s
  | .releasing => (s.removeEntryOf t .cancelled).enterSecuring t
  | .ready => (s.removeEntryOf t .cancelled).enterSecuring t
  | .moving => if r.stop = .quick then s.secureQuick t else s.controlledHalt t .halted true
  | .paused =>
    match r.move with
    | some m => s.endMove m .halted .secure
    | none => s
  | .settling => (s.removeEntryOf t .cancelled).setSecurePending t
  | .securing => s
  | .testing => s
  | .faulted => s

/-- SECURE (R34). -/
def State.serveSecure (s : State) (b : Byte) : Answer := s.withInstalled b fun t => (s.secure t).accept

/-- SECURE-ALL (R38). -/
def State.serveSecureAll (s : State) : Answer := (State.eachGang State.secure s.installedTiers s).accept

/-- A HALT sets the ending reason of an active walk (R136). -/
def State.haltWalk (s : State) (t : Tier) : State :=
  if (s.tier t).walk.active then s.modWalk t fun w => { w with ending := true } else s

/-- HALT as the legality table gives it for the tier's state (R27, R28, R31, R34, R35, R41, R136). -/
def State.halt (s : State) (t : Tier) : State :=
  let s := s.haltWalk t
  match (s.tier t).state with
  | .unsynced => s
  | .secured => s.removeEntryOf t .cancelled
  | .releasing => s.removeEntryOf t .cancelled
  | .ready => s.removeEntryOf t .cancelled
  | .moving => s.controlledHalt t .halted false
  | .paused => s.controlledHalt t .halted false
  | .settling => s.removeEntryOf t .cancelled
  | .securing => s
  | .testing => (s.abortTest t).enterSecured t
  | .faulted => s

/-- HALT (R34). -/
def State.serveHalt (s : State) (b : Byte) : Answer := s.withInstalled b fun t => (s.halt t).accept

/-- HALT-ALL (R38). -/
def State.serveHaltAll (s : State) : Answer := (State.eachGang State.halt s.installedTiers s).accept

/-- PAUSE on a MOVING tier with its running move (R29, R86). DESIGN CHOICE (log 19): the auto-secure test comes first;
unsafe. -/
def State.pauseMove (s : State) (t : Tier) (m : MoveRec) : Answer :=
  if m.auto then s.refuse .state
  else
    match (s.tier t).stop with
    | .none => (((s.setStop m.tiers .pause).brakeMove m).finishMove t).accept
    | .pause => s.accept
    | .halt _ => s.accept
    | .quick => s.refuse .state

/-- PAUSE (R29, R34). -/
def State.servePause (s : State) (b : Byte) : Answer :=
  s.withInstalled b fun t =>
    match (s.tier t).state, (s.tier t).move with
    | .moving, some m => s.pauseMove t m
    | .paused, _ => s.accept
    | .testing, _ => s.refuse .busy
    | _, _ => s.refuse .state

/-- A paused move restarted toward its kept targets: the slew generator over the leader's distance, each tier's tilt
generator over its own (R30, R40, R87, R94). -/
def State.resumeMove (s : State) (m : MoveRec) : State :=
  let d := distance m.dir (s.cmdPos m.leader).slew m.targetSlew
  let s := m.tiers.foldl (fun s t => s.enter t .moving) s
  (s.setStop m.tiers .none).modTiers m.tiers fun r =>
    { r with move := r.move.map fun x => x.resume d (r.cmd.getD ⟨0, 0⟩).tilt }

/-- RESUME (R30, R34). -/
def State.serveResume (s : State) (b : Byte) : Answer :=
  s.withInstalled b fun t =>
    match s.motionCheck t with
    | some c => s.refuse c
    | none =>
      match (s.tier t).state, (s.tier t).move with
      | .moving, _ => s.accept
      | .paused, some m => (s.resumeMove m).accept
      | .testing, _ => s.refuse .busy
      | _, _ => s.refuse .state

/-! ### MOVE and GANG-MOVE (R34 to R37, R39) -/

/-- Whether the fields of a MOVE or GANG-MOVE lie in their encodings. -/
def moveLegal (a : MoveArgs) : Bool :=
  decide (a.dir.toNat ≤ 2) && (a.tilt.map fun t => decide (t < 32768)).getD true

/-- The direction a MOVE or GANG-MOVE names. -/
def moveWay (a : MoveArgs) : DirArg := (dirOfCode a.dir.toNat).getD .cw

/-- The class a MOVE or GANG-MOVE names. -/
def moveClass (a : MoveArgs) : MClass := if a.maint then .maint else .convert

/-- Whether the targets of a MOVE, the tilt clamped, are absent or equal to the commanded positions (R36). -/
def zeroAt (a : MoveArgs) (p : ProfileData) (now : Pos) : Bool :=
  (a.slew.map fun x => decide (x = now.slew)).getD true &&
    (a.tilt.map fun x => decide (clampTilt p x = now.tilt)).getD true

/-- The securing of a zero-distance MOVE with auto-secure, in the state of its tier (R36). -/
def State.secureAtOnce (s : State) (t : Tier) : State :=
  match (s.tier t).state with
  | .ready => s.enterSecuring t
  | .releasing => s.enterSecuring t
  | .settling => s.setSecurePending t
  | _ => s

/-- A zero-distance MOVE or GANG-MOVE completes at once (R36, R39). DESIGN CHOICE (log 47): the MOVE-END of each member of a
GANG-MOVE names the leader, though no gang has been admitted; unsafe. -/
def State.completeAtOnce (s : State) (leader : Option Tier) (auto : Bool) (ts : List Tier) : State :=
  let s := ts.foldl (fun s t => s.report (.moveEnd t leader .atTarget (s.cmdPos t))) s
  if auto then ts.foldl State.secureAtOnce s else s

/-- The entry of a MOVE or GANG-MOVE (R35, R96). -/
def State.moveEntry (s : State) (t : Tier) (members : List Tier) (a : MoveArgs) : Entry where
  kind := if members.isEmpty then .move else .gangMove
  tier := t
  members := members
  cls := some (moveClass a)
  targetSlew := a.slew
  dir := some (resolveDir (moveWay a) (s.cmdPos t).slew a.slew)
  targetTilt := a.tilt.map (clampTilt (s.prof t))
  auto := a.auto
  origin := .link
  bypass := 0
  sample := .none

/-- An entry offered to the AA on behalf of a request (R97). -/
def State.offer (s : State) (e : Entry) : Answer :=
  match s.offerCheck e with
  | some c => s.refuse c
  | none => (s.enqueue e, .queued, [])

/-- A MOVE whose outcome is Q (R35, R36). -/
def State.queueMove (s : State) (t : Tier) (a : MoveArgs) : Answer :=
  if zeroAt a (s.prof t) (s.cmdPos t) then (s.completeAtOnce none a.auto [t]).accept
  else s.offer (s.moveEntry t [] a)

/-- The new remaining distance of a retarget, absent where the target lies behind (R37, test 2). -/
def retargetDistance (m : MoveRec) (c : Slew) (target : Option Slew) : Option Nat :=
  match target with
  | none => some m.slew.rem
  | some x =>
    let e := (x - c).toNat
    match m.dir with
    | .cw => if halfTurn < e then none else some e
    | .ccw => if e = 0 then some 0 else if e ≤ halfTurn then none else some (16777216 - e)

/-- Test 5 of a retarget: the ZU's decision and the FM's grant (R51, R111). -/
def State.retargetPasses (s : State) (t : Tier) (m : MoveRec) (c : ClaimRec) (target : Slew) (r : Nat) : Bool :=
  s.retargetable c m.slew.progress r &&
    decide (s.zoneDecision m.cls (c.retargeted m.slew.progress r).arc (decide (m.band ≠ 0))
      [footprint (s.prof t) target (tiltBand m.targetTilt)] = .pass)

/-- A retarget taken (R37, R51, R89). -/
def State.takeRetarget (s : State) (t : Tier) (m : MoveRec) (c : ClaimRec) (target : Slew) (r : Nat) (auto : Bool) :
    State :=
  let e := c.newFinish m.slew.progress r
  let s := (s.modFloor fun f => f.retarget t c e).triggerIf (decide (e < c.finish))
  s.modMoves [t] fun x => { x with targetSlew := target, slew := x.slew.retarget r, auto := x.auto || auto }

/-- MOVE on a MOVING tier (R37). -/
def State.retargetMove (s : State) (t : Tier) (m : MoveRec) (a : MoveArgs) : Answer :=
  if m.auto || decide ((s.tier t).stop ≠ StopReq.none) || !m.members.isEmpty || decide (m.origin ≠ .link) then
    s.refuse .state
  else
    match retargetDistance m (s.cmdPos t).slew a.slew with
    | none => s.refuse .reverse
    | some r =>
      if (a.tilt.map fun x => decide (clampTilt (s.prof t) x ≠ m.targetTilt)).getD false then s.refuse .range
      else if r < braking (s.prof t).slewAcc m.slew.speed then s.refuse .short
      else
        match s.claim t with
        | none => s.refuse .claim
        | some c =>
          let target := a.slew.getD m.targetSlew
          if s.retargetPasses t m c target r then (s.takeRetarget t m c target r a.auto).accept else s.refuse .claim

/-- The MOVE column of the legality table for ROUTE and for a gang member: the refusal, or none where the outcome is Q
(R34). -/
def State.queueCheck (s : State) (t : Tier) : Option Code :=
  match (s.tier t).state with
  | .releasing => none
  | .ready => none
  | .settling => none
  | .testing => some .busy
  | _ => some .state

/-- MOVE (R33 to R37). DESIGN CHOICE (log 18): fields outside their encodings are refused RANGE first; unsafe. -/
def State.serveMove (s : State) (b : Byte) (a : MoveArgs) : Answer :=
  if moveLegal a then
    s.withInstalled b fun t =>
      match s.motionCheck t with
      | some c => s.refuse c
      | none =>
        match (s.tier t).state, (s.tier t).move with
        | .moving, some m => s.retargetMove t m a
        | _, _ =>
          match s.queueCheck t with
          | some c => s.refuse c
          | none => s.queueMove t a
  else s.refuse .range

/-- The checks of R33 and R34 on one member of a GANG-MOVE, or the tier it names (R39). -/
def State.memberCheck (s : State) (b : Byte) : Except Code Tier :=
  match tierOf b with
  | none => .error .range
  | some t =>
    if !s.installed t then .error .noTier
    else
      match s.motionCheck t with
      | some c => .error c
      | none =>
        match s.queueCheck t with
        | some c => .error c
        | none => .ok t

/-- The checks on every member in the order named (R39). -/
def State.membersCheck (s : State) : List Byte → Except Code (List Tier)
  | [] => .ok []
  | b :: bs =>
    match s.memberCheck b with
    | .error c => .error c
    | .ok t =>
      match s.membersCheck bs with
      | .error c => .error c
      | .ok ts => .ok (t :: ts)

/-- A GANG-MOVE of members that have passed R33 and R34: the RANGE cases, the completion of R36, the offer (R39). DESIGN
CHOICE (log 18, log 20): encodings are among the RANGE cases, and an absent target is a zero distance; unsafe. -/
def State.gangOffer (s : State) (count : Nat) (ts : List Tier) (a : MoveArgs) : Answer :=
  match ts with
  | [] => s.refuse .range
  | leader :: members =>
    let dir := resolveDir (moveWay a) (s.cmdPos leader).slew a.slew
    if decide (count < 2 ∨ 4 < count) || !decide ts.Nodup || a.tilt.isSome || !moveLegal a ||
        !s.contiguous dir leader members then s.refuse .range
    else if zeroAt a (s.prof leader) (s.cmdPos leader) then (s.completeAtOnce (some leader) a.auto ts).accept
    else s.offer (s.moveEntry leader members a)

/-- GANG-MOVE (R39). -/
def State.serveGangMove (s : State) (count t0 t1 t2 t3 : Byte) (a : MoveArgs) : Answer :=
  match s.membersCheck ([t0, t1, t2, t3].take count.toNat) with
  | .error c => s.refuse c
  | .ok ts => s.gangOffer count.toNat ts a

/-! ### Routes (R130, R132) -/

/-- The walk record a ROUTE sets active (R132). -/
def WalkRec.started (start : Fin 8) (run : Run) (maint auto : Bool) : WalkRec :=
  ⟨true, start, run, if maint then .maint else .convert, auto, 0, 0, false, none⟩

/-- The RANGE cases of a ROUTE on its own fields; otherwise the walk record it sets (R132). -/
def routeWalk (start run : Byte) (auto maint : Bool) : Option WalkRec :=
  match runOfCode run with
  | none => none
  | some r =>
    if h : start.toNat < 8 then
      if r = .cont ∧ maint = false then none else some (WalkRec.started ⟨start.toNat, h⟩ r maint auto)
    else none

/-- ROUTE on a tier that has passed R33 and R34 (R132, R134; a refused one leaves the old record, DEDUCED, log 29;
unsafe). -/
def State.startWalk (s : State) (t : Tier) (w : WalkRec) : Answer :=
  let walking := s.modWalk t fun _ => w
  match walking.legEntry t with
  | none => s.refuse .range
  | some e =>
    match walking.offerCheck e with
    | some c => s.refuse c
    | none => (walking.enqueue e, .queued, [])

/-- ROUTE (R132). -/
def State.serveRoute (s : State) (b start run : Byte) (auto maint : Bool) : Answer :=
  s.withInstalled b fun t =>
    match s.motionCheck t with
    | some c => s.refuse c
    | none =>
      match s.queueCheck t with
      | some c => s.refuse c
      | none =>
        match routeWalk start run auto maint with
        | none => s.refuse .range
        | some w => s.startWalk t w

/-- The content of a ROUTE-PUT: absent where a field lies outside its encoding (R130). -/
def waypointOf (x : Option WaypointMsg) : Option (Option Waypoint) :=
  match x with
  | none => some none
  | some w =>
    match dirOfCode w.dir.toNat with
    | none => none
    | some d => if w.tilt < 32768 then some (some ⟨w.slew, w.tilt, d⟩) else none

/-- Whether a tier is running a leg of a route walk (R130). -/
def State.onLeg (s : State) (t : Tier) : Bool :=
  let r := s.tier t
  decide (r.state = .moving ∨ r.state = .paused) && decide (r.move.map MoveRec.origin = some .route)

/-- ROUTE-PUT (R130). -/
def State.serveRoutePut (s : State) (b waypoint : Byte) (x : Option WaypointMsg) : Answer :=
  match tierOf b, waypointOf x with
  | some t, some w =>
    if h : waypoint.toNat < 8 then
      if !s.installed t then s.refuse .noTier
      else if s.onLeg t then s.refuse .busy
      else (s.modTier t fun r => { r with route := r.route.set waypoint.toNat w }).accept
    else s.refuse .range
  | _, _ => s.refuse .range

/-! ### Conversions (R119, R128) -/

/-- The checks of CONVERT on the layout it has read (R119, checks 7 to 9). -/
def State.convertLayout (s : State) (n : Fin 16) (l : Layout) : Answer :=
  if s.installedTiers.any (fun t => decide ((s.tier t).state = .unsynced)) then s.refuse .state
  else if (s.convTiersOf l).any (fun t => s.fsu.showLock.getLsbD t) then s.refuse .showLocked
  else if (s.convTiersOf l).any (fun t => decide ((s.tier t).state = .faulted)) then s.refuse .state
  else (s.startConversion n l).accept

/-- CONVERT (R119, R120). -/
def State.serveConvert (s : State) (b : Byte) : Answer :=
  match slotOf b with
  | none => s.refuse .range
  | some n =>
    if s.fsu.failsafe.isSome then s.refuse .failsafe
    else if s.convActive then s.refuse .busy
    else if s.nvsBusy then s.refuse .busy
    else
      match s.slot n with
      | .blank => s.refuse .blank
      | .bad => (s.raiseDevice .store).refuse .blank
      | .written l => s.convertLayout n l

/-- CONVERT-ABORT (R128). -/
def State.serveConvertAbort (s : State) : Answer :=
  if s.cu.state = .running ∨ s.cu.state = .stalled then s.abortConversion.accept else s.accept

/-! ### Budget, samples and brake tests (R112, R142, R145) -/

/-- SET-BUDGET (R112); the reply carries the budget taken in two bytes (DEDUCED, log 27; unsafe). -/
def State.serveBudget (s : State) (n : Nat) : Answer := (s.changeBudget (min 1023 n), .ok, u16 (min 1023 n))

/-- SAMPLE-LOAD (R142). -/
def State.serveSample (s : State) (b : Byte) : Answer := s.withInstalled b fun t => (s.requestSample t true false).accept

/-- The TEST entry of a tier (R145). -/
def testEntry (t : Tier) : Entry where
  kind := .test
  tier := t
  members := []
  cls := none
  targetSlew := none
  dir := none
  targetTilt := none
  auto := false
  origin := .link
  bypass := 0
  sample := .none

/-- BRAKE-TEST (R33, R34, R145). -/
def State.serveTest (s : State) (b : Byte) : Answer :=
  s.withInstalled b fun t =>
    if s.fsu.failsafe.isSome then s.refuse .failsafe
    else
      match (s.tier t).state with
      | .secured => s.offer (testEntry t)
      | .testing => s.refuse .busy
      | _ => s.refuse .state

/-! ### Fail-safe and faults (R164 to R166, R171, R173) -/

/-- FORCE-FAILSAFE (R171). -/
def State.serveForce (s : State) : Answer := (s.enterFailsafe .forced).accept

/-- CLEAR-FAILSAFE (R173); the report of event CLEARED carries the cause that was in force (DEDUCED, log 26; unsafe). -/
def State.serveClearFailsafe (s : State) : Answer :=
  match s.fsu.failsafe with
  | none => s.accept
  | some c =>
    (({ s with fsu := { s.fsu with failsafe := none } } : State).report (.failsafe false c)).trigger.accept

/-- CLEAR-FAULTS of one tier (R164). -/
def State.serveClear (s : State) (b : Byte) : Answer :=
  s.withInstalled b fun t =>
    if (s.tier t).state = .faulted then
      match s.clearTier t with
      | some s => s.accept
      | none => s.refuse .active
    else s.accept

/-- The clear offered to one tier of the walk of R166. -/
def State.offerClear (s : State) (t : Tier) : State :=
  if (s.tier t).state = .faulted then (s.clearTier t).getD s else s

/-- CLEAR-FAULTS of all tiers (R166). -/
def State.serveClearAll (s : State) : Answer :=
  let s := s.installedTiers.foldl State.offerClear (s.clearDevice .store)
  if s.installedTiers.any (fun t => decide ((s.tier t).state = .faulted)) then (s, .active, []) else s.accept

/-! ### Show lock and group locks (R174 to R176) -/

/-- Whether a tier set names a tier above 11. -/
def aboveTiers (x : BitVec 16) : Bool := decide (x.extractLsb' 12 4 ≠ 0)

/-- The tiers 0 to 11 of a tier set. -/
def lowTiers (x : BitVec 16) : TierSet := x.extractLsb' 0 12

/-- SHOW-LOCK (R174). -/
def State.serveShowLock (s : State) (x : BitVec 16) : Answer :=
  if aboveTiers x then s.refuse .range else (s.addShow (lowTiers x)).accept

/-- RELEASE-SHOW (R175). -/
def State.serveReleaseShow (s : State) (x : BitVec 16) : Answer :=
  if aboveTiers x then s.refuse .range
  else if x = 0 then s.accept
  else if s.fsu.key then
    State.accept { s with fsu := { s.fsu with showLock := s.fsu.showLock &&& ~~~(lowTiers x) } }
  else s.refuse .key

/-- The lock state of a group set (R176). -/
def Supervisor.setLock (x : Supervisor) (group : Byte) (locked : Bool) : Supervisor :=
  if group = 0 then { x with profilesLocked := locked }
  else if group = 1 then { x with zonesLocked := locked }
  else { x with layoutsLocked := locked }

/-- LOCK (R176). -/
def State.serveLock (s : State) (group : Byte) : Answer :=
  if 2 < group.toNat then s.refuse .range else State.accept { s with fsu := s.fsu.setLock group true }

/-- UNLOCK (R176). DESIGN CHOICE (log 45): KEY is tested first, also on a group that is UNLOCKED already; unsafe. -/
def State.serveUnlock (s : State) (group : Byte) : Answer :=
  if 2 < group.toNat then s.refuse .range
  else if s.fsu.key then State.accept { s with fsu := s.fsu.setLock group false }
  else s.refuse .key

/-! ### Profiles (R11 to R14, R59) -/

/-- The clamps of R12. -/
def profileClamped (p : ProfileData) : ProfileData :=
  { p with slewMax := min p.slewMax 2047, tiltSpeed := min p.tiltSpeed 63, tiltAcc := min p.tiltAcc 15 }

/-- Whether the fields of a clamped record lie in the ranges of R10 and pass the comparison of R12. -/
def profileLegal (p : ProfileData) : Bool :=
  decide (100 ≤ p.tare ∧ p.tare ≤ 4000 ∧ p.vacancyLimit ≤ 4000) &&
  p.extL.toList.all (fun x => decide (x ≤ 15)) && p.extR.toList.all (fun x => decide (x ≤ 15)) &&
  decide (1 ≤ p.slewMax ∧ 1 ≤ p.slewAcc ∧ 1 ≤ p.tiltSpeed ∧ 1 ≤ p.tiltAcc) &&
  decide (p.slewAcc ≤ p.slewMax ∧ p.tiltAcc ≤ p.tiltSpeed) &&
  decide (p.tiltMax ≤ 32767 ∧ p.hold ≤ 15 ∧ 256 ≤ p.slewFollow ∧ 16 ≤ p.tiltFollow ∧ p.tiltFollow ≤ 4095) &&
  decide (10 ≤ p.releaseTimeout ∧ 10 ≤ p.secureTimeout ∧ 1 ≤ p.loadScale) &&
  decide (10 ≤ p.testTorque ∧ p.testTorque ≤ 100 ∧ 10 ≤ p.testDuration ∧ p.testDuration ≤ 200)

/-- Whether a tier's profile may be written in its state (R11, check 3). -/
def State.atRest (s : State) (t : Tier) : Bool :=
  decide ((s.tier t).state = .secured) || decide ((s.tier t).state = .unsynced)

/-- Whether the footprints of a standing tier differ under two profiles (R11, check 6). -/
def State.extentsDiffer (s : State) (t : Tier) (p : ProfileData) : Bool :=
  let k := tiltBand (s.cmdPos t).tilt
  decide (((s.prof t).extL.get k, (s.prof t).extR.get k) ≠ (p.extL.get k, p.extR.get k))

/-- The re-mark of a standing tier to its footprint under a new profile, a cell release where it frees a cell (R59). -/
def State.remark (s : State) (t : Tier) (p : ProfileData) : Option State :=
  let k := tiltBand (s.cmdPos t).tilt
  let a := footprint p (s.cmdPos t).slew k
  if s.fm.canPlace t [] a then
    some ((s.modFloor fun m => m.place t a).triggerIf ((s.standing t).cells.any fun g => !a.mem g))
  else none

/-- A profile taken: it is set with its valid flag on, and CONFIG-PROFILES is cleared (R11, R167). -/
def State.takeProfile (s : State) (t : Tier) (p : ProfileData) : State :=
  State.clearDevice { s with profiles := s.profiles.set t ⟨true, p⟩ } .configProfiles

/-- PROFILE-PUT on its tier with the clamped record, from check 2 on (R11). -/
def State.putProfile (s : State) (t : Tier) (p : ProfileData) : Answer :=
  let secured := s.installed t && decide ((s.tier t).state = .secured)
  if s.fsu.profilesLocked then s.refuse .locked
  else if s.installed t && !s.atRest t then s.refuse .busy
  else if !profileLegal p then s.refuse .range
  else if secured && decide (p.tiltMax < (s.cmdPos t).tilt) then s.refuse .range
  else if secured && s.extentsDiffer t p then
    match s.remark t p with
    | some x => (x.takeProfile t p).accept
    | none => s.refuse .claim
  else (s.takeProfile t p).accept

/-- PROFILE-PUT (R11, R12). -/
def State.servePutProfile (s : State) (b : Byte) (p : ProfileData) : Answer :=
  s.withTier b fun t => s.putProfile t (profileClamped p)

/-- PROFILE-GET (R14). -/
def State.serveGetProfile (s : State) (b : Byte) : Answer :=
  s.withTier b fun t => (s, .ok, flag (s.profiles.get t).valid ++ profileBytes (s.prof t))

/-! ### Zones (R74 to R76) -/

/-- A zone from its byte. -/
def zoneOf (b : Byte) : Option (Fin 6) := if h : b.toNat < 6 then some ⟨b.toNat, h⟩ else none

/-- The zone record of a ZONE-PUT; absent where a value lies outside those of R64. -/
def zoneRecordOf (z : ZoneMsg) : Option ZoneRec :=
  match classesOfCode z.classes, modeOfCode z.mode, tripOfCode z.trip with
  | some c, some m, some t => some ⟨z.enable, z.base, z.mask, c, m, z.noStop, t⟩
  | _, _, _ => none

/-- A zone record taken: the table is valid, CONFIG-ZONES is cleared, and a scan is due (R74, R75, R101). -/
def State.takeZone (s : State) (n : Fin 6) (z : ZoneRec) : State :=
  (State.clearDevice { s with zu := { s.zu with zones := s.zu.zones.set n z, valid := true } } .configZones).trigger

/-- ZONE-PUT (R75). -/
def State.servePutZone (s : State) (b : Byte) (z : ZoneMsg) : Answer :=
  match zoneOf b with
  | none => s.refuse .range
  | some n =>
    if s.fsu.zonesLocked then s.refuse .locked
    else if s.fm.claims.toList.any Option.isSome then s.refuse .busy
    else
      match zoneRecordOf z with
      | none => s.refuse .range
      | some x => (s.takeZone n x).accept

/-- ZONE-GET (R76). -/
def State.serveGetZone (s : State) (b : Byte) : Answer :=
  match zoneOf b with
  | none => s.refuse .range
  | some n =>
    let z := s.zu.zones.get n
    (s, .ok, zoneBytes z ++ flag s.zu.valid ++
      match z.trip with
      | none => [0xFF]
      | some i => flag (s.zu.levels.get i))

/-! ### The site record (R16, R184, R185) -/

/-- The site record of a SITE-SET; absent where a field lies outside its range (R184). -/
def siteOf (m : SiteMsg) : Option Site :=
  match watchdogOfCode m.watchdog with
  | none => none
  | some w =>
    if aboveTiers m.installed || aboveTiers m.showLock || aboveTiers m.masks || decide (m.creep = 0) ||
        decide (16 < m.boundary.toNat) then none
    else some ⟨lowTiers m.installed, w, m.creep.toNat, min 1023 m.budget, lowTiers m.showLock, m.boundary.toNat,
      lowTiers m.masks⟩

/-- The conversion loses a tier that leaves the installed set and is still WAITING without an entry (R16, R98, R125; DESIGN
CHOICE, log 28; unsafe). -/
def State.convTierRemoved (s : State) (t : Tier) : State :=
  if s.convActive && decide ((s.convTier t).status = .waiting) then (s.convDropWith t .noTier).convCheck else s

/-- A tier leaves the installed set: its entry, cells, records, sample, channel and link record go (R16, R151, R154). -/
def State.removeTier (s : State) (t : Tier) : State :=
  let s := (s.removeEntryOf t .noTier).convTierRemoved t
  let s := if s.fm.ownsAny t then (s.modFloor fun m => m.freeAll t).trigger else s
  { s with
    tiers := s.tiers.set t (TierRec.reset (s.tier t).brakeWeak)
    lc := { s.lc with samples := s.lc.samples.set t .none, fifo := s.lc.fifo.filter fun c => decide (c.tier ≠ t) }
    dlp := { s.dlp with links := s.dlp.links.set t LinkRec.reset, txList := s.dlp.txList.filter fun r => decide (r.tier ≠ t) } }

/-- A tier joins the installed set: it enters UNSYNCED, with its TIER-STATE report, and its link record starts anew
(R16, R20, R154). -/
def State.addTier (s : State) (t : Tier) : State :=
  State.report { s with
    tiers := s.tiers.set t (TierRec.reset (s.tier t).brakeWeak)
    dlp := { s.dlp with links := s.dlp.links.set t LinkRec.reset } } (.tierState t .unsynced)

/-- A SITE-SET that has passed its checks (R16, R170, R185). -/
def State.takeSite (s : State) (x : Site) : State :=
  let gone : List Tier := s.installedTiers.filter fun (t : Tier) => !x.installed.getLsbD t
  let new : List Tier := allTiers.filter fun (t : Tier) => x.installed.getLsbD t && !s.installed t
  let s := gone.foldl State.removeTier s
  let s : State := { s with
    site := x
    siteSetTaken := true
    fsu := { s.fsu with watchdog := s.fsu.watchdog.resetFor x.watchdog } }
  (new.foldl State.addTier s).trigger

/-- SITE-SET (R184). -/
def State.serveSite (s : State) (m : SiteMsg) : Answer :=
  if s.siteSetTaken then s.refuse .once
  else
    match siteOf m with
    | none => s.refuse .range
    | some x => if s.installedTiers.all s.atRest then (s.takeSite x).accept else s.refuse .busy

/-! ### RESTART (R192) -/

/-- RESTART: no further request is handled, and the frames held are discarded (R192). -/
def State.serveRestart (s : State) : Answer :=
  if !s.installedTiers.all s.atRest || s.nvsBusy then s.refuse .busy
  else State.accept { s with clp := { s.clp with restart := .waiting, hold := [] } }

end Sys2Proof.Machine
end

