-- ==== Sys2Proof/Machine/Queries.lean ====
section
/-! DEFINITION. The query requests (R63, R96, R99, R161, R183) and the layouts of their replies (chapter 11, Selected
reply bodies). -/

namespace Sys2Proof.Machine

/-! ### QUERY-MAP (R63) -/

/-- The state byte of a cell entry. -/
def CellState.byte : CellState → Byte
  | .free => 0
  | .held o => BitVec.ofNat 8 (16 + o.val)
  | .claimed o => BitVec.ofNat 8 (32 + o.val)

/-- The entries of a QUERY-MAP reply. -/
def State.mapEntries (s : State) (first : Cell) (n : Nat) : List Byte :=
  ((List.range n).map fun i =>
    let g := first + BitVec.ofNat 8 i
    [g, (s.fm.at g).byte]).flatten

/-- QUERY-MAP (R63). -/
def State.serveMap (s : State) (first count : Byte) : Answer :=
  if count = 0 ∨ 64 < count.toNat then s.refuse .range
  else (s, .ok, [first, count] ++ s.mapEntries first count.toNat)

/-! ### QUERY-QUEUE and QUERY-GRANTS (R96, R99) -/

/-- The sample state codes. -/
def SampleState.byte : SampleState → Byte
  | .none => 0
  | .pending => 1
  | .done => 2

/-- The flag byte of an auto-secure flag and a class. -/
def moveFlags (slew tilt auto : Bool) (c : Option MClass) : Byte :=
  bits [(0, slew), (1, tilt), (2, auto), (3, decide (c = some .maint))]

/-- The direction byte of an entry. -/
def dirByte (d : Option Dir) : Byte :=
  match d with
  | some d => d.byte
  | none => 0xFF

/-- The 14 bytes of a queue entry. -/
def Entry.bytes (e : Entry) : List Byte :=
  [e.kind.byte] ++ u8 e.tier.val ++ set12 (tierSet e.members) ++
    [moveFlags e.targetSlew.isSome e.targetTilt.isSome e.auto e.cls, dirByte e.dir] ++
    slewBytes (e.targetSlew.getD 0) ++ u16 (e.targetTilt.getD 0) ++ [e.origin.byte] ++ u8 e.bypass ++ [e.sample.byte]

/-- QUERY-QUEUE (R96). -/
def State.serveQueue (s : State) : Answer :=
  (s, .ok, u8 s.aa.queue.length ++ (s.aa.queue.map Entry.bytes).flatten)

/-- The class byte of a grant. -/
def classByte (c : Option MClass) : Byte :=
  match c with
  | some c => c.byte
  | none => 0xFF

/-- The 10 bytes of a grant. -/
def Grant.bytes (g : Grant) : List Byte :=
  [g.kind.byte] ++ u8 g.leader.val ++ set12 (tierSet g.members) ++ [classByte g.cls] ++ u16 g.alloc ++
    capBytes (g.cap.getD 0) ++ flag g.derated

/-- QUERY-GRANTS (R95, R99). -/
def State.serveGrants (s : State) : Answer :=
  (s, .ok, u16 s.aa.budget ++ u16 s.allocated ++ u16 s.remaining ++ u8 s.aa.grants.length ++
    (s.aa.grants.map Grant.bytes).flatten)

/-! ### QUERY-TIER (R18, R161) -/

/-- A position, zeros where it is absent. -/
def posOrZero (p : Option Pos) : List Byte := posBytes (p.getD ⟨0, 0⟩)

/-- The move record of a tier. -/
def moveBytes (m : Option MoveRec) : List Byte :=
  match m with
  | none => List.replicate 13 0
  | some m =>
    [1] ++ u8 m.leader.val ++ set12 (tierSet (m.tiers.filter fun t => decide (t ≠ m.leader))) ++
      [moveFlags false false m.auto (some m.cls), m.origin.byte] ++ slewBytes m.targetSlew ++ [m.dir.byte] ++
      u16 m.targetTilt ++ u8 m.band.val

/-- The code of a tilt direction. -/
def TiltDir.byte : TiltDir → Byte
  | .none => 0
  | .up => 1
  | .down => 2

/-- The slew progress, which retargets can take beyond what three bytes hold: R77 counts it without wrap, and what the field
then carries is a free value (DESIGN CHOICE, log 22; safe). -/
def progressBytes (n : Nat) : List Byte := u24 (if n < 16777216 then n else (Config.longProgress n).toNat)

/-- The two generator records of a tier. -/
def genBytes (m : Option MoveRec) : List Byte :=
  match m with
  | none => List.replicate 14 0
  | some m =>
    u16 m.slew.speed ++ u24 m.slew.rem ++ [bits [(0, m.slew.latch), (1, m.slew.finished), (2, m.slew.creep)]] ++
      progressBytes m.slew.progress ++ [m.tilt.dir.byte] ++ u8 m.tilt.speed ++ u16 m.tilt.rem ++
      [bits [(0, m.tilt.latch), (1, m.tilt.finished)]]

/-- The stop request and the halt reason. -/
def stopBytes (q : StopReq) : List Byte :=
  match q with
  | .none => [0, 0xFF]
  | .halt r => [1, r.byte]
  | .pause => [2, 0xFF]
  | .quick => [3, 0xFF]

/-- The claim arc of a tier. -/
def claimBytes (c : Option ClaimRec) : List Byte :=
  match c with
  | none => [0, 0, 0, 0]
  | some c => [1, c.arc.first] ++ u16 c.arc.len

/-- The fault record of a tier, with its active set (R163). -/
def faultBytes (r : FaultRec) (active : KindSet) : List Byte :=
  set12 r.latched ++ set12 active ++
    match r.first with
    | none => [0xFF, 0xFF] ++ posBytes ⟨0, 0⟩
    | some f => u8 f.kind.bit ++ [f.met.byte] ++ posBytes f.pos

/-- One waypoint of a route table. -/
def waypointBytes (w : Option Waypoint) : List Byte :=
  match w with
  | none => List.replicate 6 0
  | some w => [flagDir true w.dir.code] ++ slewBytes w.slew ++ u16 w.tilt

/-- The walk record of a tier. -/
def walkBytes (w : WalkRec) : List Byte :=
  flag w.active ++ u8 w.start.val ++ [w.run.byte, moveFlags false false w.auto (some w.cls)] ++ u8 w.leg ++
    u16 w.completed ++ [if w.ending then 0x23 else 0xFF]

/-- The sample record of a tier. -/
def sampleBytes (x : Sample) : List Byte :=
  match x with
  | .none => [0, 0, 0, 0, 0, 0]
  | .valid n l fresh => [1] ++ u16 n ++ u16 l ++ flag fresh
  | .outOfRange n => [2] ++ u16 n ++ [0, 0, 0]

/-- The test record of a tier. -/
def testBytes (x : Option TestRec) : List Byte :=
  match x with
  | none => List.replicate 9 0
  | some x =>
    [1] ++ u8 x.torque ++ u8 x.duration ++ u16 x.slipLimit ++ flag x.lastSlip.isSome ++ u16 (x.lastSlip.getD 0) ++
      (match x.result with
       | none => [0xFF]
       | some r => [r.byte])

/-- The last feedback of a link record. -/
def lastBytes (f : Option Feedback) : List Byte :=
  match f with
  | none => List.replicate 9 0
  | some f => [1] ++ posBytes ⟨f.slew, f.tilt⟩ ++ [f.brakeByte] ++ u16 f.slip

/-- The latest sent parity. -/
def parityByte (x : Option Bool) : Byte :=
  match x with
  | none => 0xFF
  | some odd => if odd then 1 else 0

/-- The link record of a tier (R161). -/
def linkBytes (l : LinkRec) : List Byte :=
  [parityByte l.latestSent] ++ flag l.answered ++ flag l.timer ++ flag l.lost ++ [l.reported.zeroExtend 8] ++
    lastBytes l.last ++ u16 l.stale

/-- The state byte of a tier; a tier that is not installed has no state (log 33; safe). -/
def State.stateByte (s : State) (t : Tier) : Byte :=
  if s.installed t then (s.tier t).state.byte else Config.uninstalledStateByte

/-- The fields of a QUERY-TIER reply. -/
def State.tierBytes (s : State) (t : Tier) : List Byte :=
  let r := s.tier t
  u8 t.val ++ [s.stateByte t] ++
    ([bits [(0, r.cmd.isSome), (1, r.act.isSome)]] ++ posOrZero r.cmd ++ posOrZero r.act) ++
    moveBytes r.move ++ genBytes r.move ++ stopBytes r.stop ++ flag r.securePending ++
    [bits [(0, r.loadRange), (1, r.brakeWeak)]] ++ claimBytes (s.claim t) ++
    faultBytes r.fault (s.activeKinds t) ++ (r.route.toList.map waypointBytes).flatten ++ walkBytes r.walk ++
    sampleBytes (s.sample t) ++ testBytes r.test ++ linkBytes (s.link t)

/-- QUERY-TIER (R161). -/
def State.serveTier (s : State) (b : Byte) : Answer := s.withTier b fun t => (s, .ok, s.tierBytes t)

/-! ### QUERY-STATUS (R183) -/

/-- The code of a watchdog timer state. -/
def WatchdogTimer.byte : WatchdogTimer → Byte
  | .notStarted => 0
  | .running _ => 1
  | .expired => 2

/-- The code of the NVS state (R183). DEDUCED (log 46) from the order of the operations in STORE-DONE: 1 SAVE-SETTINGS, 2
LAYOUT-ERASE, 3 LAYOUT-WRITE; unsafe. -/
def opByte (o : Option StoreOp) : Byte :=
  match o with
  | none => 0
  | some (.save _ _ _) => 1
  | some (.erase _) => 2
  | some (.write _ _) => 3

/-- The code of a conversion state. -/
def ConvState.byte : ConvState → Byte
  | .idle => 0
  | .running => 1
  | .stalled => 2
  | .aborting => 3
  | .done => 4
  | .aborted => 5

/-- The per-tier byte of the conversion record. -/
def ConvTier.byte (c : ConvTier) : Byte :=
  let status : Nat :=
    match c.status with
    | .out => 0
    | .waiting => 1
    | .moving => 2
    | .done => 3
    | .dropped => 4
  let entry : Nat :=
    match c.entry with
    | .none => 0
    | .queued => 1
    | .pending => 2
  BitVec.ofNat 8 (status + 16 * entry + if c.releaseWanted then 64 else 0)

/-- The slot byte of the conversion record. -/
def slotByte (n : Option (Fin 16)) : Byte :=
  match n with
  | some n => BitVec.ofNat 8 n.val
  | none => 0xFF

/-- The conversion record (R118); without a copied layout the name is zeros and the end-secure byte has no value in the
manual (log 22; safe). -/
def Conv.bytes (c : Conv) : List Byte :=
  [c.state.byte, slotByte c.slot] ++ u8 c.total ++ u8 c.done ++ u8 c.dropped ++
    (match c.layout with
     | some l => l.name.toList ++ flag l.endSecure
     | none => List.replicate 16 0 ++ [Config.idleEndSecureByte]) ++ (c.tiers.toList.map ConvTier.byte)

/-- The fail-safe state and cause (R171). -/
def failsafeBytes (c : Option Cause) : List Byte :=
  match c with
  | none => [0, Config.inactiveCauseByte]
  | some c => [1, c.byte]

/-- The fields of a QUERY-STATUS reply. -/
def State.statusBytes (s : State) : List Byte :=
  failsafeBytes s.fsu.failsafe ++ [(s.fsu.device.extractLsb' 8 3).zeroExtend 8] ++ set12 s.site.masks ++
    [Config.faultLineByte s.faultLine, s.site.watchdog.byte, s.fsu.watchdog.byte] ++ set12 s.fsu.showLock ++
    [bits [(0, s.fsu.profilesLocked), (1, s.fsu.zonesLocked), (2, s.fsu.layoutsLocked)]] ++ flag s.fsu.key ++
    flag s.zu.valid ++ [opByte s.nvs.op] ++ u8 s.nvs.boundary ++ flag s.siteLoaded ++ flag s.siteSetTaken ++
    siteBytes s.site ++ s.cu.bytes ++ flag s.clp.reportOverrun ++ flag s.clp.rxOverrun

/-- QUERY-STATUS: both overrun flags are returned and then cleared (R183). -/
def State.serveStatus (s : State) : Answer :=
  ({ s with clp := { s.clp with reportOverrun := false, rxOverrun := false } }, .ok, s.statusBytes)

/-! ### Every request -/

/-- A request goes to the block that owns it (R180, step 3). -/
def State.serve (s : State) : Request → Answer
  | .release t => s.serveRelease t
  | .secure t => s.serveSecure t
  | .secureAll => s.serveSecureAll
  | .move t a => s.serveMove t a
  | .gangMove n t0 t1 t2 t3 a => s.serveGangMove n t0 t1 t2 t3 a
  | .halt t => s.serveHalt t
  | .haltAll => s.serveHaltAll
  | .pause t => s.servePause t
  | .resume t => s.serveResume t
  | .route t st run auto maint => s.serveRoute t st run auto maint
  | .routePut t w x => s.serveRoutePut t w x
  | .convert n => s.serveConvert n
  | .convertAbort => s.serveConvertAbort
  | .setBudget b => s.serveBudget b
  | .sampleLoad t => s.serveSample t
  | .brakeTest t => s.serveTest t
  | .forceFailsafe => s.serveForce
  | .clearFailsafe => s.serveClearFailsafe
  | .clearFaults t => s.serveClear t
  | .clearFaultsAll => s.serveClearAll
  | .showLock x => s.serveShowLock x
  | .releaseShow x => s.serveReleaseShow x
  | .lock g => s.serveLock g
  | .unlock g => s.serveUnlock g
  | .siteSet m => s.serveSite m
  | .profilePut t p => s.servePutProfile t p
  | .profileGet t => s.serveGetProfile t
  | .zonePut z r => s.servePutZone z r
  | .zoneGet z => s.serveGetZone z
  | .saveSettings => s.serveSave
  | .layoutErase n => s.serveErase n
  | .layoutWrite n l => s.serveWrite n l
  | .layoutRead n => s.serveRead n
  | .protectLayouts n => s.serveProtect n
  | .queryStatus => s.serveStatus
  | .queryTier t => s.serveTier t
  | .queryMap f c => s.serveMap f c
  | .queryQueue => s.serveQueue
  | .queryGrants => s.serveGrants
  | .restart => s.serveRestart

end Sys2Proof.Machine
end

