-- ==== Sys2Proof/Machine/Link.lean ====
section
/-! DEFINITION. The Command Link Port (R177 to R182, R192): the receive framer, the handling and holding of frames, the
reply list and the transmitter. -/

namespace Sys2Proof.Machine

/-- A change of the Command Link Port. -/
def State.modPort (s : State) (f : LinkPort → LinkPort) : State := { s with clp := f s.clp }

/-- Whenever the transmitter is idle it begins the oldest reply, or else the oldest report; nothing follows the reply of a
RESTART (R181, R192). -/
def LinkPort.kick (p : LinkPort) : LinkPort :=
  match p.tx with
  | .idle =>
    if !p.replies.isEmpty then { p with tx := .reply }
    else if !p.reports.isEmpty && decide (p.restart ≠ .due) then { p with tx := .report }
    else p
  | _ => p

/-- The transmitter goes on at the end of an event (R181). -/
def State.kick (s : State) : State := s.modPort LinkPort.kick

/-- A reply enters the reply list (R181). -/
def LinkPort.push (p : LinkPort) (tag kind : Byte) (a : Code × List Byte) : LinkPort :=
  { p with replies := p.replies ++ [⟨tag, replyKind kind a.1, a.1, a.2⟩] }

/-- A request handled whole, with its one reply (R180). -/
def State.answer (s : State) (tag kind : Byte) (r : Request) : State :=
  (s.serve r).1.modPort fun p => p.push tag kind (s.serve r).2

/-- A valid frame handled (R180). -/
def State.handle (s : State) (f : Frame) : State :=
  match parseFrame f with
  | .error c => s.modPort fun p => p.push f.tag f.kind (c, [])
  | .ok r => s.answer f.tag f.kind r

/-- A frame held (R179). -/
def LinkPort.keep (p : LinkPort) (f : Frame) : LinkPort := { p with hold := p.hold ++ [f] }

/-- A valid frame at the moment it is complete: it acts on the watchdog and is handled or held; it is discarded while a
RESTART waits, or while 4 frames are held (R169, R179, R192). -/
def State.completeFrame (s : State) (f : Frame) : State :=
  if s.clp.restart ≠ .none then s
  else if s.clp.replies.length < 8 then s.kickWatchdog.handle f
  else if s.clp.hold.length < 4 then s.kickWatchdog.modPort fun p => p.keep f
  else s.modPort fun p => { p with rxOverrun := true }

/-- The receive framer set. -/
def State.setFramer (s : State) (x : Framer) : State := s.modPort fun p => { p with framer := x }

/-- One byte received on HRX (R177, R178). -/
def State.linkByte (s : State) (b : Byte) : State :=
  match s.clp.framer with
  | .hunt => if b = 0xA5 then s.setFramer .length else s
  | .length => s.setFramer (if b.toNat ≤ 248 then .tag b else .hunt)
  | .tag len => s.setFramer (.kind len b)
  | .kind len tag => s.setFramer (if len = 0 then .checkHigh len tag b [] else .body len tag b [])
  | .body len tag kind got =>
    let got := got ++ [b]
    s.setFramer (if got.length < len.toNat then .body len tag kind got else .checkHigh len tag kind got)
  | .checkHigh len tag kind got => s.setFramer (.checkLow len tag kind got b)
  | .checkLow len tag kind got high =>
    let s := s.setFramer .hunt
    if setBytes (crc (len :: tag :: kind :: got)) = [high, b] then (s.completeFrame ⟨tag, kind, got⟩).kick else s

/-- The bytes of a frame received one after another. -/
def State.linkBytesIn (s : State) (bs : List Byte) : State := bs.foldl State.linkByte s

/-- A request of the table where a frame that carries it is handled: handled while the reply list has room, held while the
hold list has, discarded otherwise and while a RESTART waits (R179, R180, R192). DESIGN CHOICE (log 5):
the row is the frame without its action on the watchdog; unsafe. -/
def State.request (s : State) (tag : Byte) (r : Request) : State :=
  if s.clp.restart ≠ .none then s
  else if s.clp.replies.length < 8 then s.answer tag (requestBytes r).1 r
  else if s.clp.hold.length < 4 then s.modPort fun p => p.keep (requestFrame tag r)
  else s.modPort fun p => { p with rxOverrun := true }

/-- The oldest held frame is handled when the reply list has room again (R179). -/
def State.takeHeld (s : State) : State :=
  match s.clp.hold with
  | [] => s
  | f :: rest =>
    if s.clp.replies.length < 8 then (s.modPort fun p => { p with hold := rest }).handle f else s

/-- The transmitter completes a reply frame (R179, R181, R192). -/
def State.replySent (s : State) : State :=
  match s.clp.tx, s.clp.replies with
  | .reply, _ :: rest =>
    let s := s.modPort fun p => { p with replies := rest, tx := .idle }
    let last := decide (s.clp.restart = .waiting) && rest.isEmpty
    if last then s.modPort fun p => { p with restart := .due } else s.takeHeld
  | _, _ => s

/-- The transmitter completes a report frame (R181, R182). -/
def State.reportSent (s : State) : State :=
  match s.clp.tx with
  | .report => s.modPort fun p => { p with reports := p.reports.tail, tx := .idle }
  | _ => s

/-- The gap timeout, or a byte with a stop-bit error: the frame being assembled is discarded (R177). -/
def State.dropFrame (s : State) : State := s.setFramer .hunt

/-- A length byte above 248 discards the frame (R177). -/
def State.badLength (s : State) : State := if s.clp.framer = .length then s.setFramer .hunt else s

end Sys2Proof.Machine
end

