-- ==== Sys2Proof/Machine/Events.lean ====
section
/-! DEFINITION. The events that reach the part from its timers and pins (R22 to R24, R27, R70 to R72, R147, R176), and the
frame every command shares. -/

namespace Sys2Proof.Machine

/-- The outcome of a command that acts only while the part runs: its effect, after which the command-link transmitter goes
on (R181). In start-up, in reset and without power nothing happens (R177, R191; DEDUCED, log 8; unsafe). -/
def State.during (s : State) (f : State → State) : Host.Outcome State Fault Refusal :=
  .next (if s.running then (f s).kick else s)

/-- The outcome of a command of the drive link's receiver, which receives at every moment: in start-up as well (R153; the
receiver held back in start-up is the command link's, R177). -/
def State.duringDrive (s : State) (f : State → State) : Host.Outcome State Fault Refusal :=
  if s.phase = .startUp then .next (f s) else s.during f

/-! ### Timers -/

/-- A running brake timer runs out: BRAKE-STUCK (R22 to R24). -/
def State.brakeExpire (s : State) (t : Tier) : State :=
  (s.modTier t fun r => { r with brakeTimer := .stopped }).raiseFault t .brakeStuck

/-- The RELEASE-WAIT timer runs out, if it is running (R22). -/
def State.releaseWaitExpire (s : State) (t : Tier) : State :=
  match (s.tier t).brakeTimer with
  | .releaseWait _ => s.brakeExpire t
  | _ => s

/-- The SECURE-WAIT timer runs out, if it is running (R23). -/
def State.secureWaitExpire (s : State) (t : Tier) : State :=
  match (s.tier t).brakeTimer with
  | .secureWait _ => s.brakeExpire t
  | _ => s

/-- The WATCH timer runs out, if it is running (R24). -/
def State.watchExpire (s : State) (t : Tier) : State :=
  match (s.tier t).brakeTimer with
  | .watch _ => s.brakeExpire t
  | _ => s

/-- The settle timer runs out, if it is running (R27). -/
def State.settleTimeout (s : State) (t : Tier) : State :=
  if (s.tier t).settleTimer.isSome then s.settleExpire t else s

/-- The verdict of a test record (R147). -/
def TestRec.verdict (x : TestRec) : TestResult :=
  match x.lastSlip with
  | none => .aborted
  | some n => if x.slipLimit < n then .fail else .pass

/-- The brake-weak restriction after a verdict (R147, R149). -/
def weakAfter (v : TestResult) (weak : Bool) : Bool :=
  match v with
  | .pass => false
  | .fail => true
  | .aborted => weak

/-- The test timer runs out, if it is running: verdict, report, allocation and state, in that order (R147). -/
def State.testExpire (s : State) (t : Tier) : State :=
  match (s.tier t).testTimer, (s.tier t).test with
  | some _, some x =>
    let v := x.verdict
    let weak := weakAfter v (s.tier t).brakeWeak
    let s := s.modTier t fun r => { r with testTimer := none, brakeWeak := weak, test := some { x with result := some v } }
    ((s.report (.brakeTest t v x.lastSlip x.slipLimit weak)).freeGrant t).enterSecured t
  | _, _ => s

/-! ### Trip inputs (R70 to R72) -/

/-- The level at a TRIP pin set. -/
def State.setTripPin (s : State) (i : Input) (b : Bool) : State :=
  { s with pins := { s.pins with trips := s.pins.trips.set i b } }

/-- The level the ZU holds for an input set. -/
def State.setLevel (s : State) (i : Input) (b : Bool) : State :=
  { s with zu := { s.zu with levels := s.zu.levels.set i b } }

/-- The active edge of an input while the part runs: the level, and a trip application sent to the FM (R71). -/
def State.tripRises (s : State) (i : Input) : State :=
  if s.zu.levels.get i then s
  else
    let s := s.setLevel i true
    { s with zu := { s.zu with due := s.zu.due ++ [.application i] } }

/-- The inactive edge of an input while the part runs: the level, the trip clearing, and the TRIP report, which follows the
report of a trip application still to be taken (R72). -/
def State.tripFalls (s : State) (i : Input) : State :=
  if s.zu.levels.get i then
    let s := (s.setLevel i false).trigger
    if s.zu.due.contains (.application i) then { s with zu := { s.zu with due := s.zu.due ++ [.inactiveReport i] } }
    else s.report (.trip i false [])
  else s

/-- The inactive reports of an input that stand before its next application leave the list; answers how many. -/
def dropReports (i : Input) : List TripItem → List TripItem × Nat
  | [] => ([], 0)
  | .application j :: rest =>
    if j = i then (.application j :: rest, 0)
    else (.application j :: (dropReports i rest).1, (dropReports i rest).2)
  | .inactiveReport j :: rest =>
    if j = i then ((dropReports i rest).1, (dropReports i rest).2 + 1)
    else (.inactiveReport j :: (dropReports i rest).1, (dropReports i rest).2)

/-- The oldest application of an input leaves the list, and with it the inactive reports that waited for it. -/
def takeApplication (i : Input) : List TripItem → Option (List TripItem × Nat)
  | [] => none
  | .application j :: rest =>
    if j = i then some (dropReports i rest)
    else (takeApplication i rest).map fun x => (.application j :: x.1, x.2)
  | x :: rest => (takeApplication i rest).map fun y => (x :: y.1, y.2)

/-- The tiers a trip application finds: MOVING or PAUSED with a claimed cell in the trip set (R71). -/
def State.tripFinds (s : State) (i : Input) : List Tier :=
  s.installedTiers.filter fun t =>
    decide ((s.tier t).state = .moving ∨ (s.tier t).state = .paused) && s.claimTripped i t

/-- The tiers a trip application stops, with every member of their gangs, those already stopped left out (R71). -/
def State.tripStops (s : State) (i : Input) : List Tier :=
  let hit := (s.tripFinds i).flatMap s.gangOf
  allTiers.filter fun t => hit.contains t && decide ((s.tier t).stop ≠ StopReq.quick)

/-- The quick stops of a trip application and its TRIP report (R71). DESIGN CHOICE (log 15): the stops are made in ascending
order of the tiers found; unsafe. -/
def State.tripStop (s : State) (i : Input) : State :=
  (State.eachGang State.quickStop (s.tripFinds i) s).report (.trip i true (s.tripStops i))

/-- The FM takes the oldest trip application of an input, if one is due (R71, R72; DESIGN CHOICE, log 7; safe). -/
def State.tripApply (s : State) (i : Input) : State :=
  match takeApplication i s.zu.due with
  | none => s
  | some x =>
    let s : State := { s with zu := { s.zu with due := x.1 } }
    (s.tripStop i).reportAll (List.replicate x.2 (.trip i false []))

/-- The KEY level held by the FSU set (R176). -/
def State.setKey (s : State) (b : Bool) : State := { s with fsu := { s.fsu with key := b } }

/-- The level at the KEY pin set. -/
def State.setKeyPin (s : State) (b : Bool) : State := { s with pins := { s.pins with key := b } }

/-! ### Scans (R101) -/

/-- The AA answers the oldest scan trigger that is due, if there is one, with one full scan (DESIGN CHOICE, log 6;
unsafe). -/
def State.dueScan (s : State) : State :=
  match s.aa.scansDue with
  | 0 => s
  | n + 1 => State.scan { s with aa := { s.aa with scansDue := n } }

end Sys2Proof.Machine
end

