-- ==== Sys2Proof/Machine/PowerCommands.lean ====
section
/-! DEFINITION. The commands of power, RESET and start-up (R186, R191, R192), one meaning for each. -/

namespace Sys2Proof.Machine

/-- The transmitter goes on if the part runs (R181). -/
def State.kickIfRunning (s : State) : State := if s.running then s.kick else s

/-- POWER_ON. Power is applied (R191). -/
def execPowerOn (s : State) : Host.Outcome State Fault Refusal :=
  .next s.powerOn

/-- RESET_LINE_LOW. The RESET line goes low (R191). -/
def execResetLineLow (s : State) : Host.Outcome State Fault Refusal :=
  .next s.resetFalls

/-- RESET_LINE_RISING_EDGE. The RESET line rises (R191). -/
def execResetLineRisingEdge (s : State) : Host.Outcome State Fault Refusal :=
  .next s.resetRises

/-- STARTUP_COMPLETE. Start-up completes, and the transmitter begins the first report (R191). -/
def execStartupComplete (s : State) : Host.Outcome State Fault Refusal :=
  .next s.completeStartUp.kickIfRunning

/-- RESTART_STARTUP. Start-up after the reply of a taken RESTART has been sent; brake-weak restrictions are kept (R192). -/
def execRestartStartup (s : State) : Host.Outcome State Fault Refusal :=
  .next (if s.running && decide (s.clp.restart = .due) then s.boot true else s)

/-- LOSS_OF_POWER. Power is lost (R186). -/
def execLossOfPower (s : State) : Host.Outcome State Fault Refusal :=
  .next s.losePower

end Sys2Proof.Machine
end

