-- ==== Sys2Proof/Machine/RequestCommands.lean ====
section
/-! DEFINITION. The request commands: each is its request where a frame that carries it is handled (R179, R180), with the
effect and the reply that the block which owns it gives. -/

namespace Sys2Proof.Machine

/-- RELEASE (R22). -/
def execRelease (tag tier : Byte) (s : State) : Host.Outcome State Fault Refusal :=
  s.during fun x => x.request tag (.release tier)

/-- SECURE (R23). -/
def execSecure (tag tier : Byte) (s : State) : Host.Outcome State Fault Refusal :=
  s.during fun x => x.request tag (.secure tier)

/-- SECURE_ALL (R38). -/
def execSecureAll (tag : Byte) (s : State) : Host.Outcome State Fault Refusal :=
  s.during fun x => x.request tag .secureAll

/-- MOVE (R34). -/
def execMove (tag tier : Byte) (args : MoveArgs) (s : State) : Host.Outcome State Fault Refusal :=
  s.during fun x => x.request tag (.move tier args)

/-- GANG_MOVE (R39). -/
def execGangMove (tag count t0 t1 t2 t3 : Byte) (args : MoveArgs) (s : State) : Host.Outcome State Fault Refusal :=
  s.during fun x => x.request tag (.gangMove count t0 t1 t2 t3 args)

/-- HALT (R28). -/
def execHalt (tag tier : Byte) (s : State) : Host.Outcome State Fault Refusal :=
  s.during fun x => x.request tag (.halt tier)

/-- HALT_ALL (R38). -/
def execHaltAll (tag : Byte) (s : State) : Host.Outcome State Fault Refusal :=
  s.during fun x => x.request tag .haltAll

/-- PAUSE (R29). -/
def execPause (tag tier : Byte) (s : State) : Host.Outcome State Fault Refusal :=
  s.during fun x => x.request tag (.pause tier)

/-- RESUME (R30). -/
def execResume (tag tier : Byte) (s : State) : Host.Outcome State Fault Refusal :=
  s.during fun x => x.request tag (.resume tier)

/-- ROUTE (R132). -/
def execRoute (tag tier start run : Byte) (auto maint : Bool) (s : State) : Host.Outcome State Fault Refusal :=
  s.during fun x => x.request tag (.route tier start run auto maint)

/-- ROUTE_PUT (R130). -/
def execRoutePut (tag tier waypoint : Byte) (content : Option WaypointMsg) (s : State) : Host.Outcome State Fault Refusal :=
  s.during fun x => x.request tag (.routePut tier waypoint content)

/-- CONVERT (R120). -/
def execConvert (tag slot : Byte) (s : State) : Host.Outcome State Fault Refusal :=
  s.during fun x => x.request tag (.convert slot)

/-- CONVERT_ABORT (R128). -/
def execConvertAbort (tag : Byte) (s : State) : Host.Outcome State Fault Refusal :=
  s.during fun x => x.request tag .convertAbort

/-- SET_BUDGET (R112). -/
def execSetBudget (tag : Byte) (budget : Nat) (s : State) : Host.Outcome State Fault Refusal :=
  s.during fun x => x.request tag (.setBudget budget)

/-- SAMPLE_LOAD (R142). -/
def execSampleLoad (tag tier : Byte) (s : State) : Host.Outcome State Fault Refusal :=
  s.during fun x => x.request tag (.sampleLoad tier)

/-- BRAKE_TEST (R145). -/
def execBrakeTest (tag tier : Byte) (s : State) : Host.Outcome State Fault Refusal :=
  s.during fun x => x.request tag (.brakeTest tier)

/-- FORCE_FAILSAFE (R171). -/
def execForceFailsafe (tag : Byte) (s : State) : Host.Outcome State Fault Refusal :=
  s.during fun x => x.request tag .forceFailsafe

/-- CLEAR_FAILSAFE (R173). -/
def execClearFailsafe (tag : Byte) (s : State) : Host.Outcome State Fault Refusal :=
  s.during fun x => x.request tag .clearFailsafe

/-- CLEAR_FAULTS (R164). -/
def execClearFaults (tag tier : Byte) (s : State) : Host.Outcome State Fault Refusal :=
  s.during fun x => x.request tag (if tier = 0xFF then .clearFaultsAll else .clearFaults tier)

/-- CLEAR_FAULTS_ALL (R166). -/
def execClearFaultsAll (tag : Byte) (s : State) : Host.Outcome State Fault Refusal :=
  s.during fun x => x.request tag .clearFaultsAll

/-- SHOW_LOCK (R174). -/
def execShowLock (tag : Byte) (tiers : BitVec 16) (s : State) : Host.Outcome State Fault Refusal :=
  s.during fun x => x.request tag (.showLock tiers)

/-- RELEASE_SHOW (R175). -/
def execReleaseShow (tag : Byte) (tiers : BitVec 16) (s : State) : Host.Outcome State Fault Refusal :=
  s.during fun x => x.request tag (.releaseShow tiers)

/-- LOCK (R176). -/
def execLock (tag group : Byte) (s : State) : Host.Outcome State Fault Refusal :=
  s.during fun x => x.request tag (.lock group)

/-- UNLOCK (R176). -/
def execUnlock (tag group : Byte) (s : State) : Host.Outcome State Fault Refusal :=
  s.during fun x => x.request tag (.unlock group)

/-- SITE_SET (R185). -/
def execSiteSet (tag : Byte) (site : SiteMsg) (s : State) : Host.Outcome State Fault Refusal :=
  s.during fun x => x.request tag (.siteSet site)

/-- PROFILE_PUT (R11). -/
def execProfilePut (tag tier : Byte) (profile : ProfileData) (s : State) : Host.Outcome State Fault Refusal :=
  s.during fun x => x.request tag (.profilePut tier profile)

/-- PROFILE_GET (R14). -/
def execProfileGet (tag tier : Byte) (s : State) : Host.Outcome State Fault Refusal :=
  s.during fun x => x.request tag (.profileGet tier)

/-- ZONE_PUT (R75). -/
def execZonePut (tag zone : Byte) (record : ZoneMsg) (s : State) : Host.Outcome State Fault Refusal :=
  s.during fun x => x.request tag (.zonePut zone record)

/-- ZONE_GET (R76). -/
def execZoneGet (tag zone : Byte) (s : State) : Host.Outcome State Fault Refusal :=
  s.during fun x => x.request tag (.zoneGet zone)

/-- SAVE_SETTINGS (R187). -/
def execSaveSettings (tag : Byte) (s : State) : Host.Outcome State Fault Refusal :=
  s.during fun x => x.request tag .saveSettings

/-- LAYOUT_ERASE (R188). -/
def execLayoutErase (tag slot : Byte) (s : State) : Host.Outcome State Fault Refusal :=
  s.during fun x => x.request tag (.layoutErase slot)

/-- LAYOUT_WRITE (R189). -/
def execLayoutWrite (tag slot : Byte) (layout : Layout) (s : State) : Host.Outcome State Fault Refusal :=
  s.during fun x => x.request tag (.layoutWrite slot layout)

/-- LAYOUT_READ (R189). -/
def execLayoutRead (tag slot : Byte) (s : State) : Host.Outcome State Fault Refusal :=
  s.during fun x => x.request tag (.layoutRead slot)

/-- PROTECT_LAYOUTS (R190). -/
def execProtectLayouts (tag n : Byte) (s : State) : Host.Outcome State Fault Refusal :=
  s.during fun x => x.request tag (.protectLayouts n)

/-- QUERY_STATUS (R183). -/
def execQueryStatus (tag : Byte) (s : State) : Host.Outcome State Fault Refusal :=
  s.during fun x => x.request tag .queryStatus

/-- QUERY_TIER (R161). -/
def execQueryTier (tag tier : Byte) (s : State) : Host.Outcome State Fault Refusal :=
  s.during fun x => x.request tag (.queryTier tier)

/-- QUERY_MAP (R63). -/
def execQueryMap (tag first count : Byte) (s : State) : Host.Outcome State Fault Refusal :=
  s.during fun x => x.request tag (.queryMap first count)

/-- QUERY_QUEUE (R96). -/
def execQueryQueue (tag : Byte) (s : State) : Host.Outcome State Fault Refusal :=
  s.during fun x => x.request tag .queryQueue

/-- QUERY_GRANTS (R99). -/
def execQueryGrants (tag : Byte) (s : State) : Host.Outcome State Fault Refusal :=
  s.during fun x => x.request tag .queryGrants

/-- RESTART (R192). -/
def execRestart (tag : Byte) (s : State) : Host.Outcome State Fault Refusal :=
  s.during fun x => x.request tag .restart

end Sys2Proof.Machine
end

