-- ==== Sys2Proof/Machine/LinkCommands.lean ====
section
/-! DEFINITION. The commands of the command link's two lines (R177, R179, R181, R182), one meaning for each. -/

namespace Sys2Proof.Machine

/-- VALID_FRAME. The bytes of a command-link frame reach the framer (R179). -/
def execValidFrame (bytes : List Byte) (s : State) : Host.Outcome State Fault Refusal :=
  s.during (fun x => x.linkBytesIn bytes)

/-- COMMAND_LINK_GAP_TIMEOUT. A gap of more than 20 ms within a frame (R177). -/
def execCommandLinkGapTimeout (s : State) : Host.Outcome State Fault Refusal :=
  s.during State.dropFrame

/-- REPLY_SENT. The transmitter completes a reply frame (R181). -/
def execReplySent (s : State) : Host.Outcome State Fault Refusal :=
  s.during State.replySent

/-- REPORT_SENT. The transmitter completes a report frame (R182). -/
def execReportSent (s : State) : Host.Outcome State Fault Refusal :=
  s.during State.reportSent

/-- COMMAND_LINK_STOP_BIT_ERROR. A command-link byte with a stop-bit error (R177). -/
def execCommandLinkStopBitError (s : State) : Host.Outcome State Fault Refusal :=
  s.during State.dropFrame

/-- LENGTH_BYTE_ABOVE_248. A length byte above 248 (R177). -/
def execLengthByteAbove248 (s : State) : Host.Outcome State Fault Refusal :=
  s.during State.badLength

end Sys2Proof.Machine
end

