-- ==== Sys2Proof/Machine/HallCommands.lean ====
section
/-! DEFINITION. The commands of the drive link, the timers, the discrete inputs, the scans, the load converter and the
store (chapters 2, 4, 6, 8 to 11), one meaning for each. -/

namespace Sys2Proof.Machine

/-- SETPOINT_INTERVAL. A setpoint interval of a tier; one that is not installed has none (R151). -/
def execSetpointInterval (tier : Tier) (s : State) : Host.Outcome State Fault Refusal :=
  s.during (fun x => if x.installed tier then x.interval tier else x)

/-- SETPOINT_RECORD_SENT. The record on the drive link has been sent (R154). -/
def execSetpointRecordSent (s : State) : Host.Outcome State Fault Refusal :=
  s.during State.recordSent

/-- FEEDBACK_RECORD. The bytes of a feedback record reach the framer (R156). -/
def execFeedbackRecord (bytes : List Byte) (s : State) : Host.Outcome State Fault Refusal :=
  s.duringDrive (fun x => x.driveBytes bytes)

/-- FEEDBACK_GAP_TIMEOUT. A gap of more than 1 ms within a feedback record (R153). -/
def execFeedbackGapTimeout (s : State) : Host.Outcome State Fault Refusal :=
  s.duringDrive (fun x => x.setDriveFramer .hunting)

/-- FEEDBACK_TIMER_EXPIRY. The feedback timer of a tier expires (R157). -/
def execFeedbackTimerExpiry (tier : Tier) (s : State) : Host.Outcome State Fault Refusal :=
  s.during (fun x => x.feedbackExpire tier)

/-- RELEASE_WAIT_EXPIRY. The RELEASE-WAIT timer of a tier runs out (R22). -/
def execReleaseWaitExpiry (tier : Tier) (s : State) : Host.Outcome State Fault Refusal :=
  s.during (fun x => x.releaseWaitExpire tier)

/-- SECURE_WAIT_EXPIRY. The SECURE-WAIT timer of a tier runs out (R23). -/
def execSecureWaitExpiry (tier : Tier) (s : State) : Host.Outcome State Fault Refusal :=
  s.during (fun x => x.secureWaitExpire tier)

/-- WATCH_EXPIRY. The WATCH timer of a tier runs out (R24). -/
def execWatchExpiry (tier : Tier) (s : State) : Host.Outcome State Fault Refusal :=
  s.during (fun x => x.watchExpire tier)

/-- SETTLE_TIMER_EXPIRY. The settle timer of a tier runs out (R27). -/
def execSettleTimerExpiry (tier : Tier) (s : State) : Host.Outcome State Fault Refusal :=
  s.during (fun x => x.settleTimeout tier)

/-- TEST_TIMER_EXPIRY. The test timer of a tier runs out (R147). -/
def execTestTimerExpiry (tier : Tier) (s : State) : Host.Outcome State Fault Refusal :=
  s.during (fun x => x.testExpire tier)

/-- TRIP_APPLICATION. The FM takes a trip application (R71). -/
def execTripApplication (input : Input) (s : State) : Host.Outcome State Fault Refusal :=
  s.during (fun x => x.tripApply input)

/-- ADMISSION_SCAN. The AA answers a scan trigger (R101). -/
def execAdmissionScan (s : State) : Host.Outcome State Fault Refusal :=
  s.during State.dueScan

/-- LOAD_CONVERSION_COMPLETE. The load converter completes a conversion with its counts (R140). -/
def execLoadConversionComplete (counts : BitVec 12) (s : State) : Host.Outcome State Fault Refusal :=
  s.during (fun x => x.completeConversion counts.toNat)

/-- FRESHNESS_TIMER_EXPIRY. A sample's freshness timer runs out (R141). -/
def execFreshnessTimerExpiry (tier : Tier) (s : State) : Host.Outcome State Fault Refusal :=
  s.during (fun x => x.expireFreshness tier)

/-- STORE_OPERATION_COMPLETE. The running store operation completes; `failed` is what its verify found different (R186). -/
def execStoreOperationComplete (failed : BitVec 3) (s : State) : Host.Outcome State Fault Refusal :=
  s.during (fun x => x.completeStore failed)

/-- WATCHDOG_EXPIRY. The running watchdog timer runs out (R169). -/
def execWatchdogExpiry (s : State) : Host.Outcome State Fault Refusal :=
  s.during State.expireWatchdog

/-- DRIVE_LINK_STOP_BIT_ERROR. A drive-link byte with a stop-bit error (R153). -/
def execDriveLinkStopBitError (s : State) : Host.Outcome State Fault Refusal :=
  s.duringDrive (fun x => x.setDriveFramer .hunting)

/-- TRIP_ACTIVE_EDGE. A TRIP input becomes active: an edge while the part runs, a level found in start-up, and no more than a
pin otherwise (R70, R71). -/
def execTripActiveEdge (input : Input) (s : State) : Host.Outcome State Fault Refusal :=
  let s := s.setTripPin input true
  if s.phase = .startUp then .next (s.setLevel input true) else s.during fun x => x.tripRises input

/-- TRIP_INACTIVE_EDGE. A TRIP input becomes inactive (R70, R72). -/
def execTripInactiveEdge (input : Input) (s : State) : Host.Outcome State Fault Refusal :=
  let s := s.setTripPin input false
  if s.phase = .startUp then .next (s.setLevel input false) else s.during fun x => x.tripFalls input

/-- KEY_CHANGE. The held level follows the KEY pin, and no lock changes (R176). -/
def execKeyChange (high : Bool) (s : State) : Host.Outcome State Fault Refusal :=
  let s := s.setKeyPin high
  if s.phase = .startUp then .next (s.setKey high) else s.during fun x => x.setKey high

end Sys2Proof.Machine
end

