-- ==== Sys2Proof/Machine/Dispatch.lean ====
section
/-! DEFINITION. The meaning of every command, one arm for each constructor of `Instr`. -/

namespace Sys2Proof.Machine

def exec (i : Instr) (s : State) : Host.Outcome State Fault Refusal :=
  match i with
  | .powerOn => Sys2Proof.Machine.execPowerOn s
  | .resetLineLow => Sys2Proof.Machine.execResetLineLow s
  | .resetLineRisingEdge => Sys2Proof.Machine.execResetLineRisingEdge s
  | .startupComplete => Sys2Proof.Machine.execStartupComplete s
  | .restartStartup => Sys2Proof.Machine.execRestartStartup s
  | .validFrame bytes => Sys2Proof.Machine.execValidFrame bytes s
  | .commandLinkGapTimeout => Sys2Proof.Machine.execCommandLinkGapTimeout s
  | .replySent => Sys2Proof.Machine.execReplySent s
  | .reportSent => Sys2Proof.Machine.execReportSent s
  | .release tag tier => Sys2Proof.Machine.execRelease tag tier s
  | .secure tag tier => Sys2Proof.Machine.execSecure tag tier s
  | .secureAll tag => Sys2Proof.Machine.execSecureAll tag s
  | .move tag tier args => Sys2Proof.Machine.execMove tag tier args s
  | .gangMove tag count t0 t1 t2 t3 args => Sys2Proof.Machine.execGangMove tag count t0 t1 t2 t3 args s
  | .halt tag tier => Sys2Proof.Machine.execHalt tag tier s
  | .haltAll tag => Sys2Proof.Machine.execHaltAll tag s
  | .pause tag tier => Sys2Proof.Machine.execPause tag tier s
  | .resume tag tier => Sys2Proof.Machine.execResume tag tier s
  | .route tag tier start run auto maint => Sys2Proof.Machine.execRoute tag tier start run auto maint s
  | .routePut tag tier waypoint content => Sys2Proof.Machine.execRoutePut tag tier waypoint content s
  | .convert tag slot => Sys2Proof.Machine.execConvert tag slot s
  | .convertAbort tag => Sys2Proof.Machine.execConvertAbort tag s
  | .setBudget tag budget => Sys2Proof.Machine.execSetBudget tag budget s
  | .sampleLoad tag tier => Sys2Proof.Machine.execSampleLoad tag tier s
  | .brakeTest tag tier => Sys2Proof.Machine.execBrakeTest tag tier s
  | .forceFailsafe tag => Sys2Proof.Machine.execForceFailsafe tag s
  | .clearFailsafe tag => Sys2Proof.Machine.execClearFailsafe tag s
  | .clearFaults tag tier => Sys2Proof.Machine.execClearFaults tag tier s
  | .clearFaultsAll tag => Sys2Proof.Machine.execClearFaultsAll tag s
  | .showLock tag tiers => Sys2Proof.Machine.execShowLock tag tiers s
  | .releaseShow tag tiers => Sys2Proof.Machine.execReleaseShow tag tiers s
  | .lock tag group => Sys2Proof.Machine.execLock tag group s
  | .unlock tag group => Sys2Proof.Machine.execUnlock tag group s
  | .siteSet tag site => Sys2Proof.Machine.execSiteSet tag site s
  | .profilePut tag tier profile => Sys2Proof.Machine.execProfilePut tag tier profile s
  | .profileGet tag tier => Sys2Proof.Machine.execProfileGet tag tier s
  | .zonePut tag zone record => Sys2Proof.Machine.execZonePut tag zone record s
  | .zoneGet tag zone => Sys2Proof.Machine.execZoneGet tag zone s
  | .saveSettings tag => Sys2Proof.Machine.execSaveSettings tag s
  | .layoutErase tag slot => Sys2Proof.Machine.execLayoutErase tag slot s
  | .layoutWrite tag slot layout => Sys2Proof.Machine.execLayoutWrite tag slot layout s
  | .layoutRead tag slot => Sys2Proof.Machine.execLayoutRead tag slot s
  | .protectLayouts tag n => Sys2Proof.Machine.execProtectLayouts tag n s
  | .queryStatus tag => Sys2Proof.Machine.execQueryStatus tag s
  | .queryTier tag tier => Sys2Proof.Machine.execQueryTier tag tier s
  | .queryMap tag first count => Sys2Proof.Machine.execQueryMap tag first count s
  | .queryQueue tag => Sys2Proof.Machine.execQueryQueue tag s
  | .queryGrants tag => Sys2Proof.Machine.execQueryGrants tag s
  | .restart tag => Sys2Proof.Machine.execRestart tag s
  | .setpointInterval tier => Sys2Proof.Machine.execSetpointInterval tier s
  | .setpointRecordSent => Sys2Proof.Machine.execSetpointRecordSent s
  | .feedbackRecord bytes => Sys2Proof.Machine.execFeedbackRecord bytes s
  | .feedbackGapTimeout => Sys2Proof.Machine.execFeedbackGapTimeout s
  | .feedbackTimerExpiry tier => Sys2Proof.Machine.execFeedbackTimerExpiry tier s
  | .releaseWaitExpiry tier => Sys2Proof.Machine.execReleaseWaitExpiry tier s
  | .secureWaitExpiry tier => Sys2Proof.Machine.execSecureWaitExpiry tier s
  | .watchExpiry tier => Sys2Proof.Machine.execWatchExpiry tier s
  | .settleTimerExpiry tier => Sys2Proof.Machine.execSettleTimerExpiry tier s
  | .testTimerExpiry tier => Sys2Proof.Machine.execTestTimerExpiry tier s
  | .tripActiveEdge input => Sys2Proof.Machine.execTripActiveEdge input s
  | .tripApplication input => Sys2Proof.Machine.execTripApplication input s
  | .tripInactiveEdge input => Sys2Proof.Machine.execTripInactiveEdge input s
  | .keyChange high => Sys2Proof.Machine.execKeyChange high s
  | .admissionScan => Sys2Proof.Machine.execAdmissionScan s
  | .loadConversionComplete counts => Sys2Proof.Machine.execLoadConversionComplete counts s
  | .freshnessTimerExpiry tier => Sys2Proof.Machine.execFreshnessTimerExpiry tier s
  | .storeOperationComplete failed => Sys2Proof.Machine.execStoreOperationComplete failed s
  | .watchdogExpiry => Sys2Proof.Machine.execWatchdogExpiry s
  | .lossOfPower => Sys2Proof.Machine.execLossOfPower s
  | .commandLinkStopBitError => Sys2Proof.Machine.execCommandLinkStopBitError s
  | .lengthByteAbove248 => Sys2Proof.Machine.execLengthByteAbove248 s
  | .driveLinkStopBitError => Sys2Proof.Machine.execDriveLinkStopBitError s

end Sys2Proof.Machine
end

