-- ==== Sys2Proof/WellFormed.lean ====
section
/-! DEFINITION. Well-formed commands: every number fits the width its field has on the line (chapter 11, Message and
record layouts). A well-formed request may still be refused; an ill-formed one could not have been sent. -/

namespace Sys2Proof

/-- A tilt field has two bytes. -/
def MoveArgs.wf (a : MoveArgs) : Bool :=
  match a.tilt with
  | some t => decide (t < 65536)
  | none => true

/-- A tilt field has two bytes. -/
def WaypointMsg.wf (w : WaypointMsg) : Bool := decide (w.tilt < 65536)

/-- The widths of the 32-byte profile record. -/
def ProfileData.wf (p : ProfileData) : Bool :=
  decide (p.tare < 65536 ∧ p.vacancyLimit < 65536) &&
  p.extL.toList.all (fun x => decide (x < 256)) && p.extR.toList.all (fun x => decide (x < 256)) &&
  decide (p.slewMax < 65536 ∧ p.slewAcc < 256 ∧ p.tiltSpeed < 256 ∧ p.tiltAcc < 256 ∧ p.tiltMax < 65536) &&
  decide (p.hold < 256 ∧ p.slewFollow < 65536 ∧ p.tiltFollow < 65536) &&
  decide (p.releaseTimeout < 256 ∧ p.secureTimeout < 256 ∧ p.settleTime < 256 ∧ p.loadScale < 256) &&
  decide (p.testTorque < 256 ∧ p.testDuration < 256 ∧ p.slipLimit < 65536)

/-- The tilt fields of the twelve tier entries have two bytes each. -/
def Layout.wf (l : Layout) : Bool := l.entries.toList.all (fun e => decide (e.tilt < 65536))

/-- A request whose fields fit their bytes; CLEAR-FAULTS with FFh is the request for all tiers. -/
def Request.wf : Request → Bool
  | .move _ a => a.wf
  | .gangMove _ _ _ _ _ a => a.wf
  | .routePut _ _ (some w) => w.wf
  | .setBudget b => decide (b < 65536)
  | .clearFaults t => decide (t ≠ 0xFF)
  | .siteSet m => decide (m.budget < 65536)
  | .profilePut _ p => p.wf
  | .layoutWrite _ l => l.wf
  | _ => true

/-- The bytes of one frame: the start byte, LEN up to 248, TAG, KIND, LEN body bytes and two check bytes. -/
def frameShape : List Byte → Bool
  | start :: len :: rest => decide (start = 0xA5) && decide (len.toNat ≤ 248 ∧ rest.length = len.toNat + 4)
  | _ => false

/-- The bytes of one feedback record: the start byte and 12 bytes. -/
def feedbackShape : List Byte → Bool
  | start :: rest => decide (start = 0x5B) && decide (rest.length = 12)
  | _ => false

/-- A well-formed command. -/
def Instr.wf : Instr → Bool
  | .validFrame bs => frameShape bs
  | .feedbackRecord bs => feedbackShape bs
  | .move _ _ a => a.wf
  | .gangMove _ _ _ _ _ _ a => a.wf
  | .routePut _ _ _ (some w) => w.wf
  | .setBudget _ b => decide (b < 65536)
  | .clearFaults _ t => decide (t ≠ 0xFF)
  | .siteSet _ m => decide (m.budget < 65536)
  | .profilePut _ _ p => p.wf
  | .layoutWrite _ _ l => l.wf
  | _ => true

/-- The TAG and the request that a request row carries; no other row carries one. -/
def Instr.carried : Instr → Option (Byte × Request)
  | .powerOn => none
  | .resetLineLow => none
  | .resetLineRisingEdge => none
  | .startupComplete => none
  | .restartStartup => none
  | .validFrame _ => none
  | .commandLinkGapTimeout => none
  | .replySent => none
  | .reportSent => none
  | .release tag tier => some (tag, .release tier)
  | .secure tag tier => some (tag, .secure tier)
  | .secureAll tag => some (tag, .secureAll)
  | .move tag tier args => some (tag, .move tier args)
  | .gangMove tag count t0 t1 t2 t3 args => some (tag, .gangMove count t0 t1 t2 t3 args)
  | .halt tag tier => some (tag, .halt tier)
  | .haltAll tag => some (tag, .haltAll)
  | .pause tag tier => some (tag, .pause tier)
  | .resume tag tier => some (tag, .resume tier)
  | .route tag tier start run auto maint => some (tag, .route tier start run auto maint)
  | .routePut tag tier waypoint content => some (tag, .routePut tier waypoint content)
  | .convert tag slot => some (tag, .convert slot)
  | .convertAbort tag => some (tag, .convertAbort)
  | .setBudget tag budget => some (tag, .setBudget budget)
  | .sampleLoad tag tier => some (tag, .sampleLoad tier)
  | .brakeTest tag tier => some (tag, .brakeTest tier)
  | .forceFailsafe tag => some (tag, .forceFailsafe)
  | .clearFailsafe tag => some (tag, .clearFailsafe)
  | .clearFaults tag tier => some (tag, .clearFaults tier)
  | .clearFaultsAll tag => some (tag, .clearFaultsAll)
  | .showLock tag tiers => some (tag, .showLock tiers)
  | .releaseShow tag tiers => some (tag, .releaseShow tiers)
  | .lock tag group => some (tag, .lock group)
  | .unlock tag group => some (tag, .unlock group)
  | .siteSet tag site => some (tag, .siteSet site)
  | .profilePut tag tier profile => some (tag, .profilePut tier profile)
  | .profileGet tag tier => some (tag, .profileGet tier)
  | .zonePut tag zone record => some (tag, .zonePut zone record)
  | .zoneGet tag zone => some (tag, .zoneGet zone)
  | .saveSettings tag => some (tag, .saveSettings)
  | .layoutErase tag slot => some (tag, .layoutErase slot)
  | .layoutWrite tag slot layout => some (tag, .layoutWrite slot layout)
  | .layoutRead tag slot => some (tag, .layoutRead slot)
  | .protectLayouts tag n => some (tag, .protectLayouts n)
  | .queryStatus tag => some (tag, .queryStatus)
  | .queryTier tag tier => some (tag, .queryTier tier)
  | .queryMap tag first count => some (tag, .queryMap first count)
  | .queryQueue tag => some (tag, .queryQueue)
  | .queryGrants tag => some (tag, .queryGrants)
  | .restart tag => some (tag, .restart)
  | .setpointInterval _ => none
  | .setpointRecordSent => none
  | .feedbackRecord _ => none
  | .feedbackGapTimeout => none
  | .feedbackTimerExpiry _ => none
  | .releaseWaitExpiry _ => none
  | .secureWaitExpiry _ => none
  | .watchExpiry _ => none
  | .settleTimerExpiry _ => none
  | .testTimerExpiry _ => none
  | .tripActiveEdge _ => none
  | .tripApplication _ => none
  | .tripInactiveEdge _ => none
  | .keyChange _ => none
  | .admissionScan => none
  | .loadConversionComplete _ => none
  | .freshnessTimerExpiry _ => none
  | .storeOperationComplete _ => none
  | .watchdogExpiry => none
  | .lossOfPower => none
  | .commandLinkStopBitError => none
  | .lengthByteAbove248 => none
  | .driveLinkStopBitError => none

end Sys2Proof
end

