-- ==== Sys2Proof/Safety.lean ====
section
/-! DEFINITION. What a claim speaks of: when a request is handled at once, what the command-link port holds after an event,
the bounds that the port and the arbiter keep, what a fault, a halt and the end of a move leave in a tier's record, and the
parts of the state that a start-up gives. -/

namespace Sys2Proof.Machine

/-! ### Requests -/

/-- A request is handled at once: the part runs, no RESTART waits, and the reply list has room (R179, R192). -/
abbrev State.Handles (s : State) : Prop :=
  s.phase = .running ∧ s.clp.restart = .none ∧ s.clp.replies.length < 8

/-- The report queue has room for `n` more reports (R182). -/
abbrev State.Room (s : State) (n : Nat) : Prop := s.clp.reports.length + n ≤ 32

/-- A byte names an installed tier (R33). -/
abbrev State.Names (s : State) (b : Byte) (t : Tier) : Prop := tierOf b = some t ∧ s.installed t = true

/-- The port after an event that gives these replies and reports, with the transmitter gone on (R181, R182). -/
def LinkPort.after (p : LinkPort) (replies : List Reply) (reports : List Report) : LinkPort :=
  LinkPort.kick { p with replies := p.replies ++ replies, reports := p.reports ++ reports }

/-- The state with the reply of a request and the reports of its event queued, and the transmitter gone on. -/
def State.replied (s : State) (tag kind : Byte) (c : Code) (data : List Byte) (reports : List Report) : State :=
  { s with clp := s.clp.after [⟨tag, kind, c, data⟩] reports }

/-- The state with the reports of an event queued, and the transmitter gone on. -/
def State.reported (s : State) (reports : List Report) : State := { s with clp := s.clp.after [] reports }

/-- A valid frame's action on the watchdog: none while it is OFF, a timer started anew while it is timed, and fail-safe
while it is IMMEDIATE (R169). -/
def State.watched (s : State) : State :=
  match s.site.watchdog, s.fsu.failsafe with
  | .timed ms, _ => { s with fsu := { s.fsu with watchdog := .running ms } }
  | .immediate, none => s.enterFailsafe .watchdog
  | _, _ => s

/-- A valid frame is taken, to be handled or held (R179, R192). -/
abbrev State.TakesFrame (s : State) : Prop :=
  s.phase = .running ∧ s.clp.restart = .none ∧ (s.clp.replies.length < 8 ∨ s.clp.hold.length < 4)

/-! ### Tiers -/

/-- No entry of the admission queue and no grant names the tier. -/
abbrev State.Unnamed (s : State) (t : Tier) : Prop :=
  s.entryOf t = none ∧ s.aa.grants.any (fun g => g.names t) = false

/-- The tier runs a move of its own, without a gang. -/
abbrev State.Single (s : State) (t : Tier) (m : MoveRec) : Prop :=
  (s.tier t).move = some m ∧ m.leader = t ∧ m.members = []

/-- Neither fail-safe nor show lock stands against a motion of the tier alone (R33, checks 3 and 4). -/
abbrev State.Unbarred (s : State) (t : Tier) : Prop := s.fsu.failsafe = none ∧ s.fsu.showLock.getLsbD t = false

/-- What a fault leaves in the record of a tier that carried none and had no move or test (R42, R163). -/
def TierRec.faulted (r : TierRec) (k : FaultKind) (p : Pos) : TierRec :=
  { r with
    state := .faulted
    brakeTimer := .stopped
    securePending := false
    settleTimer := none
    testTimer := none
    fault := ⟨1#12 <<< k.bit, some ⟨k, r.state, p⟩⟩ }

/-- The slew axis of a move has a braking distance to go when it is halted (R85). -/
abbrev MoveRec.Brakes (m : MoveRec) (p : ProfileData) : Prop :=
  m.slew.finished = false ∧ 0 < m.slew.rem ∧ 0 < braking p.slewAcc m.slew.speed

/-- A halted move of one tier: the slew axis keeps no more than its braking distance, with the latch set, and the tilt axis is
braked alike (R85, R92). -/
def MoveRec.braked (m : MoveRec) (p : ProfileData) : MoveRec :=
  { m with
    slew := { m.slew with rem := min m.slew.rem (braking p.slewAcc m.slew.speed), latch := true }
    tilt := m.tilt.brake p.tiltAcc }

/-- Where the end of a move leaves a tier: in SETTLING, or past a settle time of 0 in SECURING or READY (R27). -/
def restState (d : ProfileData) (secure : Bool) : TierState :=
  if d.settleTime ≠ 0 then .settling else if secure then .securing else .ready

/-- The reports of a tier that settles, and passes SETTLING at once where its settle time is 0 (R27). -/
def restReports (t : Tier) (x : TierState) : List Report :=
  if x = .settling then [.tierState t .settling] else [.tierState t .settling, .tierState t x]

/-- The scan trigger of a tier that reaches READY (R27, R101). -/
def restTriggers (x : TierState) : Nat := if x = .ready then 1 else 0

/-- The record of a tier whose move has ended at a position: its settle timer runs, or has run out at its start (R26, R27, R31). -/
def TierRec.settled (r : TierRec) (p : Pos) (d : ProfileData) (auto : Bool) : TierRec :=
  { r with
    state := restState d (r.securePending || auto)
    brakeTimer := if restState d (r.securePending || auto) = .securing then .secureWait d.secureTimeout else .stopped
    settleTimer := if d.settleTime ≠ 0 then some d.settleTime else none
    securePending := decide (d.settleTime ≠ 0) && (r.securePending || auto)
    cmd := some p
    move := none
    stop := .none
    stoodStill := false }

/-- The record of a tier whose move has ended at a position where its footprint could not be placed (R55, R56, R163). -/
def TierRec.conflicted (r : TierRec) (p : Pos) : TierRec :=
  { r.faulted .mapConflict p with cmd := some p, move := none, stop := .none, stoodStill := false }

/-- The entry a MOVE of one tier makes: the fields of R96, the direction resolved at the commanded slew, the tilt clamped. -/
def moveEntryOf (s : State) (t : Tier) (a : MoveArgs) (d : DirArg) : Entry where
  kind := .move
  tier := t
  members := []
  cls := some (if a.maint then .maint else .convert)
  targetSlew := a.slew
  dir := some (resolveDir d (s.cmdPos t).slew a.slew)
  targetTilt := a.tilt.map fun x => min x (s.prof t).tiltMax
  auto := a.auto
  origin := .link
  bypass := 0
  sample := .none

/-- What fail-safe and show lock do to a tier that runs no move and no test: a released tier is secured, a settling one will be (R171,
R174). -/
def stoppedStanding (s : State) (t : Tier) : TierRec :=
  match (s.tier t).state with
  | .releasing => { s.tier t with state := .securing, brakeTimer := .secureWait (s.prof t).secureTimeout }
  | .ready => { s.tier t with state := .securing, brakeTimer := .secureWait (s.prof t).secureTimeout }
  | .settling => { s.tier t with securePending := true }
  | _ => s.tier t

/-- Whether a tier is RELEASING or READY. -/
def released (s : State) (t : Tier) : Bool :=
  decide ((s.tier t).state = .releasing) || decide ((s.tier t).state = .ready)

/-! ### Feedback -/

/-- A feedback record that is accepted: the part runs, the framer hunts, the fields fit the layout, the tier is installed, and
the feedback answers the latest record sent (R153, R155). -/
abbrev State.Accepts (s : State) (f : Feedback) : Prop :=
  s.phase = .running ∧ s.dlp.framer = .hunting ∧ f.tilt < 32768 ∧ f.slip < 65536 ∧ s.installed f.tier = true ∧
    (s.link f.tier).latestSent = some f.parity ∧ (s.link f.tier).answered = false

/-- The index of the claim's steps that a moving tier's feedback has reached: the progress less the wagon's lag behind its
commanded slew (R52). -/
def MoveRec.reached (m : MoveRec) (k : ClaimRec) (cmd act : Slew) : Nat :=
  let e := (act - cmd).toNat
  (k.offset + match m.dir with
    | .cw => if e ≤ 8388608 then m.slew.progress else m.slew.progress - (16777216 - e)
    | .ccw => if e ≤ 8388608 then m.slew.progress - e else m.slew.progress) / 65536

/-- The feedback lies within both following limits of the record it answers (R159). -/
abbrev State.Follows (s : State) (f : Feedback) : Prop :=
  ∀ x, (s.link f.tier).latestRec = some x → f.beyond (s.prof f.tier) x = false

/-- The link record after an accepted feedback of a synchronised tier (R155, R157, R158, R160). -/
def LinkRec.handled (l : LinkRec) (f : Feedback) : LinkRec :=
  { l with answered := true, last := some f, reported := f.faults, timer := false, lost := false }

/-! ### Admission -/

/-- A scan is due, one entry waits, no conversion is followed, and the hall test passes (R101, R102). -/
abbrev State.ScansOne (s : State) (n : Nat) (e : Entry) : Prop :=
  s.phase = .running ∧ s.convActive = false ∧ s.aa.scansDue = n + 1 ∧ s.aa.queue = [e] ∧ s.hallClosed = false

/-- The bounds of the arbiter: at most 8 entries, no two of which name one tier, and allocations within the budget (R95,
R96). -/
abbrev State.ArbiterBounds (s : State) : Prop :=
  s.aa.queue.length ≤ 8 ∧ s.aa.queue.Pairwise (fun e f => e.tiers.any f.names = false) ∧ s.allocated ≤ s.aa.budget

/-- Every tier that owns a CLAIMED cell has a claim record (R48). -/
abbrev State.ClaimsRecorded (s : State) : Prop := ∀ (g : Cell) (t : Tier), s.fm.at g = .claimed t → s.claim t ≠ none

/-! ### The command-link port -/

/-- The bounds of the command-link port: at most 8 replies, 32 reports and 4 held frames (R179, R181, R182); frames are held
only while the reply list is full, and none once a RESTART has been taken (R192). -/
abbrev State.LinkBounds (s : State) : Prop :=
  s.clp.replies.length ≤ 8 ∧ s.clp.reports.length ≤ 32 ∧ s.clp.hold.length ≤ 4 ∧
    (s.clp.hold ≠ [] → s.clp.replies.length = 8) ∧ (s.clp.restart ≠ .none → s.clp.hold = [])

/-! ### Start-up and reset -/

/-- Whether a command starts, stops or resets the part. -/
def Resets : Instr → Bool
  | .powerOn => true
  | .resetLineLow => true
  | .restartStartup => true
  | .lossOfPower => true
  | _ => false

/-- Every block but those that load settings or take levels holds its reset values; `weak` are the brake-weak restrictions
(R191, step 1). -/
def State.BlocksReset (t : State) (weak : Tier → Bool) : Prop :=
  t.clp = LinkPort.reset ∧ (∀ n, t.tier n = TierRec.reset (weak n)) ∧
    t.fm = ⟨Vector.replicate 256 .free, Vector.replicate 12 none⟩ ∧ t.zu.due = [] ∧
    t.aa.queue = [] ∧ t.aa.grants = [] ∧ t.aa.scansDue = 0 ∧ t.cu = Conv.reset ∧
    t.lc = ⟨Vector.replicate 12 .none, none, []⟩ ∧ t.dlp = ⟨.hunting, [], Vector.replicate 12 LinkRec.reset⟩ ∧
    t.fsu.failsafe = none ∧ t.fsu.watchdog = .notStarted ∧ t.fsu.profilesLocked = true ∧ t.fsu.zonesLocked = true ∧
    t.fsu.layoutsLocked = true ∧ t.nvs.op = none ∧ t.siteSetTaken = false

/-- A start-up of `s` has taken its steps 1 to 5 and `t` is what they give: the blocks reset, the settings loaded from the
store of `s` or their defaults with the CONFIG faults, and the levels at the pins (R191). -/
def State.StartsUp (s t : State) (weak : Tier → Bool) : Prop :=
  t.phase = .startUp ∧ t.pins = s.pins ∧ t.BlocksReset weak ∧ t.nvs.store = s.nvs.store ∧
    t.site = s.nvs.store.site.getD Site.default ∧ t.siteLoaded = s.nvs.store.site.isSome ∧
    t.profiles = s.nvs.store.profiles.getD Profile.defaults ∧
    t.zu.zones = s.nvs.store.zones.getD ZoneRec.defaults ∧ t.zu.valid = s.nvs.store.zones.isSome ∧
    t.fsu.device = (if s.nvs.store.profiles.isSome then 0#12 else 0x100#12) |||
      (if s.nvs.store.zones.isSome then 0#12 else 0x200#12) ∧
    t.nvs.boundary = t.site.boundary ∧ t.fsu.showLock = t.site.showLock ∧ t.aa.budget = t.site.budget ∧
    t.zu.levels = s.pins.trips ∧ t.fsu.key = s.pins.key ∧ t.freeCount = s.freeCount ∧ t.pending = s.pending

end Sys2Proof.Machine
end

