-- ==== Sys2Proof/Certificates/Slice0/Obligations.lean ====
section
/-! DEFINITION. The statements for the provers: what the spec's rules say of the commands, of the machine's invariants and of
the operations of its blocks. -/

section

open Sys2Proof Machine

/-! ### The step, the frames and the link port -/

/-- The command at the front of the queue is carried out on the state that holds the rest of the queue; the empty queue
idles (the model's choice, log 3). -/
def Obligations.StepRunsFront : Prop :=
  (∀ (c : Instr) (s : State) (q : List Instr), step (s.withPending (c :: q)) = exec c (s.withPending q)) ∧
    ∀ s : State, s.pending = [] → step s = .next s

/-- Every well-formed request is read back from the frame that carries it (the request catalogue, R180), and every feedback
record whose fields fit the layout from its bytes; a drive fault set outside its encoding discards the record (R153, the
drive-link records). -/
def Obligations.RoundTrips : Prop :=
  (∀ (tag : Byte) (r : Request), r.wf → parseFrame (requestFrame tag r) = .ok r) ∧
  (∀ f : Feedback, f.tilt < 32768 → f.slip < 65536 → feedbackOf (f.bytes.drop 1) = some f) ∧
  ∀ bs : List Byte, 16 ≤ (bs.getD 7 0).toNat → feedbackOf bs = none

/-- The bytes of a frame that is handled or held act on the watchdog, which a timed setting starts anew and IMMEDIATE turns into
fail-safe, and then do exactly what the request row they carry does; those of a frame that is discarded do what the row
does alone (R169, R177, R178, R179, R180; the request row is the model's choice, log 5). -/
def Obligations.FrameActsAsRequest : Prop :=
  ∀ (c : Instr) (tag : Byte) (r : Request) (s : State), c.carried = some (tag, r) → c.wf → s.clp.framer = .hunt →
    (s.site.watchdog = .off →
      exec (.validFrame (frameBytes tag (requestBytes r).1 (requestBytes r).2)) s = exec c s) ∧
    (∀ ms, s.TakesFrame → s.site.watchdog = .timed ms →
      exec (.validFrame (frameBytes tag (requestBytes r).1 (requestBytes r).2)) s =
        exec c { s with fsu := { s.fsu with watchdog := .running ms } }) ∧
    (s.TakesFrame → s.site.watchdog = .immediate → s.fsu.failsafe = none →
      exec (.validFrame (frameBytes tag (requestBytes r).1 (requestBytes r).2)) s = exec c (s.enterFailsafe .watchdog)) ∧
    (s.TakesFrame → s.site.watchdog = .immediate → s.fsu.failsafe ≠ none →
      exec (.validFrame (frameBytes tag (requestBytes r).1 (requestBytes r).2)) s = exec c s) ∧
    (¬ s.TakesFrame →
      exec (.validFrame (frameBytes tag (requestBytes r).1 (requestBytes r).2)) s = exec c s)

/-- A valid frame of an unknown KIND is answered UNKNOWN, with KIND FFh in place of a report KIND, and one of the wrong length
LENGTH; one that meets a full reply list is held, each after its action on the watchdog, or discarded without it, with
the overrun flag, once four are held (R169, R179, R180). A frame with a wrong check value does nothing (R178). A gap, a
stop-bit error or a length byte above 248 discards the frame being assembled, and the framers hunt; the drive link's
framer does so in start-up too, where the model takes its events (R153, R177; log 8). -/
def Obligations.FrameOutcomes : Prop :=
  (∀ (tag kind : Byte) (body : List Byte) (s : State), s.phase = .running → s.clp.restart = .none →
    s.clp.framer = .hunt → body.length ≤ 248 →
    (s.clp.replies.length < 8 → catalogueLength kind = none →
      exec (.validFrame (frameBytes tag kind body)) s =
        .next (s.watched.replied tag (if 0x40 ≤ kind.toNat ∧ kind.toNat ≤ 0x4C then 0xFF else kind + 0x80) .unknown [] [])) ∧
    (∀ n, s.clp.replies.length < 8 → catalogueLength kind = some n → body.length ≠ n →
      exec (.validFrame (frameBytes tag kind body)) s = .next (s.watched.replied tag (kind + 0x80) .length [] [])) ∧
    (8 ≤ s.clp.replies.length → s.clp.hold.length < 4 →
      exec (.validFrame (frameBytes tag kind body)) s =
        .next { s.watched with clp := LinkPort.kick { s.watched.clp with hold := s.watched.clp.hold ++ [⟨tag, kind, body⟩] } }) ∧
    (8 ≤ s.clp.replies.length → 4 ≤ s.clp.hold.length →
      exec (.validFrame (frameBytes tag kind body)) s =
        .next { s with clp := LinkPort.kick { s.clp with rxOverrun := true } })) ∧
  (∀ (len tag kind hi lo : Byte) (body : List Byte) (s : State), s.phase = .running → s.clp.framer = .hunt →
    len.toNat = body.length → body.length ≤ 248 → setBytes (crc (len :: tag :: kind :: body)) ≠ [hi, lo] →
    exec (.validFrame (0xA5 :: len :: tag :: kind :: (body ++ [hi, lo]))) s = .next { s with clp := LinkPort.kick s.clp }) ∧
  (∀ s : State, s.phase = .running →
    exec .commandLinkGapTimeout s = .next { s with clp := LinkPort.kick { s.clp with framer := .hunt } } ∧
    exec .commandLinkStopBitError s = .next { s with clp := LinkPort.kick { s.clp with framer := .hunt } } ∧
    (s.clp.framer = .length →
      exec .lengthByteAbove248 s = .next { s with clp := LinkPort.kick { s.clp with framer := .hunt } }) ∧
    exec .feedbackGapTimeout s =
      .next { s with dlp := { s.dlp with framer := .hunting }, clp := LinkPort.kick s.clp } ∧
    exec .driveLinkStopBitError s =
      .next { s with dlp := { s.dlp with framer := .hunting }, clp := LinkPort.kick s.clp }) ∧
  (∀ s : State, s.phase = .startUp →
    exec .feedbackGapTimeout s = .next { s with dlp := { s.dlp with framer := .hunting } } ∧
    exec .driveLinkStopBitError s = .next { s with dlp := { s.dlp with framer := .hunting } })

/-- A reply or a report leaves its list when its frame has been sent and the transmitter goes on; the reply of a
RESTART, sent last, is followed by nothing (the model's choice, log 10); a sent reply lets the oldest held frame be
handled (R179, R181, R182, R192). -/
def Obligations.TransmitterGoesOn : Prop :=
  ∀ s : State, s.phase = .running →
    (∀ r rest, s.clp.tx = .reply → s.clp.replies = r :: rest → s.clp.hold = [] →
      (s.clp.restart = .waiting → rest ≠ []) →
      exec .replySent s = .next { s with clp := LinkPort.kick { s.clp with replies := rest, tx := .idle } }) ∧
    (∀ r, s.clp.tx = .reply → s.clp.replies = [r] → s.clp.restart = .waiting →
      exec .replySent s = .next { s with clp := { s.clp with replies := [], tx := .idle, restart := .due } }) ∧
    (∀ r rest f more, s.clp.tx = .reply → s.clp.replies = r :: rest → s.clp.restart = .none → rest.length < 8 →
      s.clp.hold = f :: more → catalogueLength f.kind = none → f.kind.toNat < 0x40 →
      exec .replySent s = .next { s with clp := LinkPort.kick { s.clp with
        replies := rest ++ [⟨f.tag, f.kind + 0x80, .unknown, []⟩], tx := .idle, hold := more } }) ∧
    (s.clp.tx = .report →
      exec .reportSent s = .next { s with clp := LinkPort.kick { s.clp with reports := s.clp.reports.tail, tx := .idle } })

/-- Every command keeps the bounds of the command-link port (R179, R181, R182, R192). -/
def Obligations.LinkBoundsKept : Prop :=
  ∀ (s s' : State), s.LinkBounds → step s = .next s' → s'.LinkBounds

/-- Every step keeps the bounds of the arbiter: the admission queue holds at most 8 entries, no two of which name one tier (R96),
and the sum of the allocations never exceeds the budget in force (R95). -/
def Obligations.ArbiterBoundsKept : Prop :=
  ∀ (s s' : State), s.ArbiterBounds → step s = .next s' → s'.ArbiterBounds

/-- Every step keeps a claim record for each tier that owns a CLAIMED cell, from the grant to the trim that ends the claim (R43,
R48). -/
def Obligations.ClaimsRecordedKept : Prop :=
  ∀ (s s' : State), s.ClaimsRecorded → step s = .next s' → s'.ClaimsRecorded

/-- The invariants of the port, of the arbiter and of the claims hold after reset, the power-on start-up of log 1 and log 2. -/
def Obligations.InvariantsAtReset : Prop :=
  State.reset.LinkBounds ∧ State.reset.ArbiterBounds ∧ State.reset.ClaimsRecorded
/-! ### Rules over every command -/

/-- Between two resets, whatever the command: the show-lock set loses no tier and no group is unlocked while the KEY input
is inactive (R175, R176), and the protection boundary does not decrease (R190). -/
def Obligations.LocksKept : Prop :=
  (∀ (c : Instr) (s s' : State) (t : Tier), s.phase = .running → s.fsu.key = false → Resets c = false → exec c s = .next s' →
      s.fsu.showLock.getLsbD t = true → s'.fsu.showLock.getLsbD t = true) ∧
  (∀ (c : Instr) (s s' : State), s.phase = .running → Resets c = false → exec c s = .next s' →
      s.nvs.boundary ≤ s'.nvs.boundary ∧
      (s.fsu.key = false →
        (s.fsu.profilesLocked = true → s'.fsu.profilesLocked = true) ∧
        (s.fsu.zonesLocked = true → s'.fsu.zonesLocked = true) ∧
        (s.fsu.layoutsLocked = true → s'.fsu.layoutsLocked = true)))

/-- Between two power-on resets only the end of a brake test changes a brake-weak restriction; a RESTART keeps it (R149). -/
def Obligations.BrakeWeakKept : Prop :=
  ∀ (c : Instr) (s s' : State), s.phase = .running → c = .restartStartup ∨ Resets c = false →
    (∀ t, c ≠ .testTimerExpiry t) → exec c s = .next s' → ∀ t, (s'.tier t).brakeWeak = (s.tier t).brakeWeak
/-! ### Power, RESET and start-up -/

/-- Power-on with RESET high, the rising edge of RESET, and the end of a RESTART begin a start-up; only the last keeps the
brake-weak restrictions (R18, R149, R191, R192). That a powered part takes POWER_ON as a fresh start-up, that a sent
RESTART reply leaves the part waiting for its start-up, that steps 1 to 5 and the levels are taken at the beginning of
the 25 ms, and the walk fields of a reset record, are the model's choices (log 10, log 11, log 34, log 36). -/
def Obligations.StartUpBegins : Prop :=
  ∀ s : State,
    (s.nvs.op = none → s.pins.resetLow = false → ∃ t, exec .powerOn s = .next t ∧ s.StartsUp t fun _ => false) ∧
    (s.phase = .held → ∃ t, exec .resetLineRisingEdge s = .next t ∧
      State.StartsUp { s with pins := { s.pins with resetLow := false } } t fun _ => false) ∧
    (s.phase = .running → s.clp.restart = .due → s.nvs.op = none →
      ∃ t, exec .restartStartup s = .next t ∧ s.StartsUp t fun n => (s.tier n).brakeWeak)

/-- A low RESET line holds every block in its reset values, and so does the loss of power, with the pins as they are (the loss of
power and the settings held meanwhile are the model's choice, log 34, and so are the walk fields, log 36); every output
line is inactive, and the store is as it was while no operation ran (R186, R191). An operation on a slot that they end
leaves it as it was, as it was to become, or BAD, and a save leaves each section as it was, as it was to become, or
unreadable, a free value choosing which (log 12); every other slot and section is as it was (R186). -/
def Obligations.ResetHolds : Prop :=
  (∀ s : State, s.nvs.op = none →
      (s.phase ≠ .off → ∃ t, exec .resetLineLow s = .next t ∧ t.phase = .held ∧ t.pins.resetLow = true ∧
        t.BlocksReset (fun _ => false) ∧ t.nvs.store = s.nvs.store ∧
        t.faultLine = false ∧ t.attnLine = false ∧ t.ddeLine = false) ∧
      ∃ t, exec .lossOfPower s = .next t ∧ t.phase = .off ∧ t.pins = s.pins ∧
        t.BlocksReset (fun _ => false) ∧ t.nvs.store = s.nvs.store ∧
        t.faultLine = false ∧ t.attnLine = false ∧ t.ddeLine = false) ∧
  (∀ (s : State) (n : Fin 16) (x : Slot) (c : Instr), c = .lossOfPower ∨ c = .resetLineLow → s.phase ≠ .off →
      (s.nvs.op = some (.erase n) ∧ x = .blank ∨ ∃ l, s.nvs.op = some (.write n l) ∧ x = .written l) →
      ∃ t, exec c s = .next t ∧ t.nvs.op = none ∧
        (t.slot n = s.slot n ∨ t.slot n = x ∨ t.slot n = .bad) ∧ (∀ m, m ≠ n → t.slot m = s.slot m) ∧
        t.nvs.store.site = s.nvs.store.site ∧ t.nvs.store.profiles = s.nvs.store.profiles ∧
        t.nvs.store.zones = s.nvs.store.zones) ∧
  (∀ (s : State) (x : Site) (ps : Vector Profile 12) (zs : Option (Vector ZoneRec 6)) (c : Instr),
      c = .lossOfPower ∨ c = .resetLineLow → s.phase ≠ .off → s.nvs.op = some (.save x ps zs) →
      ∃ t, exec c s = .next t ∧ t.nvs.op = none ∧ t.nvs.store.slots = s.nvs.store.slots ∧
        t.nvs.store.site ∈ [s.nvs.store.site, some x, none] ∧
        t.nvs.store.profiles ∈ [s.nvs.store.profiles, some ps, none] ∧
        t.nvs.store.zones ∈ [s.nvs.store.zones, zs, none])

/-- Start-up completes with one FAULT report for each CONFIG kind set, CONFIG-PROFILES first, then one TRIP report for
each input found ACTIVE, TRIP0 first (R191). -/
def Obligations.StartUpCompletes : Prop :=
  ∀ s : State, s.phase = .startUp → s.Room 8 →
    exec .startupComplete s = .next { s.reported
      ((if s.fsu.device.getLsbD 8 then [Report.device true .configProfiles] else []) ++
       (if s.fsu.device.getLsbD 9 then [Report.device true .configZones] else []) ++
       ((List.finRange 6).filter fun i => s.zu.levels.get i).map fun i => Report.trip i true []) with phase := .running }
/-! ### Requests addressed to tiers -/

/-- RELEASE on a SECURED tier that passes R33 puts it in RELEASING with RELEASE-WAIT running, and is answered OK (R20,
R22). Every other RELEASE changes nothing but the reply list; its code is that of the first failing check of R33, the
show-lock check made for every member of the tier's gang, or the one of the RELEASE column of R34. -/
def Obligations.Release : Prop :=
  (∀ (tag b : Byte) (t : Tier) (s : State), s.Handles → s.Room 1 → s.Names b t → s.Unbarred t →
      (s.profiles.get t).valid = true → (s.tier t).brakeWeak = false → (s.tier t).state = .secured →
      exec (.release tag b) s = .next ((s.modTier t fun r =>
        { r with state := .releasing, brakeTimer := .releaseWait (s.prof t).releaseTimeout }).replied tag 0x81 .ok []
          [.tierState t .releasing])) ∧
  (∀ (tag b : Byte) (s : State), s.Handles →
      (tierOf b = none → exec (.release tag b) s = .next (s.replied tag 0x81 .range [] [])) ∧
      ∀ (t : Tier) (c : Code), tierOf b = some t →
        c = (if s.installed t = false then .noTier
          else if s.fsu.failsafe ≠ none then .failsafe
          else if (s.gangOf t).any (fun u => s.fsu.showLock.getLsbD u) = true then .showLocked
          else if (s.profiles.get t).valid = false then .profile
          else if (s.tier t).brakeWeak = true then .brake
          else match (s.tier t).state with
            | .unsynced => .state
            | .faulted => .state
            | .securing => .busy
            | .testing => .busy
            | _ => .ok) →
        c ≠ .ok ∨ (s.tier t).state ≠ .secured →
        exec (.release tag b) s = .next (s.replied tag 0x81 c [] []))

/-- The outcomes of R34 that change nothing: what SECURE, HALT, PAUSE, RESUME, MOVE, ROUTE, BRAKE-TEST and CLEAR-FAULTS
answer in the states in which the legality table has N or a code. A MOVE's encodings are tested before all of it (the
model's choice, log 18). -/
def Obligations.LegalityTable : Prop :=
  ∀ (tag b : Byte) (t : Tier) (s : State), s.Handles → s.Names b t → s.fsu.failsafe = none →
    (s.gangOf t).any (fun u => s.fsu.showLock.getLsbD u) = false →
    ((s.tier t).state ∈ [.unsynced, .secured, .securing, .testing, .faulted] →
      exec (.secure tag b) s = .next (s.replied tag 0x82 .ok [] [])) ∧
    ((s.tier t).walk.active = false → (s.tier t).state ∈ [.unsynced, .securing, .faulted] →
      exec (.halt tag b) s = .next (s.replied tag 0x86 .ok [] [])) ∧
    ((s.tier t).walk.active = false → (s.tier t).state ∈ [.secured, .releasing, .ready, .settling] → s.entryOf t = none →
      exec (.halt tag b) s = .next (s.replied tag 0x86 .ok [] [])) ∧
    ((s.tier t).state ∈ [.unsynced, .secured, .releasing, .ready, .settling, .securing, .faulted] →
      exec (.pause tag b) s = .next (s.replied tag 0x88 .state [] []) ∧
      exec (.resume tag b) s = .next (s.replied tag 0x89 .state [] [])) ∧
    ((s.tier t).state = .paused → exec (.pause tag b) s = .next (s.replied tag 0x88 .ok [] [])) ∧
    ((s.tier t).state = .moving → exec (.resume tag b) s = .next (s.replied tag 0x89 .ok [] [])) ∧
    ((s.tier t).state = .testing →
      exec (.pause tag b) s = .next (s.replied tag 0x88 .busy [] []) ∧
      exec (.resume tag b) s = .next (s.replied tag 0x89 .busy [] [])) ∧
    (∀ a : MoveArgs, moveLegal a = true → (s.tier t).state ∈ [.unsynced, .secured, .paused, .securing, .faulted] →
      exec (.move tag b a) s = .next (s.replied tag 0x84 .state [] [])) ∧
    (∀ a : MoveArgs, moveLegal a = true → (s.tier t).state = .testing →
      exec (.move tag b a) s = .next (s.replied tag 0x84 .busy [] [])) ∧
    (∀ (start run : Byte) (auto maint : Bool),
      (s.tier t).state ∈ [.unsynced, .secured, .moving, .paused, .securing, .faulted] →
      exec (.route tag b start run auto maint) s = .next (s.replied tag 0x8A .state [] [])) ∧
    (∀ (start run : Byte) (auto maint : Bool), (s.tier t).state = .testing →
      exec (.route tag b start run auto maint) s = .next (s.replied tag 0x8A .busy [] [])) ∧
    ((s.tier t).state ∈ [.unsynced, .releasing, .ready, .moving, .paused, .settling, .securing, .faulted] →
      exec (.brakeTest tag b) s = .next (s.replied tag 0x99 .state [] [])) ∧
    ((s.tier t).state = .testing → exec (.brakeTest tag b) s = .next (s.replied tag 0x99 .busy [] [])) ∧
    ((s.tier t).state ≠ .faulted → exec (.clearFaults tag b) s = .next (s.replied tag 0xA2 .ok [] []))

/-- SECURE on a READY or RELEASING tier sends the brake SET with SECURE-WAIT running, after the removal of any entry of
its own with cause CANCELLED; on a SETTLING tier it sets secure pending (R20, R23, R27, R35). SECURE-ALL secures each
installed tier of a READY hall, the reports in ascending order (R38). That order, and
REQUEST-DROPPED before TIER-STATE, are the model's choice (log 15). -/
def Obligations.Secure : Prop :=
  (∀ (tag b : Byte) (t : Tier) (s : State), s.Handles → s.Room 2 → s.Names b t →
      (s.entryOf t = none → (s.tier t).state = .ready ∨ (s.tier t).state = .releasing →
        exec (.secure tag b) s = .next ((s.modTier t fun r =>
          { r with state := .securing, brakeTimer := .secureWait (s.prof t).secureTimeout }).replied tag 0x82 .ok []
            [.tierState t .securing])) ∧
      (∀ e, s.entryOf t = some e → e.origin = .link → (s.tier t).state = .ready ∨ (s.tier t).state = .releasing →
        exec (.secure tag b) s = .next ((({ s with
            aa := { s.aa with queue := s.aa.queue.erase e, scansDue := s.aa.scansDue + 1 } } : State).modTier t fun r =>
          { r with state := .securing, brakeTimer := .secureWait (s.prof t).secureTimeout }).replied tag 0x82 .ok []
            [.requestDropped e.tier e.members e.kind .link .cancelled, .tierState t .securing])) ∧
      (s.entryOf t = none → (s.tier t).state = .settling →
        exec (.secure tag b) s = .next ((s.modTier t fun r => { r with securePending := true }).replied tag 0x82 .ok [] []))) ∧
  (∀ (tag : Byte) (s : State), s.Handles → s.Room 12 → s.aa.queue = [] →
      (∀ t, s.installed t = true → (s.tier t).state = .ready) →
      ∃ ts, exec (.secureAll tag) s = .next (({ s with tiers := ts } : State).replied tag 0x83 .ok []
          (s.installedTiers.map fun t => .tierState t .securing)) ∧
        ∀ t, ts.get t = if s.installed t = true then
            { s.tier t with state := .securing, brakeTimer := .secureWait (s.prof t).secureTimeout }
          else s.tier t)

/-- HALT and PAUSE on a moving tier of its own set the stop request and shorten the remaining distance of the unfinished
slew axis to its braking distance, with the latch set; the tilt axis is braked alike (R28, R29, R85, R86). HALT on a
standing or settling tier removes its queued entry, a gang's with it, with cause CANCELLED (R34, R35, R98). HALT-ALL on a
hall of pausing tiers makes each pause a halt and changes nothing else (R28, R38, R85). -/
def Obligations.HaltAndPause : Prop :=
  (∀ (tag b : Byte) (t : Tier) (m : MoveRec) (s : State), s.Handles → s.Names b t → s.Single t m →
      (s.tier t).state = .moving → (s.tier t).stop = .none → m.slew.finished = false → 0 < m.slew.rem →
      0 < braking (s.prof t).slewAcc m.slew.speed →
      exec (.halt tag b) s = .next ((s.modTier t fun r =>
        { r with
          stop := .halt .halted
          walk := { r.walk with ending := r.walk.ending || r.walk.active }
          move := some { m with
            slew := { m.slew with rem := min m.slew.rem (braking (s.prof t).slewAcc m.slew.speed), latch := true }
            tilt := m.tilt.brake (s.prof t).tiltAcc } }).replied tag 0x86 .ok [] []) ∧
      (m.auto = false →
        exec (.pause tag b) s = .next ((s.modTier t fun r =>
          { r with
            stop := .pause
            move := some { m with
              slew := { m.slew with rem := min m.slew.rem (braking (s.prof t).slewAcc m.slew.speed), latch := true }
              tilt := m.tilt.brake (s.prof t).tiltAcc } }).replied tag 0x88 .ok [] []))) ∧
  (∀ (tag b : Byte) (t : Tier) (e : Entry) (s : State), s.Handles → s.Room 1 → s.Names b t →
      (s.tier t).state ∈ [.secured, .releasing, .ready, .settling] → s.entryOf t = some e → e.origin = .link →
      exec (.halt tag b) s = .next ((({ s with
          aa := { s.aa with queue := s.aa.queue.erase e, scansDue := s.aa.scansDue + 1 } } : State).modTier t fun r =>
        { r with walk := { r.walk with ending := r.walk.ending || r.walk.active } }).replied tag 0x86 .ok []
        [.requestDropped e.tier e.members e.kind .link .cancelled])) ∧
  (∀ (tag : Byte) (s : State), s.Handles →
      (∀ t, s.installed t = true → (s.tier t).state = .moving ∧ (s.tier t).stop = .pause ∧ (s.tier t).walk.active = false ∧
        ∃ m, s.Single t m) →
      ∃ ts, exec (.haltAll tag) s = .next (({ s with tiers := ts } : State).replied tag 0x87 .ok [] []) ∧
        ∀ t, ts.get t = if s.installed t = true then { s.tier t with stop := .halt .halted } else s.tier t)

/-- RESUME returns a PAUSED tier to MOVING: both generators restart from speed 0 over the distances recomputed from the
commanded position, with their latches clear (R30, R87). Named on either tier of a PAUSED gang of two it restarts the
gang: the one slew generator over the leader's distance, the tilt generators finished as they were, since a gang does
not tilt (R40, R94). The order of the gang's reports is the model's choice (log 15). -/
def Obligations.ResumePaused : Prop :=
  (∀ (tag b : Byte) (t : Tier) (m : MoveRec) (s : State), s.Handles → s.Room 1 → s.Names b t → s.Unbarred t →
    s.Single t m → (s.tier t).state = .paused →
    exec (.resume tag b) s = .next ((s.modTier t fun r =>
      { r with
        state := .moving
        brakeTimer := .stopped
        stop := .none
        move := some { m with
          slew := { m.slew with
            speed := 0
            latch := false
            rem := distance m.dir (s.cmdPos t).slew m.targetSlew
            finished := decide (distance m.dir (s.cmdPos t).slew m.targetSlew = 0) }
          tilt := { m.tilt with
            speed := 0
            latch := false
            rem := (m.targetTilt - (s.cmdPos t).tilt) + ((s.cmdPos t).tilt - m.targetTilt)
            finished := decide (m.targetTilt = (s.cmdPos t).tilt) } } }).replied tag 0x89 .ok [] [.tierState t .moving])) ∧
  (∀ (tag b : Byte) (t u v : Tier) (m x : MoveRec) (d : Nat) (s : State), s.Handles → s.Room 2 → s.Names b v →
    v = t ∨ v = u → t ≠ u → s.Unbarred t → s.Unbarred u → (s.tier t).state = .paused → (s.tier u).state = .paused →
    (s.tier t).move = some m → (s.tier u).move = some x → m.leader = t → m.members = [u] → x.leader = t → x.members = [u] →
    x.dir = m.dir → x.targetSlew = m.targetSlew → m.targetTilt = (s.cmdPos t).tilt → x.targetTilt = (s.cmdPos u).tilt →
    d = distance m.dir (s.cmdPos t).slew m.targetSlew →
    exec (.resume tag b) s = .next (((s.modTier t fun r =>
      { r with
        state := .moving
        brakeTimer := .stopped
        stop := .none
        move := some { m with
          slew := { m.slew with speed := 0, latch := false, rem := d, finished := decide (d = 0) }
          tilt := { m.tilt with speed := 0, latch := false, rem := 0, finished := true } } }).modTier u fun r =>
      { r with
        state := .moving
        brakeTimer := .stopped
        stop := .none
        move := some { x with
          slew := { x.slew with speed := 0, latch := false, rem := d, finished := decide (d = 0) }
          tilt := { x.tilt with speed := 0, latch := false, rem := 0, finished := true } } }).replied tag 0x89 .ok []
        [.tierState t .moving, .tierState u .moving]))

/-- A MOVE whose outcome is Q and whose distance is not zero, and a BRAKE-TEST on a SECURED tier, are offered to the AA:
refused BUSY, FULL or RANGE by the checks of R97 in their order, or queued at the tail, a scan trigger, with reply
QUEUED (R33, R35, R36, R97, R145). A MOVE to where the tier stands completes at once with MOVE-END AT-TARGET and no
entry, and with auto-secure secures the tier from its state (R36). -/
def Obligations.EntriesOffered : Prop :=
  (∀ (tag b : Byte) (t : Tier) (a : MoveArgs) (d : DirArg) (s : State), s.Handles → s.Names b t → s.Unbarred t →
      (s.tier t).state ∈ [.releasing, .ready, .settling] → moveLegal a = true → dirOfCode a.dir.toNat = some d →
      zeroAt a (s.prof t) (s.cmdPos t) = false →
      (s.entryOf t ≠ none → exec (.move tag b a) s = .next (s.replied tag 0x84 .busy [] [])) ∧
      (s.entryOf t = none → 8 ≤ s.aa.queue.length → exec (.move tag b a) s = .next (s.replied tag 0x84 .full [] [])) ∧
      (s.entryOf t = none → s.aa.queue.length < 8 → s.entryFits (moveEntryOf s t a d) = false →
        exec (.move tag b a) s = .next (s.replied tag 0x84 .range [] [])) ∧
      (s.entryOf t = none → s.aa.queue.length < 8 → s.entryFits (moveEntryOf s t a d) = true →
        exec (.move tag b a) s = .next (({ s with aa := { s.aa with
          queue := s.aa.queue ++ [moveEntryOf s t a d], scansDue := s.aa.scansDue + 1 } } : State).replied tag 0x84 .queued [] []))) ∧
  (∀ (tag b : Byte) (t : Tier) (s : State), s.Handles → s.Names b t → (s.tier t).state = .secured →
      (s.fsu.failsafe ≠ none → exec (.brakeTest tag b) s = .next (s.replied tag 0x99 .failsafe [] [])) ∧
      (s.fsu.failsafe = none → s.entryOf t ≠ none → exec (.brakeTest tag b) s = .next (s.replied tag 0x99 .busy [] [])) ∧
      (s.fsu.failsafe = none → s.entryOf t = none → 8 ≤ s.aa.queue.length →
        exec (.brakeTest tag b) s = .next (s.replied tag 0x99 .full [] [])) ∧
      (s.fsu.failsafe = none → s.entryOf t = none → s.aa.queue.length < 8 →
        exec (.brakeTest tag b) s = .next (({ s with aa := { s.aa with
          queue := s.aa.queue ++ [⟨.test, t, [], none, none, none, none, false, .link, 0, .none⟩]
          scansDue := s.aa.scansDue + 1 } } : State).replied tag 0x99 .queued [] []))) ∧
  (∀ (tag b : Byte) (t : Tier) (a : MoveArgs) (s : State), s.Handles → s.Room 2 → s.Names b t → s.Unbarred t →
    moveLegal a = true → (a.slew = none ∨ a.slew = some (s.cmdPos t).slew) →
    (a.tilt = none ∨ a.tilt.map (fun x => min x (s.prof t).tiltMax) = some (s.cmdPos t).tilt) →
    (a.auto = false → (s.tier t).state ∈ [.releasing, .ready, .settling] →
      exec (.move tag b a) s = .next (s.replied tag 0x84 .ok [] [.moveEnd t none .atTarget (s.cmdPos t)])) ∧
    (a.auto = true → (s.tier t).state ∈ [.releasing, .ready] →
      exec (.move tag b a) s = .next ((s.modTier t fun r =>
        { r with state := .securing, brakeTimer := .secureWait (s.prof t).secureTimeout }).replied tag 0x84 .ok []
          [.moveEnd t none .atTarget (s.cmdPos t), .tierState t .securing])) ∧
    (a.auto = true → (s.tier t).state = .settling →
      exec (.move tag b a) s = .next ((s.modTier t fun r => { r with securePending := true }).replied tag 0x84 .ok []
        [.moveEnd t none .atTarget (s.cmdPos t)])))

/-- A MOVE on a MOVING tier is its retarget. It is refused STATE while the move is not a plain running LINK move, REVERSE behind
the tier, RANGE for another tilt, SHORT inside the braking distance and CLAIM where the floor or the zones do not allow
it, in this order, and otherwise taken: the new end of the claim, the new target, distance and latch, the kept ones
where the request carries none (R37, R51, R89). Taken with nothing left to go it leaves an unfinished axis unfinished
(the model's reading, log 24). -/
def Obligations.Retarget : Prop :=
  (∀ (tag b : Byte) (t : Tier) (m : MoveRec) (a : MoveArgs) (s : State), s.Handles → s.Names b t → s.Unbarred t →
    s.Single t m → (s.tier t).state = .moving → moveLegal a = true →
    (m.auto = true ∨ (s.tier t).stop ≠ .none ∨ m.origin ≠ .link →
      exec (.move tag b a) s = .next (s.replied tag 0x84 .state [] [])) ∧
    (∀ x, m.auto = false → (s.tier t).stop = .none → m.origin = .link → a.slew = some x →
      (m.dir = .cw ∧ 8388608 < (x - (s.cmdPos t).slew).toNat ∨
        m.dir = .ccw ∧ 1 ≤ (x - (s.cmdPos t).slew).toNat ∧ (x - (s.cmdPos t).slew).toNat ≤ 8388608) →
      exec (.move tag b a) s = .next (s.replied tag 0x84 .reverse [] []))) ∧
  (∀ (tag b : Byte) (t : Tier) (m : MoveRec) (k : ClaimRec) (a : MoveArgs) (x c : Slew) (r f : Nat) (s : State),
    s.Handles → s.Names b t → s.Unbarred t → s.Single t m → (s.tier t).state = .moving → (s.tier t).stop = .none →
    m.auto = false → m.origin = .link → s.claim t = some k → moveLegal a = true → c = (s.cmdPos t).slew →
    (a.slew = none ∧ x = m.targetSlew ∧ r = m.slew.rem ∨
      a.slew = some x ∧ m.dir = .cw ∧ (x - c).toNat ≤ 8388608 ∧ r = (x - c).toNat ∨
      a.slew = some x ∧ m.dir = .ccw ∧ (c - x).toNat < 8388608 ∧ r = (c - x).toNat) →
    f = (k.offset + m.slew.progress + r) / 65536 + k.lm + k.rm →
    (∀ y, a.tilt = some y → min y (s.prof t).tiltMax ≠ m.targetTilt →
      exec (.move tag b a) s = .next (s.replied tag 0x84 .range [] [])) ∧
    ((∀ y, a.tilt = some y → min y (s.prof t).tiltMax = m.targetTilt) →
      (r < braking (s.prof t).slewAcc m.slew.speed →
        exec (.move tag b a) s = .next (s.replied tag 0x84 .short [] [])) ∧
      (braking (s.prof t).slewAcc m.slew.speed ≤ r →
        (256 < f + 1 - k.release ∨ s.mapConflict = true ∨
          (∃ g ∈ (stepArc k.dir k.origin (k.finish + 1) (f + 1)).cells, s.fm.at g ≠ .free) ∨
          s.zoneDecision m.cls (stepArc k.dir k.origin k.release (f + 1)) (decide (m.band ≠ 0))
            [footprint (s.prof t) x (tiltBand m.targetTilt)] ≠ .pass) →
        exec (.move tag b a) s = .next (s.replied tag 0x84 .claim [] [])) ∧
      (braking (s.prof t).slewAcc m.slew.speed ≤ r → f + 1 - k.release ≤ 256 → s.mapConflict = false →
        (∀ g ∈ (stepArc k.dir k.origin (k.finish + 1) (f + 1)).cells, s.fm.at g = .free) →
        s.zoneDecision m.cls (stepArc k.dir k.origin k.release (f + 1)) (decide (m.band ≠ 0))
          [footprint (s.prof t) x (tiltBand m.targetTilt)] = .pass →
        exec (.move tag b a) s = .next ((({ s with
            fm := s.fm.retarget t k f
            aa := { s.aa with scansDue := s.aa.scansDue + if f < k.finish then 1 else 0 } } : State).modTier t fun q =>
          { q with move := some { m with
              targetSlew := x
              auto := a.auto
              slew := { m.slew with rem := r, latch := false, finished := m.slew.finished && decide (r = 0) } } }).replied
            tag 0x84 .ok [] []))))

/-- A GANG-MOVE of two READY tiers that stand contiguous in the order named becomes one entry with both as its tiers; one
that names a tier twice, or whose tiers do not stand so, is refused RANGE (R39, R97). -/
def Obligations.GangMoveOffered : Prop :=
  ∀ (tag b0 b1 b2 b3 : Byte) (t u : Tier) (a : MoveArgs) (d : DirArg) (e : Entry) (s : State),
    s.Handles → s.Names b0 t → s.Names b1 u → s.Unbarred t → s.Unbarred u →
    (s.tier t).state = .ready → (s.tier u).state = .ready → moveLegal a = true → dirOfCode a.dir.toNat = some d →
    a.tilt = none → zeroAt a (s.prof t) (s.cmdPos t) = false →
    e = { moveEntryOf s t a d with kind := .gangMove, members := [u], targetTilt := none } →
    (t = u ∨ s.contiguous (resolveDir d (s.cmdPos t).slew a.slew) t [u] = false →
      exec (.gangMove tag 2 b0 b1 b2 b3 a) s = .next (s.replied tag 0x85 .range [] [])) ∧
    (t ≠ u → s.contiguous (resolveDir d (s.cmdPos t).slew a.slew) t [u] = true → s.entryOf t = none → s.entryOf u = none →
      s.aa.queue.length < 8 → s.entryFits e = true →
      exec (.gangMove tag 2 b0 b1 b2 b3 a) s = .next (({ s with aa := { s.aa with
        queue := s.aa.queue ++ [e], scansDue := s.aa.scansDue + 1 } } : State).replied tag 0x85 .queued [] []))

/-- ROUTE-PUT writes one waypoint of an installed tier that runs no leg, and is refused BUSY while it does (R130). ROUTE
sets the walk record active and queues its first leg, to the start waypoint, and is refused RANGE while that is unset
(R132, R133, R134). -/
def Obligations.Routes : Prop :=
  (∀ (tag b k : Byte) (t : Tier) (n : Fin 8) (s : State), s.Handles → s.Names b t → k.toNat = n.val →
      (s.onLeg t = true → exec (.routePut tag b k none) s = .next (s.replied tag 0x8B .busy [] [])) ∧
      (s.onLeg t = false → exec (.routePut tag b k none) s =
        .next ((s.modTier t fun r => { r with route := r.route.set n none }).replied tag 0x8B .ok [] [])) ∧
      (∀ (w : WaypointMsg) (d : DirArg), dirOfCode w.dir.toNat = some d → w.tilt < 32768 → s.onLeg t = false →
        exec (.routePut tag b k (some w)) s =
          .next ((s.modTier t fun r => { r with route := r.route.set n (some ⟨w.slew, w.tilt, d⟩) }).replied tag 0x8B .ok [] []))) ∧
  (∀ (tag b k c : Byte) (t : Tier) (n : Fin 8) (r : Run) (auto maint : Bool) (s : State), s.Handles → s.Names b t →
      s.Unbarred t → (s.tier t).state ∈ [.releasing, .ready, .settling] → k.toNat = n.val → runOfCode c = some r →
      (r = .cont → maint = true) →
      ((s.tier t).route.get n = none →
        exec (.route tag b k c auto maint) s = .next (s.replied tag 0x8A .range [] [])) ∧
      ∀ (w : Waypoint) (e : Entry), (s.tier t).route.get n = some w →
        e = { kind := .leg, tier := t, members := [], cls := some (if maint then .maint else .convert),
              targetSlew := some w.slew, dir := some (resolveDir w.dir (s.cmdPos t).slew (some w.slew)),
              targetTilt := some (min w.tilt (s.prof t).tiltMax), auto := decide (r = .one) && auto,
              origin := .route, bypass := 0, sample := .none } →
        s.entryOf t = none → s.aa.queue.length < 8 → s.entryFits e = true →
        exec (.route tag b k c auto maint) s = .next ((({ s with aa := { s.aa with
            queue := s.aa.queue ++ [e], scansDue := s.aa.scansDue + 1 } } : State).modTier t fun x =>
          { x with walk := ⟨true, n, r, if maint then .maint else .convert, auto, 0, 0, false, none⟩ }).replied
            tag 0x8A .queued [] []))
/-! ### Conversions, the budget, fail-safe and faults -/

/-- A CONVERT takes each tier of the layout in rank order. Where all stand at their targets the conversion is DONE at once, and
the others are not in it (R118, R119, R120, R124). Where one tier does not, it is WAITING with its conversion entry
offered: QUEUED, or PENDING at a full queue; a SECURED one is first released, and one in SECURING wants its release; a
refused release leaves it DROPPED with its report (R120, R121, R123). A refused CONVERT changes nothing but the STORE
fault of a slot that fails its check value, and its code is that of the first check that fails (R119). -/
def Obligations.ConvertTaken : Prop :=
  (∀ (tag b : Byte) (n : Fin 16) (l : Layout) (s : State), s.Handles → s.Room 1 → slotOf b = some n →
    s.fsu.failsafe = none → s.convActive = false → s.nvs.op = none → s.slot n = .written l → l.endSecure = false →
    (∀ t, s.installed t = true → (s.tier t).state ≠ .unsynced) →
    (∀ t, s.installed t = true → (layoutEntry l t).present = true →
      s.fsu.showLock.getLsbD t = false ∧ (s.tier t).state ≠ .faulted ∧
      s.cmdPos t = ⟨(layoutEntry l t).slew, min (layoutEntry l t).tilt (s.prof t).tiltMax⟩) →
    ∃ ts, exec (.convert tag b) s = .next (({ s with cu :=
        { state := .done, slot := some n, layout := some l, total := (s.convTiersOf l).length,
          done := (s.convTiersOf l).length, dropped := 0, tiers := ts } } : State).replied tag 0x90 .ok []
        [.conversion (some n) .done (s.convTiersOf l).length 0 (s.convTiersOf l).length none]) ∧
      ∀ t, ts.get t = if s.installed t = true ∧ (layoutEntry l t).present = true then ⟨.done, .none, false⟩
        else ⟨.out, .none, false⟩) ∧
  (∀ (tag b : Byte) (n : Fin 16) (l : Layout) (u : Tier) (x : LayoutEntry) (d : DirArg) (e : Entry) (k : Nat) (s : State),
    s.Handles → s.Room 2 → slotOf b = some n → s.fsu.failsafe = none → s.convActive = false → s.nvs.op = none →
    s.slot n = .written l → l.endSecure = false → (∀ t, s.installed t = true → (s.tier t).state ≠ .unsynced) →
    (∀ t, s.installed t = true → (layoutEntry l t).present = true →
      s.fsu.showLock.getLsbD t = false ∧ (s.tier t).state ≠ .faulted ∧
      (t ≠ u → s.cmdPos t = ⟨(layoutEntry l t).slew, min (layoutEntry l t).tilt (s.prof t).tiltMax⟩)) →
    s.installed u = true → layoutEntry l u = x → x.present = true →
    s.cmdPos u ≠ ⟨x.slew, min x.tilt (s.prof u).tiltMax⟩ → k + 1 = (s.convTiersOf l).length → dirOfCode x.dir.toNat = some d →
    e = { kind := .move, tier := u, members := [], cls := some .convert, targetSlew := some x.slew,
          dir := some (resolveDir d (s.cmdPos u).slew (some x.slew)), targetTilt := some (min x.tilt (s.prof u).tiltMax),
          auto := false, origin := .conversion, bypass := 0, sample := .none } →
    ∀ (ts : Vector ConvTier 12) (y : ConvTier),
      (∀ t, ts.get t = if t = u then y
        else if s.installed t = true ∧ (layoutEntry l t).present = true then ⟨.done, .none, false⟩ else ⟨.out, .none, false⟩) →
      ((s.tier u).state ≠ .secured → s.entryOf u = none → s.aa.queue.length < 8 → s.entryFits e = true →
        y = ⟨.waiting, .queued, decide ((s.tier u).state = .securing)⟩ →
        exec (.convert tag b) s = .next (({ s with
          cu := { state := .running, slot := some n, layout := some l, total := k + 1, done := k, dropped := 0, tiers := ts }
          aa := { s.aa with queue := s.aa.queue ++ [e], scansDue := s.aa.scansDue + 1 } } : State).replied
            tag 0x90 .ok [] [])) ∧
      ((s.tier u).state ≠ .secured → s.entryOf u = none → 8 ≤ s.aa.queue.length →
        y = ⟨.waiting, .pending, decide ((s.tier u).state = .securing)⟩ →
        exec (.convert tag b) s = .next (({ s with
          cu := { state := .running, slot := some n, layout := some l, total := k + 1, done := k, dropped := 0,
                  tiers := ts } } : State).replied tag 0x90 .ok [] [])) ∧
      ((s.tier u).state = .secured → (s.profiles.get u).valid = true → (s.tier u).brakeWeak = false → s.entryOf u = none →
        s.aa.queue.length < 8 → s.entryFits e = true → y = ⟨.waiting, .queued, false⟩ →
        exec (.convert tag b) s = .next ((({ s with
          cu := { state := .running, slot := some n, layout := some l, total := k + 1, done := k, dropped := 0, tiers := ts }
          aa := { s.aa with queue := s.aa.queue ++ [e], scansDue := s.aa.scansDue + 1 } } : State).modTier u fun r =>
          { r with state := .releasing, brakeTimer := .releaseWait (s.prof u).releaseTimeout }).replied
            tag 0x90 .ok [] [.tierState u .releasing])) ∧
      (∀ c, (s.tier u).state = .secured → c = (if (s.profiles.get u).valid = false then Code.profile else .brake) →
        (s.profiles.get u).valid = false ∨ (s.tier u).brakeWeak = true → y = ⟨.dropped, .none, false⟩ →
        exec (.convert tag b) s = .next (({ s with
          cu := { state := .done, slot := some n, layout := some l, total := k + 1, done := k, dropped := 1,
                  tiers := ts } } : State).replied tag 0x90 .ok []
          [.conversion (some n) .tierDropped
              ((rankOrder l (s.convTiersOf l)).takeWhile fun t => decide (t ≠ u)).length 1 (k + 1) (some (u, c)),
            .conversion (some n) .done k 1 (k + 1) none]))) ∧
  (∀ (tag b : Byte) (s : State), s.Handles →
    (slotOf b = none → exec (.convert tag b) s = .next (s.replied tag 0x90 .range [] [])) ∧
    ∀ n : Fin 16, slotOf b = some n →
      (s.fsu.failsafe ≠ none → exec (.convert tag b) s = .next (s.replied tag 0x90 .failsafe [] [])) ∧
      (s.fsu.failsafe = none → s.convActive = true ∨ s.nvs.op ≠ none →
        exec (.convert tag b) s = .next (s.replied tag 0x90 .busy [] [])) ∧
      (s.fsu.failsafe = none → s.convActive = false → s.nvs.op = none →
        (s.slot n = .blank ∨ s.slot n = .bad ∧ s.fsu.device.getLsbD 10 = true →
          exec (.convert tag b) s = .next (s.replied tag 0x90 .blank [] [])) ∧
        (s.slot n = .bad → s.fsu.device.getLsbD 10 = false → s.Room 1 →
          exec (.convert tag b) s = .next (({ s with fsu := { s.fsu with
            device := s.fsu.device ||| 0x400#12 } } : State).replied tag 0x90 .blank [] [.device true .store])) ∧
        ∀ l, s.slot n = .written l →
          ((∃ t, s.installed t = true ∧ (s.tier t).state = .unsynced) →
            exec (.convert tag b) s = .next (s.replied tag 0x90 .state [] [])) ∧
          ((∀ t, s.installed t = true → (s.tier t).state ≠ .unsynced) →
            ((∃ t, s.installed t = true ∧ (layoutEntry l t).present = true ∧ s.fsu.showLock.getLsbD t = true) →
              exec (.convert tag b) s = .next (s.replied tag 0x90 .showLocked [] [])) ∧
            ((∀ t, s.installed t = true → (layoutEntry l t).present = true → s.fsu.showLock.getLsbD t = false) →
              (∃ t, s.installed t = true ∧ (layoutEntry l t).present = true ∧ (s.tier t).state = .faulted) →
              exec (.convert tag b) s = .next (s.replied tag 0x90 .state [] [])))))

/-- CONVERT-ABORT counts every PENDING tier dropped, and a QUEUED one with the removal of its entry, cause CANCELLED; while no tier
moves the conversion is ABORTED at once, and a moving one is halted while the conversion is ABORTING. In the other
states it is N (R85, R98, R124, R128). -/
def Obligations.ConvertAbortEnds : Prop :=
  ∀ (tag : Byte) (s : State), s.Handles → s.Room 2 →
    (s.cu.state ∈ [.idle, .aborting, .done, .aborted] →
      exec (.convertAbort tag) s = .next (s.replied tag 0x91 .ok [] [])) ∧
    ∀ (d : Nat), s.cu.state = .running ∨ s.cu.state = .stalled →
      d = s.cu.dropped + (allTiers.filter fun t => decide ((s.convTier t).status = .waiting)).length →
      ∃ ts, (∀ t, ts.get t = if (s.convTier t).status = .waiting then ⟨.dropped, .none, false⟩
          else { s.convTier t with releaseWanted := false }) ∧
        ((∀ e ∈ s.aa.queue, e.origin ≠ .conversion) → (∀ t, (s.convTier t).status ≠ .moving) →
          (∀ t, (s.convTier t).status = .waiting → (s.convTier t).entry = .pending) →
          exec (.convertAbort tag) s = .next (({ s with cu :=
            { s.cu with state := .aborted, dropped := d, tiers := ts } } : State).replied tag 0x91 .ok []
            [.conversion s.cu.slot .aborted s.cu.done d s.cu.total none])) ∧
        (∀ (u : Tier) (e : Entry), (s.aa.queue.filter fun q => decide (q.origin = .conversion)) = [e] → e.tier = u →
          (s.convTier u).status = .waiting → (s.convTier u).entry = .queued → (∀ t, (s.convTier t).status ≠ .moving) →
          (∀ t, t ≠ u → (s.convTier t).status = .waiting → (s.convTier t).entry = .pending) →
          exec (.convertAbort tag) s = .next (({ s with
            aa := { s.aa with queue := s.aa.queue.erase e, scansDue := s.aa.scansDue + 1 }
            cu := { s.cu with state := .aborted, dropped := d, tiers := ts } } : State).replied tag 0x91 .ok []
            [.requestDropped u e.members e.kind .conversion .cancelled,
              .conversion s.cu.slot .aborted s.cu.done d s.cu.total none])) ∧
        (∀ (u : Tier) (m : MoveRec), (∀ e ∈ s.aa.queue, e.origin ≠ .conversion) →
          (∀ t, (s.convTier t).status = .moving ↔ t = u) →
          (∀ t, (s.convTier t).status = .waiting → (s.convTier t).entry = .pending) →
          s.Single u m → (s.tier u).state = .moving → (s.tier u).stop = .none → m.Brakes (s.prof u) →
          exec (.convertAbort tag) s = .next ((({ s with cu :=
            { s.cu with state := .aborting, dropped := d, tiers := ts } } : State).modTier u fun r =>
            { r with stop := .halt .halted, move := some (m.braked (s.prof u)) }).replied tag 0x91 .ok [] []))

/-- SET-BUDGET sets the budget, at most 1023, and answers with it (in two bytes, log 27); when its event ends the sum
of the allocations fits it, whatever grants it had to derate or remove. With no grant in force it changes the budget
alone and starts one scan (R112, R115). -/
def Obligations.BudgetFits : Prop :=
  (∀ (tag : Byte) (n : Nat) (s : State), s.Handles →
      ∃ t, exec (.setBudget tag n) s = .next t ∧ t.aa.budget = min 1023 n ∧ t.allocated ≤ t.aa.budget ∧
        t.clp.replies = s.clp.replies ++
          [⟨tag, 0x94, .ok, [BitVec.ofNat 8 (min 1023 n / 256), BitVec.ofNat 8 (min 1023 n)]⟩]) ∧
  (∀ (tag : Byte) (n : Nat) (s : State), s.Handles → s.aa.grants = [] →
      exec (.setBudget tag n) s = .next (({ s with
        aa := { s.aa with budget := min 1023 n, scansDue := s.aa.scansDue + 1 } } : State).replied tag 0x94 .ok
          [BitVec.ofNat 8 (min 1023 n / 256), BitVec.ofNat 8 (min 1023 n)] []))

/-- Fail-safe, FORCED or at the expiry of the watchdog, stops every installed tier as the table of R171 gives for the
states without a move or a test (SafetyStopsMoving has the others); the ascending order of their reports (log 15) and
the FAILSAFE report after them (log 14) are the model's choice. CLEAR-FAILSAFE makes fail-safe INACTIVE with a FAILSAFE
report of CLEARED and a scan trigger, and changes nothing else; while it is INACTIVE it is N, and so is FORCE-FAILSAFE
while it is ACTIVE (R171, R173). That the report carries the cause is the model's choice (log 26). -/
def Obligations.FailsafeStops : Prop :=
  (∀ (tag : Byte) (s : State), s.fsu.failsafe = none → s.aa.queue = [] → s.Room 13 → s.convActive = false →
    (∀ t, s.installed t = true → (s.tier t).state ∉ [.moving, .paused, .testing] ∧ (s.tier t).move = none) →
    ∃ ts, (∀ t, ts.get t = if s.installed t = true then stoppedStanding s t else s.tier t) ∧
      (s.Handles → exec (.forceFailsafe tag) s = .next (({ s with
        tiers := ts
        fsu := { s.fsu with failsafe := some .forced }
        freeCount := s.freeCount + 1 } : State).replied tag 0xA0 .ok []
          (((s.installedTiers.filter (released s)).map fun t => Report.tierState t .securing) ++ [.failsafe true .forced]))) ∧
      (∀ ms, s.phase = .running → s.fsu.watchdog = .running ms → exec .watchdogExpiry s = .next (({ s with
        tiers := ts
        fsu := { s.fsu with failsafe := some .watchdog, watchdog := .expired }
        freeCount := s.freeCount + 1 } : State).reported
          (((s.installedTiers.filter (released s)).map fun t => Report.tierState t .securing) ++ [.failsafe true .watchdog])))) ∧
  (∀ (tag : Byte) (s : State), s.Handles → s.Room 1 →
    (∀ c, s.fsu.failsafe = some c →
      exec (.clearFailsafe tag) s = .next (({ s with
        fsu := { s.fsu with failsafe := none }
        aa := { s.aa with scansDue := s.aa.scansDue + 1 } } : State).replied tag 0xA1 .ok [] [.failsafe false c]) ∧
      exec (.forceFailsafe tag) s = .next (s.replied tag 0xA0 .ok [] [])) ∧
    (s.fsu.failsafe = none → exec (.clearFailsafe tag) s = .next (s.replied tag 0xA1 .ok [] [])))

/-- CLEAR-FAULTS on a FAULTED tier without a move is refused ACTIVE while a latched kind is active or its footprint cannot
be placed (R57), and otherwise places the tier where its latest feedback shows it, empties its fault record and leaves it
SECURED or SECURING (R164). For all tiers it clears STORE, is N without FAULTED tiers and STORE, and answers
ACTIVE when a tier is left FAULTED (R166, R167). A tier with MAP-CONFLICT is marked where every cell is FREE (R58). How
many of the triggers of R101 one clear counts is the model's choice (log 6). -/
def Obligations.ClearFaults : Prop :=
  (∀ (tag b : Byte) (t : Tier) (p : Pos) (f : Feedback) (a : Arc) (s : State), s.Handles → s.Room 2 → s.Names b t →
      (s.tier t).state = .faulted → (s.tier t).move = none → (s.tier t).act = some p → (s.link t).last = some f →
      s.convActive = false → a = footprint (s.prof t) p.slew (tiltBand (min p.tilt (s.prof t).tiltMax)) →
      ((s.tier t).fault.latched &&& s.conditions t ≠ 0 →
        exec (.clearFaults tag b) s = .next (s.replied tag 0xA2 .active [] [])) ∧
      ((s.tier t).fault.latched.getLsbD 7 = true → s.fm.allFree a = false →
        exec (.clearFaults tag b) s = .next (s.replied tag 0xA2 .active [] [])) ∧
      ((s.tier t).fault.latched.getLsbD 7 = true → (s.tier t).fault.latched &&& s.conditions t = 0 → s.fm.allFree a = true →
        f.brake = .set →
        exec (.clearFaults tag b) s = .next ((({ s with
            fm := s.fm.mark t a
            aa := { s.aa with scansDue := s.aa.scansDue + 2 } } : State).modTier t fun r =>
          { r with
            state := .secured
            brakeTimer := .stopped
            cmd := some ⟨p.slew, min p.tilt (s.prof t).tiltMax⟩
            fault := ⟨0, none⟩
            stop := .none
            stoodStill := false }).replied tag 0xA2 .ok []
          [.faultCleared t (s.tier t).fault.latched, .tierState t .secured])) ∧
      ((s.tier t).fault.latched.getLsbD 7 = false → s.fm.canPlace t [] a = false → exec (.clearFaults tag b) s = .next (s.replied tag 0xA2 .active [] [])) ∧
      ((s.tier t).fault.latched.getLsbD 7 = false → (s.tier t).fault.latched &&& s.conditions t = 0 →
        s.fm.canPlace t [] a = true → f.brake = .set →
        exec (.clearFaults tag b) s = .next ((({ s with
            fm := s.fm.place t a
            aa := { s.aa with scansDue := s.aa.scansDue + 3 } } : State).modTier t fun r =>
          { r with
            state := .secured
            brakeTimer := .stopped
            cmd := some ⟨p.slew, min p.tilt (s.prof t).tiltMax⟩
            fault := ⟨0, none⟩
            stop := .none
            stoodStill := false }).replied tag 0xA2 .ok []
          [.faultCleared t (s.tier t).fault.latched, .tierState t .secured])) ∧
      ((s.tier t).fault.latched.getLsbD 7 = false → (s.tier t).fault.latched &&& s.conditions t = 0 →
        s.fm.canPlace t [] a = true → f.brake ≠ .set →
        exec (.clearFaults tag b) s = .next ((({ s with
            fm := s.fm.place t a
            aa := { s.aa with scansDue := s.aa.scansDue + 2 } } : State).modTier t fun r =>
          { r with
            state := .securing
            brakeTimer := .secureWait (s.prof t).secureTimeout
            cmd := some ⟨p.slew, min p.tilt (s.prof t).tiltMax⟩
            fault := ⟨0, none⟩
            stop := .none
            stoodStill := false }).replied tag 0xA2 .ok []
          [.faultCleared t (s.tier t).fault.latched, .tierState t .securing]))) ∧
  (∀ (tag : Byte) (s : State), s.Handles → s.Room 1 →
      ((∀ t, s.installed t = true → (s.tier t).state ≠ .faulted) → s.fsu.device.getLsbD 10 = true →
        exec (.clearFaultsAll tag) s = .next (({ s with
          fsu := { s.fsu with device := s.fsu.device &&& 0xBFF#12 }
          aa := { s.aa with scansDue := s.aa.scansDue + 1 } } : State).replied tag 0xA2 .ok [] [.device false .store])) ∧
      (s.fsu.device.getLsbD 10 = false → (∀ t, s.installed t = true → (s.tier t).state = .faulted →
          (s.tier t).fault.latched &&& s.conditions t ≠ 0) →
        exec (.clearFaultsAll tag) s = .next (s.replied tag 0xA2
          (if ∃ t, s.installed t = true ∧ (s.tier t).state = .faulted then .active else .ok) [] [])))

/-- SHOW-LOCK adds the named tiers to the set; each newly locked installed tier without a move is stopped as the table of
R174 gives (SafetyStopsMoving has the moving ones); a set that names a tier above 11 is refused RANGE (R174). The
ascending order of the stops and their reports is the model's choice (log 15). -/
def Obligations.ShowLockStops : Prop :=
  ∀ (tag : Byte) (x : BitVec 16) (s : State), s.Handles →
    (x.toNat ≥ 4096 → exec (.showLock tag x) s = .next (s.replied tag 0xA3 .range [] [])) ∧
    (x.toNat < 4096 → s.Room 12 → s.aa.queue = [] →
      (∀ t, s.installed t = true → (s.tier t).state ≠ .moving ∧ (s.tier t).state ≠ .paused) →
      ∃ ts, (∀ t, ts.get t = if s.installed t = true ∧ x.getLsbD t = true ∧ s.fsu.showLock.getLsbD t = false then
          stoppedStanding s t else s.tier t) ∧
        exec (.showLock tag x) s = .next (({ s with
          tiers := ts
          fsu := { s.fsu with showLock := s.fsu.showLock ||| x.extractLsb' 0 12 } } : State).replied tag 0xA3 .ok []
            ((s.installedTiers.filter fun (t : Tier) =>
              x.getLsbD t && !s.fsu.showLock.getLsbD t && released s t).map fun t => .tierState t .securing)))

/-- What fail-safe does to one moving, paused or testing tier in a hall whose other tiers are SECURED: a controlled halt with
auto-secure and reason FAILSAFE, the securing of a tier under a quick stop with its claim and allocation kept, the end
of a paused move at once (past SETTLING at a settle time of 0, R27), the abort of a test; and to the queue: every entry removed from the head on, with cause
FAILSAFE (R28, R31, R148, R171, R172). A show stop halts a moving tier and ends a paused move alike, with reason SHOW,
and removes the entry that names its tier (R174). The FAILSAFE report after those of the stops and before those of the
flush is the model's choice (log 14), and so is the order of one stop's reports (log 15). -/
def Obligations.SafetyStopsMoving : Prop :=
  (∀ (tag : Byte) (t : Tier) (s x : State), s.Handles → s.Room 9 → s.fsu.failsafe = none → s.convActive = false →
    s.installed t = true → (∀ u, u ≠ t → s.installed u = true → (s.tier u).state = .secured) →
    x = { s with fsu := { s.fsu with failsafe := some .forced }, freeCount := s.freeCount + 1 } →
    (∀ m, s.aa.queue = [] → s.Single t m → (s.tier t).state = .moving → (s.tier t).stop = .none → m.Brakes (s.prof t) →
      exec (.forceFailsafe tag) s = .next ((x.modTier t fun r =>
        { r with stop := .halt .failsafe, move := some { m.braked (s.prof t) with auto := true } }).replied tag 0xA0 .ok []
          [.failsafe true .forced])) ∧
    (∀ m, s.aa.queue = [] → s.Single t m → (s.tier t).state = .moving → (s.tier t).stop = .quick →
      exec (.forceFailsafe tag) s = .next ((x.modTier t fun r =>
        { r with state := .securing, brakeTimer := .secureWait (s.prof t).secureTimeout }).replied tag 0xA0 .ok []
          [.tierState t .securing, .failsafe true .forced])) ∧
    (∀ m p, s.aa.queue = [] → s.Single t m → m.origin = .link → (s.tier t).state = .paused → (s.tier t).cmd = some p →
      s.fm.canPlace t [] (s.standing t) = true → s.aa.grants.any (fun g => g.names t) = true →
      exec (.forceFailsafe tag) s = .next ((({ x with
          fm := s.fm.place t (s.standing t)
          aa := { s.aa with grants := s.aa.grants.filter fun g => !g.names t, scansDue := s.aa.scansDue + 2 } } : State).modTier
        t fun r => r.settled p (s.prof t) true).replied tag 0xA0 .ok []
          (.moveEnd t none .failsafe p :: restReports t (restState (s.prof t) true) ++ [.failsafe true .forced]))) ∧
    (∀ y, s.aa.queue = [] → (s.tier t).state = .testing → (s.tier t).test = some y →
      s.aa.grants.any (fun g => g.names t) = true →
      exec (.forceFailsafe tag) s = .next ((({ x with
          aa := { s.aa with grants := s.aa.grants.filter fun g => !g.names t, scansDue := s.aa.scansDue + 2 } } : State).modTier
        t fun r => { r with
          state := .secured
          brakeTimer := .stopped
          testTimer := none
          test := some { y with result := some .aborted } }).replied tag 0xA0 .ok []
          [.brakeTest t .aborted y.lastSlip y.slipLimit (s.tier t).brakeWeak, .tierState t .secured,
            .failsafe true .forced])) ∧
    ((s.tier t).state = .secured → s.aa.queue.length ≤ 8 → (∀ e ∈ s.aa.queue, e.origin = .link) →
      exec (.forceFailsafe tag) s = .next (({ x with
          aa := { s.aa with queue := [], scansDue := s.aa.scansDue + s.aa.queue.length } } : State).replied tag 0xA0 .ok []
        (.failsafe true .forced :: s.aa.queue.map fun e => .requestDropped e.tier e.members e.kind .link .failsafe)))) ∧
  (∀ (tag : Byte) (t : Tier) (w : BitVec 16) (s x : State), s.Handles → s.Room 2 → w.toNat < 4096 →
    (∀ u : Tier, w.getLsbD u = decide (u = t)) → s.installed t = true → s.fsu.showLock.getLsbD t = false →
    x = { s with fsu := { s.fsu with showLock := s.fsu.showLock ||| w.extractLsb' 0 12 } } →
    (∀ m, s.entryOf t = none → s.Single t m → (s.tier t).state = .moving → (s.tier t).stop = .none → m.Brakes (s.prof t) →
      exec (.showLock tag w) s = .next ((x.modTier t fun r =>
        { r with stop := .halt .showStop, move := some { m.braked (s.prof t) with auto := true } }).replied tag 0xA3 .ok [] [])) ∧
    (∀ m p, s.Room 3 → s.entryOf t = none → s.Single t m → m.origin = .link → (s.tier t).state = .paused → (s.tier t).cmd = some p →
      s.fm.canPlace t [] (s.standing t) = true → s.aa.grants.any (fun g => g.names t) = true →
      exec (.showLock tag w) s = .next ((({ x with
          fm := s.fm.place t (s.standing t)
          aa := { s.aa with grants := s.aa.grants.filter fun g => !g.names t, scansDue := s.aa.scansDue + 2 } } : State).modTier
        t fun r => r.settled p (s.prof t) true).replied tag 0xA3 .ok []
          (.moveEnd t none .showStop p :: restReports t (restState (s.prof t) true)))) ∧
    (∀ e, s.entryOf t = some e → e.origin = .link → (s.tier t).state ∈ [.unsynced, .secured, .securing, .testing, .faulted] →
      exec (.showLock tag w) s = .next (({ x with
          aa := { s.aa with queue := s.aa.queue.erase e, scansDue := s.aa.scansDue + 1 } } : State).replied tag 0xA3 .ok []
        [.requestDropped e.tier e.members e.kind .link .showLocked])) ∧
    (∀ e, s.entryOf t = some e → e.origin = .link → (s.tier t).state = .ready →
      exec (.showLock tag w) s = .next ((({ x with
          aa := { s.aa with queue := s.aa.queue.erase e, scansDue := s.aa.scansDue + 1 } } : State).modTier t fun r =>
        { r with state := .securing, brakeTimer := .secureWait (s.prof t).secureTimeout }).replied tag 0xA3 .ok []
        [.tierState t .securing, .requestDropped e.tier e.members e.kind .link .showLocked])))

/-- RELEASE-SHOW and UNLOCK act while the KEY input is active and are refused KEY otherwise; RELEASE-SHOW of no tier is N
and LOCK is taken at any KEY level; a tier above 11 or a group other than the three is refused RANGE; nothing else
changes (R175, R176). That KEY is tested first on a group unlocked already is the model's choice (log 45). -/
def Obligations.KeyedRequests : Prop :=
  (∀ (tag : Byte) (x : BitVec 16) (s : State), s.Handles →
      (x.toNat ≥ 4096 → exec (.releaseShow tag x) s = .next (s.replied tag 0xA4 .range [] [])) ∧
      (x = 0 → exec (.releaseShow tag x) s = .next (s.replied tag 0xA4 .ok [] [])) ∧
      (0 < x.toNat → x.toNat < 4096 → s.fsu.key = true →
        exec (.releaseShow tag x) s = .next (({ s with
          fsu := { s.fsu with showLock := s.fsu.showLock &&& ~~~(x.extractLsb' 0 12) } } : State).replied tag 0xA4 .ok [] [])) ∧
      (0 < x.toNat → x.toNat < 4096 → s.fsu.key = false →
        exec (.releaseShow tag x) s = .next (s.replied tag 0xA4 .key [] []))) ∧
  (∀ (tag : Byte) (s : State), s.Handles →
      (∀ g : Byte, 2 < g.toNat → exec (.lock tag g) s = .next (s.replied tag 0xA5 .range [] []) ∧
        exec (.unlock tag g) s = .next (s.replied tag 0xA6 .range [] [])) ∧
      (∀ g : Byte, g.toNat ≤ 2 → s.fsu.key = true → exec (.unlock tag g) s = .next (({ s with fsu :=
        { s.fsu with
          profilesLocked := s.fsu.profilesLocked && !decide (g = 0)
          zonesLocked := s.fsu.zonesLocked && !decide (g = 1)
          layoutsLocked := s.fsu.layoutsLocked && !decide (g = 2) } } : State).replied tag 0xA6 .ok [] [])) ∧
      (∀ g : Byte, g.toNat ≤ 2 → s.fsu.key = false → exec (.unlock tag g) s = .next (s.replied tag 0xA6 .key [] [])) ∧
      (∀ g : Byte, g.toNat ≤ 2 → exec (.lock tag g) s = .next (({ s with fsu :=
        { s.fsu with
          profilesLocked := s.fsu.profilesLocked || decide (g = 0)
          zonesLocked := s.fsu.zonesLocked || decide (g = 1)
          layoutsLocked := s.fsu.layoutsLocked || decide (g = 2) } } : State).replied tag 0xA5 .ok [] [])))
/-! ### Settings and the store -/

/-- SITE-SET on a hall with no installed tier installs its tiers, each UNSYNCED with a fresh link record, replaces the running
record and treats the watchdog timer as R170 gives; a second one is refused ONCE, a field out of its range RANGE, and a
hall not at rest BUSY, in this order (R16, R170, R184, R185). One that removes the only tier removes its entry with
NO-TIER, frees its cells, and empties its records, sample and channel (R16, R59). The ascending order of the TIER-STATE
reports (log 15), that an added tier reports UNSYNCED (log 28) and the walk fields of its record (log 36) are the
model's choice. -/
def Obligations.SiteSetTaken : Prop :=
  ∀ (tag : Byte) (m : SiteMsg) (s : State), s.Handles →
    (s.siteSetTaken = true → exec (.siteSet tag m) s = .next (s.replied tag 0xA8 .once [] [])) ∧
    (s.siteSetTaken = false → 4096 ≤ m.installed.toNat ∨ 4096 ≤ m.showLock.toNat ∨ 4096 ≤ m.masks.toNat ∨ m.creep = 0 ∨
        16 < m.boundary.toNat ∨ 8 < m.watchdog.toNat →
      exec (.siteSet tag m) s = .next (s.replied tag 0xA8 .range [] [])) ∧
    (∀ (w : WatchdogSetting) (x : Site) (y : WatchdogTimer), s.siteSetTaken = false → m.installed.toNat < 4096 →
      m.showLock.toNat < 4096 → m.masks.toNat < 4096 → m.creep ≠ 0 → m.boundary.toNat ≤ 16 →
      watchdogOfCode m.watchdog = some w →
      x = { installed := m.installed.extractLsb' 0 12
            watchdog := w
            creep := m.creep.toNat
            budget := min 1023 m.budget
            showLock := m.showLock.extractLsb' 0 12
            boundary := m.boundary.toNat
            masks := m.masks.extractLsb' 0 12 } →
      y = (match s.fsu.watchdog, w with
        | .notStarted, _ => .notStarted
        | _, .timed ms => .running ms
        | _, _ => .notStarted) →
      ((∃ t, s.installed t = true ∧ (s.tier t).state ∉ [.secured, .unsynced]) →
        exec (.siteSet tag m) s = .next (s.replied tag 0xA8 .busy [] [])) ∧
      (s.site.installed = 0 → s.Room 12 →
        ∃ ts ls, (∀ t : Tier, ts.get t = if m.installed.getLsbD t = true then TierRec.reset (s.tier t).brakeWeak else s.tier t) ∧
          (∀ t : Tier, ls.get t = if m.installed.getLsbD t = true then LinkRec.reset else s.link t) ∧
          exec (.siteSet tag m) s = .next (({ s with
            site := x
            siteSetTaken := true
            tiers := ts
            dlp := { s.dlp with links := ls }
            fsu := { s.fsu with watchdog := y }
            aa := { s.aa with scansDue := s.aa.scansDue + 1 } } : State).replied tag 0xA8 .ok []
              ((allTiers.filter fun (t : Tier) => m.installed.getLsbD t).map fun t => .tierState t .unsynced))) ∧
      (∀ (t : Tier) (q : List Entry), s.Room 1 → (∀ u, s.installed u = true ↔ u = t) → m.installed = 0 →
        (s.tier t).state = .secured → s.convActive = false → s.fm.ownsAny t = true →
        (s.aa.queue = [] ∧ q = [] ∨ ∃ e, s.aa.queue = [e] ∧ e.tier = t ∧ e.origin = .link ∧ q = [e]) →
        exec (.siteSet tag m) s = .next ((({ s with
          site := x
          siteSetTaken := true
          fm := s.fm.freeAll t
          lc := { s.lc with samples := s.lc.samples.set t .none, fifo := s.lc.fifo.filter fun c => decide (c.tier ≠ t) }
          dlp := { s.dlp with
            links := s.dlp.links.set t LinkRec.reset, txList := s.dlp.txList.filter fun r => decide (r.tier ≠ t) }
          fsu := { s.fsu with watchdog := y }
          aa := { s.aa with queue := [], scansDue := s.aa.scansDue + 2 + q.length } } : State).modTier t fun r =>
            TierRec.reset r.brakeWeak).replied tag 0xA8 .ok []
              (q.map fun e => .requestDropped e.tier e.members e.kind .link .noTier))))

/-- PROFILE-PUT is refused LOCKED, BUSY, RANGE or CLAIM by its checks in their order, and otherwise takes the clamped record
with its valid flag on, clearing CONFIG-PROFILES with its report. On an installed SECURED tier a tilt maximum below the
commanded tilt is refused RANGE, and a changed footprint is re-marked, a cell release where it frees a cell, or refused
CLAIM where it cannot be placed (R11, R12, R59, R167). -/
def Obligations.ProfilePutTaken : Prop :=
  ∀ (tag b : Byte) (t : Tier) (p q : ProfileData) (s : State), s.Handles → s.Room 1 → tierOf b = some t →
    q = { p with slewMax := min p.slewMax 2047, tiltSpeed := min p.tiltSpeed 63, tiltAcc := min p.tiltAcc 15 } →
    (s.fsu.profilesLocked = true → exec (.profilePut tag b p) s = .next (s.replied tag 0xA9 .locked [] [])) ∧
    (s.fsu.profilesLocked = false → s.installed t = true → (s.tier t).state ∉ [.secured, .unsynced] →
      exec (.profilePut tag b p) s = .next (s.replied tag 0xA9 .busy [] [])) ∧
    (s.fsu.profilesLocked = false → (s.installed t = true → (s.tier t).state ∈ [.secured, .unsynced]) →
      profileLegal q = false → exec (.profilePut tag b p) s = .next (s.replied tag 0xA9 .range [] [])) ∧
    (∀ (m : Floor) (n : Nat) (x : State), s.fsu.profilesLocked = false → profileLegal q = true →
      x = { s with
        fm := m
        profiles := s.profiles.set t ⟨true, q⟩
        aa := { s.aa with scansDue := s.aa.scansDue + n } } →
      (((s.installed t = true → (s.tier t).state = .unsynced) ∧ m = s.fm ∧ n = 0) ∨
        (s.installed t = true ∧ (s.tier t).state = .secured ∧ (s.cmdPos t).tilt ≤ q.tiltMax ∧
          (s.extentsDiffer t q = false ∧ m = s.fm ∧ n = 0 ∨
            s.extentsDiffer t q = true ∧
            s.fm.canPlace t [] (footprint q (s.cmdPos t).slew (tiltBand (s.cmdPos t).tilt)) = true ∧
            m = s.fm.place t (footprint q (s.cmdPos t).slew (tiltBand (s.cmdPos t).tilt)) ∧
            n = if (s.standing t).cells.any (fun g =>
                !(footprint q (s.cmdPos t).slew (tiltBand (s.cmdPos t).tilt)).mem g) then 1 else 0))) →
      exec (.profilePut tag b p) s = .next (if s.fsu.device.getLsbD 8 = true then
        ({ x with
          fsu := { s.fsu with device := s.fsu.device &&& 0xEFF#12 }
          aa := { x.aa with scansDue := x.aa.scansDue + 1 } } : State).replied tag 0xA9 .ok [] [.device false .configProfiles]
      else x.replied tag 0xA9 .ok [] [])) ∧
    (s.fsu.profilesLocked = false → profileLegal q = true → s.installed t = true → (s.tier t).state = .secured →
      (q.tiltMax < (s.cmdPos t).tilt → exec (.profilePut tag b p) s = .next (s.replied tag 0xA9 .range [] [])) ∧
      ((s.cmdPos t).tilt ≤ q.tiltMax → s.extentsDiffer t q = true →
        s.fm.canPlace t [] (footprint q (s.cmdPos t).slew (tiltBand (s.cmdPos t).tilt)) = false →
        exec (.profilePut tag b p) s = .next (s.replied tag 0xA9 .claim [] [])))

/-- PROFILE-GET answers with the running profile and its valid flag, installed or not (R14), and ZONE-GET with the running
record, the validity of the table and the level held for its trip input, or none (R76); numbers out of range are
refused RANGE, and nothing changes. -/
def Obligations.GetsAnswer : Prop :=
  (∀ (tag b : Byte) (s : State), s.Handles →
      (tierOf b = none → exec (.profileGet tag b) s = .next (s.replied tag 0xAA .range [] [])) ∧
      ∀ t, tierOf b = some t → exec (.profileGet tag b) s =
        .next (s.replied tag 0xAA .ok ((if (s.profiles.get t).valid then 1 else 0) :: profileBytes (s.profiles.get t).data) [])) ∧
  (∀ (tag b : Byte) (s : State), s.Handles →
      (6 ≤ b.toNat → exec (.zoneGet tag b) s = .next (s.replied tag 0xAC .range [] [])) ∧
      ∀ n, zoneOf b = some n → exec (.zoneGet tag b) s = .next (s.replied tag 0xAC .ok
        (zoneBytes (s.zu.zones.get n) ++ [(if s.zu.valid then (1 : Byte) else 0),
          (match (s.zu.zones.get n).trip with
           | none => (0xFF : Byte)
           | some i => if s.zu.levels.get i then 1 else 0)]) []))

/-- ZONE-PUT is refused RANGE, LOCKED, BUSY or RANGE by its checks in their order, and otherwise replaces the record,
makes the table valid and clears CONFIG-ZONES with its report, a scan trigger (R74, R75, R101). That the cleared fault and
the put count as two triggers is the model's choice (log 6). -/
def Obligations.ZonePutTaken : Prop :=
  ∀ (tag b : Byte) (z : ZoneMsg) (s : State), s.Handles → s.Room 1 →
    (6 ≤ b.toNat → exec (.zonePut tag b z) s = .next (s.replied tag 0xAB .range [] [])) ∧
    ∀ n, zoneOf b = some n →
      (s.fsu.zonesLocked = true → exec (.zonePut tag b z) s = .next (s.replied tag 0xAB .locked [] [])) ∧
      (s.fsu.zonesLocked = false → (∃ t, s.claim t ≠ none) →
        exec (.zonePut tag b z) s = .next (s.replied tag 0xAB .busy [] [])) ∧
      (s.fsu.zonesLocked = false → (∀ t, s.claim t = none) →
        classesOfCode z.classes = none ∨ modeOfCode z.mode = none ∨ tripOfCode z.trip = none →
        exec (.zonePut tag b z) s = .next (s.replied tag 0xAB .range [] [])) ∧
      ∀ c m i, s.fsu.zonesLocked = false → (∀ t, s.claim t = none) →
        classesOfCode z.classes = some c → modeOfCode z.mode = some m → tripOfCode z.trip = some i →
        exec (.zonePut tag b z) s = .next (if s.fsu.device.getLsbD 9 = true then
          ({ s with
            zu := { s.zu with zones := s.zu.zones.set n ⟨z.enable, z.base, z.mask, c, m, z.noStop, i⟩, valid := true }
            fsu := { s.fsu with device := s.fsu.device &&& 0xDFF#12 }
            aa := { s.aa with scansDue := s.aa.scansDue + 2 } } : State).replied tag 0xAB .ok [] [.device false .configZones]
        else
          ({ s with
            zu := { s.zu with zones := s.zu.zones.set n ⟨z.enable, z.base, z.mask, c, m, z.noStop, i⟩, valid := true }
            aa := { s.aa with scansDue := s.aa.scansDue + 1 } } : State).replied tag 0xAB .ok [] [])

/-- SAVE-SETTINGS, LAYOUT-ERASE and LAYOUT-WRITE: each is refused by its checks in their order, and otherwise the NVS is
BUSY with it, a save with a copy of the running settings; a layout is refused RANGE for a direction above 2 or a rank
above 11 in any tier entry, and for a rank that two present entries of installed tiers carry (R186, R187, R188, R189).
That the tilts are tested with them, and the entries of tiers that are not installed too, is the model's choice (log 18).
PROTECT-LAYOUTS raises the boundary, and with it
the boundary of the running site record, even while the NVS is BUSY; it is refused RANGE, LOCKED or PROTECTED by its
checks in their order (R190). -/
def Obligations.StoreRequests : Prop :=
  (∀ (tag b : Byte) (n : Fin 16) (l : Layout) (s : State), s.Handles → slotOf b = some n →
    (s.fsu.profilesLocked = true ∨ s.fsu.zonesLocked = true →
      exec (.saveSettings tag) s = .next (s.replied tag 0xAD .locked [] [])) ∧
    (s.fsu.profilesLocked = false → s.fsu.zonesLocked = false → s.nvs.op ≠ none →
      exec (.saveSettings tag) s = .next (s.replied tag 0xAD .busy [] [])) ∧
    (s.fsu.profilesLocked = false → s.fsu.zonesLocked = false → s.nvs.op = none →
      exec (.saveSettings tag) s = .next (({ s with nvs := { s.nvs with
        op := some (.save s.site s.profiles (if s.zu.valid then some s.zu.zones else none)) } } : State).replied
          tag 0xAD .ok [] [])) ∧
    (∀ c, c = (if s.fsu.layoutsLocked = true then Code.locked else if s.nvs.op ≠ none then .busy else .protectedSlot) →
      s.fsu.layoutsLocked = true ∨ s.nvs.op ≠ none ∨ n.val < s.nvs.boundary →
      exec (.layoutErase tag b) s = .next (s.replied tag 0xAE c [] []) ∧
      exec (.layoutWrite tag b l) s = .next (s.replied tag 0xAF c [] [])) ∧
    (s.fsu.layoutsLocked = false → s.nvs.op = none → s.nvs.boundary ≤ n.val →
      exec (.layoutErase tag b) s = .next (({ s with nvs := { s.nvs with op := some (.erase n) } } : State).replied
        tag 0xAE .ok [] []) ∧
      (s.slot n ≠ .blank → exec (.layoutWrite tag b l) s = .next (s.replied tag 0xAF .notErased [] [])) ∧
      (s.slot n = .blank → (∃ t, 2 < (layoutEntry l t).dir.toNat ∨ 11 < (layoutEntry l t).rank.toNat) ∨
          (∃ t u, t ≠ u ∧ s.installed t = true ∧ s.installed u = true ∧ (layoutEntry l t).present = true ∧
            (layoutEntry l u).present = true ∧ (layoutEntry l t).rank = (layoutEntry l u).rank) →
        exec (.layoutWrite tag b l) s = .next (s.replied tag 0xAF .range [] [])) ∧
      (s.slot n = .blank → (∀ t, (layoutEntry l t).dir.toNat ≤ 2 ∧ (layoutEntry l t).rank.toNat ≤ 11 ∧
          (layoutEntry l t).tilt < 32768) →
        (∀ t u, t ≠ u → s.installed t = true → s.installed u = true → (layoutEntry l t).present = true →
          (layoutEntry l u).present = true → (layoutEntry l t).rank ≠ (layoutEntry l u).rank) →
        exec (.layoutWrite tag b l) s = .next (({ s with nvs := { s.nvs with op := some (.write n l) } } : State).replied
          tag 0xAF .ok [] [])))) ∧
  (∀ (tag b : Byte) (l : Layout) (s : State), s.Handles → 16 ≤ b.toNat →
    exec (.layoutErase tag b) s = .next (s.replied tag 0xAE .range [] []) ∧
    exec (.layoutWrite tag b l) s = .next (s.replied tag 0xAF .range [] []) ∧
    exec (.layoutRead tag b) s = .next (s.replied tag 0xB0 .range [] [])) ∧
  (∀ (tag n : Byte) (s : State), s.Handles →
    (16 < n.toNat → exec (.protectLayouts tag n) s = .next (s.replied tag 0xB1 .range [] [])) ∧
    (n.toNat ≤ 16 → s.fsu.layoutsLocked = true → exec (.protectLayouts tag n) s = .next (s.replied tag 0xB1 .locked [] [])) ∧
    (n.toNat ≤ 16 → s.fsu.layoutsLocked = false → n.toNat < s.nvs.boundary →
      exec (.protectLayouts tag n) s = .next (s.replied tag 0xB1 .protectedSlot [] [])) ∧
    (n.toNat ≤ 16 → s.fsu.layoutsLocked = false → s.nvs.boundary ≤ n.toNat →
      exec (.protectLayouts tag n) s = .next (({ s with
        nvs := { s.nvs with boundary := n.toNat }
        site := { s.site with boundary := if s.site.boundary < n.toNat then n.toNat else s.site.boundary } } : State).replied
          tag 0xB1 .ok [] [])))

/-- The completion of a store operation returns the NVS to IDLE and queues STORE-DONE: a slot is left BLANK or WRITTEN, or
BAD with the STORE fault when the verify fails, and a save leaves its copies of the three sections; LAYOUT-READ
answers by the slot's condition (R186 to R189). The byte of BLANK or BAD is free, and STORE-DONE before STORE is the
model's choice (log 15, log 22). -/
def Obligations.StoreCompletes : Prop :=
  (∀ (tag b : Byte) (n : Fin 16) (l : Layout) (x : BitVec 3) (s : State), s.Room 2 →
      (s.phase = .running → s.nvs.op = some (.write n l) → x = 0 →
        exec (.storeOperationComplete x) s = .next (({ s with nvs := { s.nvs with
          op := none
          store := { s.nvs.store with slots := s.nvs.store.slots.set n (.written l) } } } : State).reported
            [.storeDone (.write n) false 0])) ∧
      (s.phase = .running → s.nvs.op = some (.erase n) → x = 0 →
        exec (.storeOperationComplete x) s = .next (({ s with nvs := { s.nvs with
          op := none
          store := { s.nvs.store with slots := s.nvs.store.slots.set n .blank } } } : State).reported
            [.storeDone (.erase n) false 0])) ∧
      (s.phase = .running → s.nvs.op = some (.write n l) → x ≠ 0 → s.fsu.device.getLsbD 10 = false →
        exec (.storeOperationComplete x) s = .next (({ s with
          nvs := { s.nvs with op := none, store := { s.nvs.store with slots := s.nvs.store.slots.set n .bad } }
          fsu := { s.fsu with device := s.fsu.device ||| 0x400#12 } } : State).reported
            [.storeDone (.write n) true 0, .device true .store])) ∧
      (s.Handles → slotOf b = some n → s.nvs.op = none → s.slot n = .written l →
        exec (.layoutRead tag b) s = .next (s.replied tag 0xB0 .ok (layoutBytes l) [])) ∧
      (s.Handles → slotOf b = some n → s.nvs.op = none → s.slot n = .blank ∨ s.slot n = .bad →
        exec (.layoutRead tag b) s = .next (s.replied tag 0xB0 .blank [Config.slotConditionByte (decide (s.slot n = .bad))] [])) ∧
      (s.Handles → slotOf b = some n → s.nvs.op ≠ none →
        exec (.layoutRead tag b) s = .next (s.replied tag 0xB0 .busy [] []))) ∧
  (∀ (site : Site) (ps : Vector Profile 12) (zs : Option (Vector ZoneRec 6)) (s : State), s.phase = .running → s.Room 1 →
      s.nvs.op = some (.save site ps zs) →
      exec (.storeOperationComplete 0) s = .next (({ s with
        nvs := { s.nvs with op := none, store := ⟨some site, some ps, zs, s.nvs.store.slots⟩ }
        freeCount := s.freeCount + 3 } : State).reported [.storeDone .save false 0]))
/-! ### Queries and RESTART -/

/-- QUERY-STATUS, QUERY-TIER, QUERY-QUEUE and QUERY-GRANTS answer OK in every condition with replies of the catalogue's
lengths and change nothing, but that QUERY-STATUS clears both overrun flags after giving them as its last two bytes
(R96, R99, R161, R183). Those bytes as 1 and 0 (log 21) and OK for a tier that is not installed (log 33) are the model's
reading. -/
def Obligations.QueriesAnswer : Prop :=
  ∀ (tag b : Byte) (t : Tier) (s : State), s.Handles →
    (∃ d, d.length = 64 ∧ d.getD 62 0 = (if s.clp.reportOverrun then 1 else 0) ∧ d.getD 63 0 = (if s.clp.rxOverrun then 1 else 0) ∧
      exec (.queryStatus tag) s = .next (({ s with clp :=
        { s.clp with reportOverrun := false, rxOverrun := false } } : State).replied tag 0xB8 .ok d [])) ∧
    (tierOf b = some t → ∃ d, d.length = 146 ∧ d.getD 0 0 = b ∧ (s.installed t = true → d.getD 1 0 = (s.tier t).state.byte) ∧
      exec (.queryTier tag b) s = .next (s.replied tag 0xB9 .ok d [])) ∧
    (tierOf b = none → exec (.queryTier tag b) s = .next (s.replied tag 0xB9 .range [] [])) ∧
    exec (.queryQueue tag) s = .next (s.replied tag 0xBB .ok
      (BitVec.ofNat 8 s.aa.queue.length :: (s.aa.queue.map Entry.bytes).flatten) []) ∧
    ∃ d, d.take 7 = [BitVec.ofNat 8 (s.aa.budget / 256), BitVec.ofNat 8 s.aa.budget, BitVec.ofNat 8 (s.allocated / 256),
        BitVec.ofNat 8 s.allocated, BitVec.ofNat 8 ((s.aa.budget - s.allocated) / 256),
        BitVec.ofNat 8 (s.aa.budget - s.allocated), BitVec.ofNat 8 s.aa.grants.length] ∧
      d.length = 7 + 10 * s.aa.grants.length ∧ exec (.queryGrants tag) s = .next (s.replied tag 0xBC .ok d [])

/-- QUERY-MAP returns `count` entries from the first cell on, in CW order and past cell 255 to cell 0, each with its cell
number and its state and owner; a count of 0 or above 64 is refused RANGE. It changes nothing (R63). -/
def Obligations.QueryMapAnswers : Prop :=
  ∀ (tag first count : Byte) (s : State), s.Handles →
    (count = 0 ∨ 64 < count.toNat → exec (.queryMap tag first count) s = .next (s.replied tag 0xBA .range [] [])) ∧
    (0 < count.toNat → count.toNat ≤ 64 →
      ∃ d, d.length = 2 + 2 * count.toNat ∧ d.take 2 = [first, count] ∧
        (∀ i, i < count.toNat → d.getD (2 + 2 * i) 0 = first + BitVec.ofNat 8 i ∧
          d.getD (3 + 2 * i) 0 = (match s.fm.at (first + BitVec.ofNat 8 i) with
            | .free => 0
            | .held o => BitVec.ofNat 8 (0x10 + o.val)
            | .claimed o => BitVec.ofNat 8 (0x20 + o.val))) ∧
        exec (.queryMap tag first count) s = .next (s.replied tag 0xBA .ok d []))

/-- RESTART is refused BUSY while an installed tier is neither SECURED nor UNSYNCED or the NVS is BUSY; otherwise it is
taken, the frames held are discarded, and no request is handled from then on (R192). -/
def Obligations.RestartTaken : Prop :=
  ∀ (tag : Byte) (s : State),
    (s.Handles → (∃ t, s.installed t = true ∧ (s.tier t).state ∉ [.secured, .unsynced]) ∨ s.nvs.op ≠ none →
      exec (.restart tag) s = .next (s.replied tag 0xBF .busy [] [])) ∧
    (s.Handles → (∀ t, s.installed t = true → (s.tier t).state ∈ [.secured, .unsynced]) → s.nvs.op = none →
      exec (.restart tag) s = .next (({ s with clp := { s.clp with restart := .waiting, hold := [] } } : State).replied
        tag 0xBF .ok [] [])) ∧
    (∀ (c : Instr) (x : Byte) (r : Request), s.phase = .running → s.clp.restart ≠ .none → c.carried = some (x, r) →
      exec c s = .next { s with clp := LinkPort.kick s.clp })
/-! ### The drive link and the tiers' events -/

/-- The setpoint interval of an installed tier whose generators do not run hands over the record of its state, as the
table of R19 gives, at the tail of the transmit list or in the place of its unsent record (also of one on the line: the
model's reading, log 9); that a gang member in SECURING which has shown standstill before its mates still sends QUICK-STOP
is the model's choice (log 41); a tier that is not installed has no interval (R19, R151, R153; log 8). A record sent leaves the
transmit list and sets the link record (R153, R154, R157). A feedback of a tier that is not installed is discarded, and
one that does not answer the latest record sent, or answers it again, only raises the stale count (R153, R155). -/
def Obligations.IntervalStanding : Prop :=
  (∀ (t : Tier) (s : State) (r : SetpointRecord), s.phase = .running →
    r = (match (s.tier t).state with
      | .unsynced => ⟨t, 0, 0, false, .sync, 0⟩
      | .secured => ⟨t, (s.cmdPos t).slew, (s.cmdPos t).tilt, false, .normal, 0⟩
      | .moving => ⟨t, (s.cmdPos t).slew, (s.cmdPos t).tilt, true, .quickStop, 0⟩
      | .securing => ⟨t, (s.cmdPos t).slew, (s.cmdPos t).tilt, false, if (s.tier t).stop = .quick then .quickStop else .normal, 0⟩
      | .testing => ⟨t, (s.cmdPos t).slew, (s.cmdPos t).tilt, false, .test, ((s.tier t).test.map (·.torque)).getD 0⟩
      | .faulted => ⟨t, (s.cmdPos t).slew, (s.cmdPos t).tilt, false, .quickStop, 0⟩
      | _ => ⟨t, (s.cmdPos t).slew, (s.cmdPos t).tilt, true, .normal, 0⟩) →
    ((s.tier t).state = .moving → (s.tier t).stop = .quick) →
    (s.installed t = false → exec (.setpointInterval t) s = .next { s with clp := LinkPort.kick s.clp }) ∧
    (s.installed t = true → (∀ x ∈ s.dlp.txList, x.tier ≠ t) →
      exec (.setpointInterval t) s =
        .next { s with clp := LinkPort.kick s.clp, dlp := { s.dlp with txList := s.dlp.txList ++ [r] } }) ∧
    (s.installed t = true → (∃ x ∈ s.dlp.txList, x.tier = t) →
      exec (.setpointInterval t) s = .next { s with
        clp := LinkPort.kick s.clp
        dlp := { s.dlp with txList := s.dlp.txList.map fun x => if x.tier = t then r else x } })) ∧
  (∀ (r : SetpointRecord) (rest : List SetpointRecord) (s : State), s.phase = .running → s.dlp.txList = r :: rest →
      exec .setpointRecordSent s = .next (({ s with
          clp := LinkPort.kick s.clp
          dlp := { s.dlp with txList := rest } } : State).modLink r.tier fun l =>
        { l with
          latestSent := some l.nextParity
          latestRec := some ⟨r.slew, r.tilt, r.mode⟩
          nextParity := !l.nextParity
          answered := false
          timer := l.timer || (decide ((s.tier r.tier).state ≠ .unsynced) && !l.lost) })) ∧
  (∀ (f : Feedback) (s : State), s.phase = .running → s.dlp.framer = .hunting → f.tilt < 32768 → f.slip < 65536 →
      (s.installed f.tier = false → exec (.feedbackRecord f.bytes) s = .next { s with clp := LinkPort.kick s.clp }) ∧
      (s.installed f.tier = true → (s.link f.tier).latestSent ≠ some f.parity ∨ (s.link f.tier).answered = true →
        exec (.feedbackRecord f.bytes) s = .next (({ s with clp := LinkPort.kick s.clp } : State).modLink f.tier fun l =>
          { l with stale := min 65535 (l.stale + 1) })))

/-- One setpoint interval of a moving tier of its own that does not end its move. An unfinished axis takes the speed of R82 while
latched and of R81 otherwise, which sets the latch where the braking distance asks for it, and steps by it or by what
remains; the cap of the slew axis is the profile's, the grant's, and creep for a MAINT move or under a creep answer,
formed while the slew axis is unlatched; a finished axis stays. The commanded positions move by the steps, and the
record carries the new ones (R79, R80, R81, R82, R83, R91, R92). -/
def Obligations.IntervalMoving : Prop :=
  ∀ (t : Tier) (m : MoveRec) (p p' : Pos) (g : Grant) (q : ProfileData) (k c u v n ut vt nt : Nat) (w latch latcht : Bool)
    (slew : SlewGen) (tilt : TiltGen) (s : State),
    s.phase = .running → s.installed t = true → s.Single t m → (s.tier t).state = .moving → (s.tier t).stop ≠ .quick →
    (s.tier t).cmd = some p → s.aa.grants.find? (fun x => x.names t) = some g → g.cap = some k →
    (∀ x ∈ s.dlp.txList, x.tier ≠ t) → q = s.prof t →
    w = (if m.slew.finished = true ∨ m.slew.latch = true then m.slew.creep
      else s.creepAnswer m.cls (lookAhead q m.dir m.band p.slew q.slewAcc m.slew.speed)) →
    c = (if w = true ∨ m.cls = .maint then min (min q.slewMax k) s.site.creep else min q.slewMax k) →
    u = (if m.slew.speed ≤ c then min (m.slew.speed + q.slewAcc) c else max (m.slew.speed - q.slewAcc) c) →
    (v, latch) = (if m.slew.latch = true ∨ m.slew.rem < u + braking q.slewAcc u then
      (max (m.slew.speed - q.slewAcc) q.slewAcc, true) else (u, false)) →
    n = min v m.slew.rem →
    slew = (if m.slew.finished = true then m.slew else
      { speed := if n = m.slew.rem then 0 else n, rem := m.slew.rem - n, latch := latch, finished := decide (n = m.slew.rem),
        progress := m.slew.progress + n, creep := w }) →
    ut = (if m.tilt.speed ≤ q.tiltSpeed then min (m.tilt.speed + q.tiltAcc) q.tiltSpeed
      else max (m.tilt.speed - q.tiltAcc) q.tiltSpeed) →
    (vt, latcht) = (if m.tilt.latch = true ∨ m.tilt.rem < ut + braking q.tiltAcc ut then
      (max (m.tilt.speed - q.tiltAcc) q.tiltAcc, true) else (ut, false)) →
    nt = min vt m.tilt.rem →
    tilt = (if m.tilt.finished = true then m.tilt else
      { m.tilt with
        speed := if nt = m.tilt.rem then 0 else nt
        rem := m.tilt.rem - nt
        latch := latcht
        finished := decide (nt = m.tilt.rem) }) →
    p' = ⟨if m.slew.finished = true then p.slew else advance m.dir p.slew n,
      if m.tilt.finished = true then p.tilt else
        match m.tilt.dir with | .up => p.tilt + nt | .down => p.tilt - nt | .none => p.tilt⟩ →
    slew.finished = false ∨ tilt.finished = false →
    exec (.setpointInterval t) s = .next (({ s with
        clp := LinkPort.kick s.clp
        dlp := { s.dlp with txList := s.dlp.txList ++ [⟨t, p'.slew, p'.tilt, true, .normal, 0⟩] } } : State).modTier
      t fun r => { r with cmd := some p', move := some { m with slew := slew, tilt := tilt } })

/-- The interval after which both axes of a moving tier of its own have finished ends its move, unless it pauses short of its
targets: the footprint at the commanded positions is placed, the allocation freed, MOVE-END queued with AT-TARGET or
the halt's reason, and the tier enters SETTLING, with secure pending where the move has auto-secure, and at a settle time
of 0 passes on at once to SECURING or READY (R26, R27, R32, R55).
A pause short of the targets leaves it PAUSED with its claim (R26, R29). A footprint that cannot be placed leaves the
tier owning nothing and FAULTED with MAP-CONFLICT (R55). That the last record is handed over before the end is the
model's reading (log 24), and the order of the last reports its choice (log 15). -/
def Obligations.MoveEnds : Prop :=
  ∀ (t : Tier) (m : MoveRec) (p p' : Pos) (c : Nat) (a : Arc) (w : TierState) (slew : SlewGen) (tilt : TiltGen) (s x : State),
    s.phase = .running → s.Room 3 → s.installed t = true → s.Single t m → m.origin = .link → (s.tier t).state = .moving →
    (s.tier t).cmd = some p → s.aa.grants.any (fun g => g.names t) = true →
    (∀ r ∈ s.dlp.txList, r.tier ≠ t) → c = s.slewCap m (s.creepNow m) →
    slew = ({ m.slew with creep := s.creepNow m } : SlewGen).step (s.prof t).slewAcc c →
    tilt = m.tilt.step (s.prof t).tiltAcc (s.prof t).tiltSpeed →
    p' = ⟨advance m.dir p.slew (m.slew.stepLength (s.prof t).slewAcc c),
      tiltAdvance m.tilt.dir p.tilt (m.tilt.stepLength (s.prof t).tiltAcc (s.prof t).tiltSpeed)⟩ →
    slew.finished = true → tilt.finished = true →
    a = footprint (s.prof t) p'.slew (tiltBand p'.tilt) → w = restState (s.prof t) ((s.tier t).securePending || m.auto) →
    x = { s with
      dlp := { s.dlp with txList := s.dlp.txList ++ [⟨t, p'.slew, p'.tilt, true, .normal, 0⟩] }
      aa := { s.aa with grants := s.aa.grants.filter fun g => !g.names t, scansDue := s.aa.scansDue + 2 } } →
    (∀ e : MoveReason, (s.tier t).stop = .none ∧ e = .atTarget ∨ (s.tier t).stop = .halt e ∨
        (s.tier t).stop = .pause ∧ p' = ⟨m.targetSlew, m.targetTilt⟩ ∧ e = .atTarget →
      (s.fm.canPlace t [] a = true →
        exec (.setpointInterval t) s = .next ((({ x with
            fm := s.fm.place t a
            aa := { x.aa with scansDue := x.aa.scansDue + restTriggers w } } : State).modTier t fun r =>
          r.settled p' (s.prof t) m.auto).reported (.moveEnd t none e p' :: restReports t w))) ∧
      (s.fm.canPlace t [] a = false → (s.tier t).fault.latched = 0 → s.entryOf t = none →
        exec (.setpointInterval t) s = .next ((({ x with fm := s.fm.freeAll t } : State).modTier t fun r =>
          r.conflicted p').reported
            [.moveEnd t none e p', .faultRaised t .mapConflict .moving p', .tierState t .faulted]))) ∧
    ((s.tier t).stop = .pause → p' ≠ ⟨m.targetSlew, m.targetTilt⟩ →
      exec (.setpointInterval t) s = .next ((({ s with dlp := x.dlp } : State).modTier t fun r =>
        { r with state := .paused, brakeTimer := .stopped, cmd := some p', move := some { m with slew := slew, tilt := tilt } }).reported
          [.tierState t .paused]))

/-- An accepted feedback without new drive faults sets the actual positions and the link record of a standing tier (R155, R156,
R157, R158), and: RELEASED takes a RELEASING tier to READY, a scan trigger (R22); SET takes one in SECURING to SECURED, a
scan trigger (R23); the brake watch of the other states starts its timer at a brake state other than the expected one
and stops it at that (R24); a tier in TESTING keeps the slip of a feedback that answers a TEST record (R146); a FAULTED
tier is left as it is. -/
def Obligations.StandingFeedback : Prop :=
  ∀ (f : Feedback) (t : Tier) (l : LinkRec) (p : Pos) (s x : State), s.Accepts f → s.Room 1 → f.faults = 0 →
    f.tier = t → p = ⟨f.slew, f.tilt⟩ → s.link t = l →
    x = s.modLink t (fun _ => l.handled f) →
    ((s.tier t).state = .releasing →
      (f.brake = .released →
        exec (.feedbackRecord f.bytes) s = .next ((({ x with aa := { s.aa with scansDue := s.aa.scansDue + 1 } } : State).modTier
          t fun r => { r with state := .ready, brakeTimer := .stopped, act := some p }).reported [.tierState t .ready])) ∧
      (f.brake ≠ .released →
        exec (.feedbackRecord f.bytes) s = .next ((x.modTier t fun r => { r with act := some p }).reported []))) ∧
    ((s.tier t).state = .securing → (s.tier t).stop ≠ .quick → s.convActive = false →
      (f.brake = .set →
        exec (.feedbackRecord f.bytes) s = .next ((({ x with aa := { s.aa with scansDue := s.aa.scansDue + 1 } } : State).modTier
          t fun r => { r with state := .secured, brakeTimer := .stopped, act := some p }).reported [.tierState t .secured])) ∧
      (f.brake ≠ .set →
        exec (.feedbackRecord f.bytes) s = .next ((x.modTier t fun r => { r with act := some p }).reported []))) ∧
    (∀ (expected : Brake) (n : Nat) (timer : BrakeTimer),
      ((s.tier t).state = .secured ∧ expected = .set ∧ n = (s.prof t).secureTimeout ∨
        (s.tier t).state ∈ [.ready, .paused, .settling] ∧ expected = .released ∧ n = (s.prof t).releaseTimeout) →
      ((s.tier t).state ∈ [.paused, .settling] → s.Follows f) →
      ((s.tier t).brakeTimer = .stopped ∨ ∃ k, (s.tier t).brakeTimer = .watch k) →
      timer = (if f.brake = expected then .stopped
        else if (s.tier t).brakeTimer = .stopped then .watch n else (s.tier t).brakeTimer) →
      exec (.feedbackRecord f.bytes) s =
        .next ((x.modTier t fun r => { r with act := some p, brakeTimer := timer }).reported [])) ∧
    (∀ y : TestRec, (s.tier t).state = .testing → f.brake = .set → (s.tier t).brakeTimer = .stopped →
      (s.tier t).test = some y →
      exec (.feedbackRecord f.bytes) s = .next ((x.modTier t fun r => { r with
        act := some p
        test := some (if l.latestRec.map SentRecord.mode = some .test then { y with lastSlip := some f.slip } else y) }).reported
          [])) ∧
    ((s.tier t).state = .faulted →
      exec (.feedbackRecord f.bytes) s = .next ((x.modTier t fun r => { r with act := some p }).reported []))

/-- An accepted feedback of a moving tier of its own, its brake released and without faults: the steps of its claim behind the
trailing index become FREE, a cell release, and where the index has not passed the release index nothing is freed (R52,
R53). Standstill after a quick stop ends the claim: the footprint at the actual position is placed, the allocation freed,
and the tier enters SETTLING (past it at a settle time of 0, R27), or, in SECURING, stays there with its SECURE-WAIT timer
until SET, which stops the timer and leaves it SECURED; no second MOVE-END is queued (R23, R31, R56). A placement that fails leaves the tier owning nothing and FAULTED with MAP-CONFLICT (R56; the order of the reports
is the model's choice, log 15). -/
def Obligations.MovingFeedback : Prop :=
  ∀ (f : Feedback) (t : Tier) (m : MoveRec) (l : LinkRec) (k : ClaimRec) (p z q : Pos) (n i : Nat) (a : Arc) (w : TierState) (s x : State),
    s.Accepts f → s.Room 2 → f.faults = 0 → f.tier = t → s.link t = l → s.Single t m → s.claim t = some k →
    (s.tier t).cmd = some z → p = ⟨f.slew, f.tilt⟩ → q = ⟨f.slew, min f.tilt (s.prof t).tiltMax⟩ →
    x = s.modLink t (fun _ => l.handled f) → i = m.reached k z.slew f.slew →
    a = footprint (s.prof t) f.slew (tiltBand (min f.tilt (s.prof t).tiltMax)) →
    w = restState (s.prof t) ((s.tier t).securePending || m.auto) →
    ((s.tier t).state = .moving → (s.tier t).brakeTimer = .stopped → f.brake = .released → (s.tier t).stop ≠ .quick ∨ f.standstill = false →
      ((s.tier t).stop = .quick ∨ s.Follows f) →
      exec (.feedbackRecord f.bytes) s = .next ((({ x with
        fm := if k.release < i then s.fm.releaseTo [t] k i else s.fm
        aa := { s.aa with scansDue := s.aa.scansDue + if k.release < i then 1 else 0 } } : State).modTier
          t fun r => { r with act := some p }).reported [])) ∧
    ((s.tier t).stop = .quick → f.standstill = true → s.aa.grants.any (fun g => g.names t) = true →
      ((s.tier t).state = .moving → (s.tier t).brakeTimer = .stopped → f.brake = .released → i ≤ k.release → s.fm.canPlace t [] a = true →
        exec (.feedbackRecord f.bytes) s = .next ((({ x with
            fm := s.fm.place t a
            aa := { s.aa with
              grants := s.aa.grants.filter fun g => !g.names t
              scansDue := s.aa.scansDue + 2 + restTriggers w } } : State).modTier
          t fun r => { r.settled q (s.prof t) m.auto with act := some p }).reported (restReports t w))) ∧
      ((s.tier t).state = .moving ∧ (s.tier t).brakeTimer = .stopped ∧ f.brake = .released ∧ i ≤ k.release ∨
          (s.tier t).state = .securing ∧ (s.tier t).brakeTimer = .secureWait n → s.fm.canPlace t [] a = false →
        (s.tier t).fault.latched = 0 → s.entryOf t = none →
        exec (.feedbackRecord f.bytes) s = .next ((({ x with
            fm := s.fm.freeAll t
            aa := { s.aa with grants := s.aa.grants.filter fun g => !g.names t, scansDue := s.aa.scansDue + 2 } } : State).modTier
          t fun r => { r.conflicted q with act := some p }).reported
            [.faultRaised t .mapConflict (s.tier t).state q, .tierState t .faulted])) ∧
      ((s.tier t).state = .securing → (s.tier t).brakeTimer = .secureWait n → s.convActive = false → s.fm.canPlace t [] a = true → f.brake = .set →
        exec (.feedbackRecord f.bytes) s = .next ((({ x with
            fm := s.fm.place t a
            aa := { s.aa with grants := s.aa.grants.filter fun g => !g.names t, scansDue := s.aa.scansDue + 3 } } : State).modTier
          t fun r => { r with
            state := .secured, brakeTimer := .stopped, act := some p, cmd := some q, move := none, stop := .none,
            stoodStill := false }).reported [.tierState t .secured])) ∧
      ((s.tier t).state = .securing → (s.tier t).brakeTimer = .secureWait n → s.fm.canPlace t [] a = true → f.brake ≠ .set →
        exec (.feedbackRecord f.bytes) s = .next ((({ x with
            fm := s.fm.place t a
            aa := { s.aa with grants := s.aa.grants.filter fun g => !g.names t, scansDue := s.aa.scansDue + 2 } } : State).modTier
          t fun r => { r with
            act := some p, cmd := some q, move := none, stop := .none, stoodStill := false }).reported [])))

/-- An accepted feedback that lies beyond a following limit faults a moving or a settling tier with FOLLOW-ERROR (R159), and one
with a drive fault not reported before faults a standing tier with its kind (R160): a move ends with MOVE-END FAULT, its
generators stopped and its claim kept, but for the steps that the feedback's trailing release has freed before (R53, R156), the allocation is freed, and the tier is FAULTED (R42, R88, R163). On a tier
FAULTED already each new kind is latched with its report, in the order of R160, and the first fault stays (R163). The
order of one fault's reports is the model's choice (log 15). -/
def Obligations.FeedbackFaults : Prop :=
  ∀ (f : Feedback) (t : Tier) (l : LinkRec) (p : Pos) (s x : State), s.Accepts f → s.Room 5 → f.tier = t →
    p = ⟨f.slew, f.tilt⟩ → s.link t = l → x = s.modLink t (fun _ => l.handled f) →
    (∀ (y : SentRecord) (m : MoveRec) (k : ClaimRec) (z : Pos) (i : Nat), l.latestRec = some y →
      f.beyond (s.prof t) y = true → f.faults = 0 → s.claim t = some k → (s.tier t).cmd = some z →
      i = m.reached k z.slew f.slew → s.Single t m → m.origin = .link → (s.tier t).state = .moving → (s.tier t).stop ≠ .quick →
      (s.tier t).fault.latched = 0 → s.entryOf t = none → s.aa.grants.any (fun g => g.names t) = true →
      exec (.feedbackRecord f.bytes) s = .next ((({ x with
          fm := if k.release < i then s.fm.releaseTo [t] k i else s.fm
          aa := { s.aa with
            grants := s.aa.grants.filter fun g => !g.names t
            scansDue := s.aa.scansDue + (if k.release < i then 1 else 0) + 1 } } : State).modTier
        t fun r => { r.faulted .followError z with
          act := some p
          move := some { m with slew := { m.slew with speed := 0 }, tilt := { m.tilt with speed := 0 } } }).reported
        [.faultRaised t .followError .moving z, .moveEnd t none .fault z, .tierState t .faulted])) ∧
    (∀ y : SentRecord, l.latestRec = some y → f.beyond (s.prof t) y = true → f.faults = 0 → (s.tier t).move = none →
      (s.tier t).state = .settling → (s.tier t).fault.latched = 0 → s.Unnamed t →
      exec (.feedbackRecord f.bytes) s = .next ((x.modTier t fun r =>
        { r.faulted .followError (s.cmdPos t) with act := some p }).reported
        [.faultRaised t .followError .settling (s.cmdPos t), .tierState t .faulted])) ∧
    (∀ kind : FaultKind, kind ∈ driveKinds → f.faults &&& ~~~l.reported = 1#4 <<< kind.bit → s.Follows f →
      (s.tier t).state ∈ [.secured, .releasing, .ready, .settling, .securing] → (s.tier t).move = none →
      (s.tier t).fault.latched = 0 → s.Unnamed t →
      exec (.feedbackRecord f.bytes) s = .next ((x.modTier t fun r =>
        { r.faulted kind (s.cmdPos t) with act := some p }).reported
        [.faultRaised t kind (s.tier t).state (s.cmdPos t), .tierState t .faulted])) ∧
    (∀ y : FirstFault, (s.tier t).state = .faulted → (s.tier t).fault.first = some y → (s.tier t).fault.latched ≠ 0 →
      (s.tier t).fault.latched &&& f.faults.zeroExtend 12 = 0 →
      exec (.feedbackRecord f.bytes) s = .next ((x.modTier t fun r => { r with
          act := some p
          fault := ⟨r.fault.latched ||| (f.faults &&& ~~~l.reported).zeroExtend 12, some y⟩ }).reported
        ((driveKinds.filter fun d => (f.faults &&& ~~~l.reported).getLsbD d.bit).map fun d =>
          .faultRaised t d y.met y.pos)))

/-- The first accepted feedback within the tilt maximum synchronises a tier: its commanded positions are the actual ones;
a free footprint is marked HELD and the tier goes to SECURED or SECURING by its brakes, and one that is not free
leaves it FAULTED with MAP-CONFLICT. A drive fault in that feedback, not reported before, then takes the SECURED tier to
FAULTED, its cells kept. Beyond the tilt maximum it stays UNSYNCED (R5, R21, R58, R160). How many of the triggers of R101
the synchronisation counts (log 6) and FAULT before TIER-STATE (log 15) are the model's choice. -/
def Obligations.Synchronised : Prop :=
  ∀ (f : Feedback) (l : LinkRec) (a : Arc) (s : State), s.phase = .running → s.Room 3 → s.dlp.framer = .hunting →
    f.tilt < 32768 → f.slip < 65536 → s.installed f.tier = true → s.link f.tier = l → l.latestSent = some f.parity →
    l.answered = false → (s.tier f.tier).state = .unsynced → (s.tier f.tier).stop = .none →
    (s.tier f.tier).brakeTimer = .stopped → (s.tier f.tier).fault.latched = 0 → s.Unnamed f.tier → s.convActive = false →
    a = footprint (s.prof f.tier) f.slew (tiltBand f.tilt) →
    (f.faults = 0 → f.tilt ≤ (s.prof f.tier).tiltMax → s.fm.allFree a = true → f.brake = .set →
      exec (.feedbackRecord f.bytes) s = .next (((({ s with
          fm := s.fm.mark f.tier a
          aa := { s.aa with scansDue := s.aa.scansDue + 2 } } : State).modTier f.tier fun r =>
        { r with state := .secured, act := some ⟨f.slew, f.tilt⟩, cmd := some ⟨f.slew, f.tilt⟩ }).modLink f.tier fun _ =>
        { l with answered := true, last := some f, reported := 0, timer := false, lost := false }).reported
          [.tierState f.tier .secured])) ∧
    (f.faults = 0 → f.tilt ≤ (s.prof f.tier).tiltMax → s.fm.allFree a = true → f.brake ≠ .set →
      exec (.feedbackRecord f.bytes) s = .next (((({ s with
          fm := s.fm.mark f.tier a
          aa := { s.aa with scansDue := s.aa.scansDue + 1 } } : State).modTier f.tier fun r =>
        { r with
          state := .securing
          brakeTimer := .secureWait (s.prof f.tier).secureTimeout
          act := some ⟨f.slew, f.tilt⟩
          cmd := some ⟨f.slew, f.tilt⟩ }).modLink f.tier fun _ =>
        { l with answered := true, last := some f, reported := 0, timer := false, lost := false }).reported
          [.tierState f.tier .securing])) ∧
    (f.faults = 0 → f.tilt ≤ (s.prof f.tier).tiltMax → s.fm.allFree a = false →
      exec (.feedbackRecord f.bytes) s = .next (((s.modTier f.tier fun r =>
        { r.faulted .mapConflict ⟨f.slew, f.tilt⟩ with act := some ⟨f.slew, f.tilt⟩, cmd := some ⟨f.slew, f.tilt⟩ }).modLink
        f.tier fun _ => { l with answered := true, last := some f, reported := 0, timer := false, lost := false }).reported
          [.faultRaised f.tier .mapConflict .unsynced ⟨f.slew, f.tilt⟩, .tierState f.tier .faulted])) ∧
    ((s.prof f.tier).tiltMax < f.tilt →
      exec (.feedbackRecord f.bytes) s = .next (((s.modTier f.tier fun r => { r with act := some ⟨f.slew, f.tilt⟩ }).modLink
        f.tier fun _ => { l with answered := true, last := some f }).reported [])) ∧
    (∀ kind : FaultKind, kind ∈ driveKinds → f.faults = 1#4 <<< kind.bit → l.reported = 0 →
      f.tilt ≤ (s.prof f.tier).tiltMax → s.fm.allFree a = true → f.brake = .set → (s.tier f.tier).move = none →
      exec (.feedbackRecord f.bytes) s = .next (((({ s with
          fm := s.fm.mark f.tier a
          aa := { s.aa with scansDue := s.aa.scansDue + 2 } } : State).modTier f.tier fun r =>
        { TierRec.faulted { r with state := .secured } kind ⟨f.slew, f.tilt⟩ with
          act := some ⟨f.slew, f.tilt⟩, cmd := some ⟨f.slew, f.tilt⟩ }).modLink f.tier fun _ =>
        { l with answered := true, last := some f, reported := f.faults, timer := false, lost := false }).reported
          [.tierState f.tier .secured, .faultRaised f.tier kind .secured ⟨f.slew, f.tilt⟩, .tierState f.tier .faulted]))

/-- A brake timer that runs out takes its tier to FAULTED with BRAKE-STUCK, and the feedback timer with LINK-LOST: on a
tier without a move, a test or earlier faults, the record, the reports and the timers are as R42 and R163 give (R22,
R23, R24, R42, R157, R163). The FAULT report before the TIER-STATE is the model's choice (log 15). -/
def Obligations.TimersFault : Prop :=
  ∀ (t : Tier) (n : Nat) (s : State), s.phase = .running → s.Room 2 → s.Unnamed t → (s.tier t).move = none →
    (s.tier t).fault.latched = 0 → (s.tier t).state ∈ [.secured, .releasing, .ready, .settling, .securing] →
    ((s.tier t).brakeTimer = .releaseWait n →
      exec (.releaseWaitExpiry t) s = .next ((s.modTier t fun r => r.faulted .brakeStuck (s.cmdPos t)).reported
        [.faultRaised t .brakeStuck (s.tier t).state (s.cmdPos t), .tierState t .faulted])) ∧
    ((s.tier t).brakeTimer = .secureWait n →
      exec (.secureWaitExpiry t) s = .next ((s.modTier t fun r => r.faulted .brakeStuck (s.cmdPos t)).reported
        [.faultRaised t .brakeStuck (s.tier t).state (s.cmdPos t), .tierState t .faulted])) ∧
    ((s.tier t).brakeTimer = .watch n →
      exec (.watchExpiry t) s = .next ((s.modTier t fun r => r.faulted .brakeStuck (s.cmdPos t)).reported
        [.faultRaised t .brakeStuck (s.tier t).state (s.cmdPos t), .tierState t .faulted])) ∧
    ((s.link t).timer = true →
      exec (.feedbackTimerExpiry t) s = .next (((s.modTier t fun r => r.faulted .linkLost (s.cmdPos t)).modLink t fun l =>
        { l with timer := false, lost := true }).reported
        [.faultRaised t .linkLost (s.tier t).state (s.cmdPos t), .tierState t .faulted]))

/-- The settle timer takes its tier to SECURING when secure pending is set and to READY otherwise (R27). The test timer
gives the verdict of the last slip: above the limit FAIL sets brake-weak, at or below it PASS clears it, without a
slip ABORTED keeps it; then the report, the allocation and the return to SECURED, in that order (R147, R149). -/
def Obligations.SettleAndTestEnd : Prop :=
  (∀ (t : Tier) (n : Nat) (s : State), s.phase = .running → s.Room 1 → (s.tier t).settleTimer = some n →
      ((s.tier t).securePending = true →
        exec (.settleTimerExpiry t) s = .next ((s.modTier t fun r => { r with
          state := .securing, brakeTimer := .secureWait (s.prof t).secureTimeout, settleTimer := none,
          securePending := false }).reported [.tierState t .securing])) ∧
      ((s.tier t).securePending = false →
        exec (.settleTimerExpiry t) s = .next ((({ s with aa := { s.aa with scansDue := s.aa.scansDue + 1 } } : State).modTier
          t fun r => { r with state := .ready, brakeTimer := .stopped, settleTimer := none }).reported [.tierState t .ready]))) ∧
  (∀ (t : Tier) (n : Nat) (x : TestRec) (v : TestResult) (weak : Bool) (s : State), s.phase = .running → s.Room 2 →
      (s.tier t).testTimer = some n → (s.tier t).test = some x → s.aa.grants.any (fun g => g.names t) = true →
      s.convActive = false →
      (v, weak) = (match x.lastSlip with
        | none => (.aborted, (s.tier t).brakeWeak)
        | some d => if x.slipLimit < d then (.fail, true) else (.pass, false)) →
      exec (.testTimerExpiry t) s = .next ((({ s with aa := { s.aa with
          grants := s.aa.grants.filter fun g => !g.names t
          scansDue := s.aa.scansDue + 2 } } : State).modTier t fun r =>
        { r with
          state := .secured
          brakeTimer := .stopped
          testTimer := none
          brakeWeak := weak
          test := some { x with result := some v } }).reported
        [.brakeTest t v x.lastSlip x.slipLimit weak, .tierState t .secured]))

/-- An active edge sets the level and sends the FM a trip application; an inactive edge clears it, starts a scan and
queues its TRIP report, which waits while the application of the active edge has not been taken. A KEY change moves
only the level (R70, R71, R72, R176). -/
def Obligations.PinEdges : Prop :=
  ∀ (i : Input) (b : Bool) (s : State), s.phase = .running → s.Room 1 →
    (s.zu.levels.get i = false →
      exec (.tripActiveEdge i) s = .next { s with
        clp := LinkPort.kick s.clp
        pins := { s.pins with trips := s.pins.trips.set i true }
        zu := { s.zu with levels := s.zu.levels.set i true, due := s.zu.due ++ [.application i] } }) ∧
    (s.zu.levels.get i = true → TripItem.application i ∉ s.zu.due →
      exec (.tripInactiveEdge i) s = .next (({ s with
        pins := { s.pins with trips := s.pins.trips.set i false }
        zu := { s.zu with levels := s.zu.levels.set i false }
        aa := { s.aa with scansDue := s.aa.scansDue + 1 } } : State).reported [.trip i false []])) ∧
    (s.zu.levels.get i = true → TripItem.application i ∈ s.zu.due →
      exec (.tripInactiveEdge i) s = .next { s with
        clp := LinkPort.kick s.clp
        pins := { s.pins with trips := s.pins.trips.set i false }
        zu := { s.zu with levels := s.zu.levels.set i false, due := s.zu.due ++ [.inactiveReport i] }
        aa := { s.aa with scansDue := s.aa.scansDue + 1 } }) ∧
    exec (.keyChange b) s = .next { s with
      clp := LinkPort.kick s.clp, pins := { s.pins with key := b }, fsu := { s.fsu with key := b } }

/-- A trip application stops the moving tiers whose claims it touches and no other: one moving tier of its own is quick-
stopped, its claim and allocation kept, and listed in the TRIP report; with none touched the report lists none. A PAUSED
tier is trimmed at the actual position of its latest feedback at once, with MOVE-END BARRIER at the positions the trim
set (the model's reading, log 42), and settles, or is FAULTED with MAP-CONFLICT where it cannot be placed (R31, R56; the
order of these reports is the model's choice, log 15). An inactive edge that waited is then reported, and only then (R31,
R71, R72, R88). The list of waiting applications is the model's (log 7). -/
def Obligations.TripStops : Prop :=
  ∀ (i : Input) (t : Tier) (m : MoveRec) (late rest : List TripItem) (cleared : List Report) (s : State),
    s.phase = .running → s.Room 3 →
    (late = [] ∧ cleared = [] ∨ late = [.inactiveReport i] ∧ cleared = [.trip i false []]) → .inactiveReport i ∉ rest →
    s.zu.due = .application i :: late ++ rest →
    ((∀ u, s.installed u = true → (s.tier u).state = .moving ∨ (s.tier u).state = .paused → s.claimTripped i u = false) →
      exec (.tripApplication i) s = .next (({ s with zu := { s.zu with due := rest } } : State).reported
        (.trip i true [] :: cleared))) ∧
    (s.installed t = true → s.Single t m → m.origin = .link → (s.tier t).state = .moving → (s.tier t).stop ≠ .quick →
      s.claimTripped i t = true →
      (∀ u, u ≠ t → s.installed u = true → (s.tier u).state = .moving ∨ (s.tier u).state = .paused →
        s.claimTripped i u = false) →
      exec (.tripApplication i) s = .next ((({ s with zu := { s.zu with due := rest } } : State).modTier t fun r =>
        { r with
          stop := .quick
          stoodStill := false
          move := some { m with slew := { m.slew with speed := 0 }, tilt := { m.tilt with speed := 0 } } }).reported
        (.moveEnd t none .barrier (s.cmdPos t) :: .trip i true [t] :: cleared))) ∧
    (∀ (p q : Pos) (a : Arc) (w : TierState), s.Room 5 → s.installed t = true → s.Single t m → m.origin = .link →
      (s.tier t).state = .paused → (s.tier t).stop ≠ .quick → (s.tier t).act = some p → s.claimTripped i t = true →
      (∀ u, u ≠ t → s.installed u = true → (s.tier u).state = .moving ∨ (s.tier u).state = .paused →
        s.claimTripped i u = false) →
      s.aa.grants.any (fun g => g.names t) = true → q = ⟨p.slew, min p.tilt (s.prof t).tiltMax⟩ →
      a = footprint (s.prof t) q.slew (tiltBand q.tilt) → w = restState (s.prof t) ((s.tier t).securePending || m.auto) →
      (s.fm.canPlace t [] a = true →
        exec (.tripApplication i) s = .next ((({ s with
            zu := { s.zu with due := rest }
            fm := s.fm.place t a
            aa := { s.aa with
              grants := s.aa.grants.filter fun g => !g.names t
              scansDue := s.aa.scansDue + 2 + restTriggers w } } : State).modTier t fun r =>
          r.settled q (s.prof t) m.auto).reported
          (.moveEnd t none .barrier q :: restReports t w ++ .trip i true [t] :: cleared))) ∧
      (s.fm.canPlace t [] a = false → (s.tier t).fault.latched = 0 → s.entryOf t = none →
        exec (.tripApplication i) s = .next ((({ s with
            zu := { s.zu with due := rest }
            fm := s.fm.freeAll t
            aa := { s.aa with
              grants := s.aa.grants.filter fun g => !g.names t
              scansDue := s.aa.scansDue + 2 } } : State).modTier t fun r => r.conflicted q).reported
          (.moveEnd t none .barrier q :: .faultRaised t .mapConflict .paused q :: .tierState t .faulted ::
            .trip i true [t] :: cleared))))
/-! ### Admission, samples and the store's events -/

/-- A scan answers one trigger, counted until then (the model's choice, log 6). While fail-safe is active, or an
installed tier is UNSYNCED or carries MAP-CONFLICT, it admits nothing (R101, R102). It admits the TEST entry of a
SECURED tier once its test demand fits the remaining budget, with the test record of the profile in force, and leaves
it waiting otherwise (R41, R105, R106, R107, R146). An entry ahead of it that waits has its bypass count raised, up to
8, and one whose count is 8 ends the scan (R108). -/
def Obligations.ScanTests : Prop :=
  (∀ (n : Nat) (s : State), s.phase = .running → s.convActive = false →
      (s.aa.scansDue = 0 → exec .admissionScan s = .next { s with clp := LinkPort.kick s.clp }) ∧
      (s.aa.scansDue = n + 1 →
        (s.fsu.failsafe ≠ none ∨ (∃ t, s.installed t = true ∧ (s.tier t).state = .unsynced) ∨ s.mapConflict = true) →
        exec .admissionScan s = .next { s with clp := LinkPort.kick s.clp, aa := { s.aa with scansDue := n } })) ∧
  (∀ (t : Tier) (n d : Nat) (e : Entry) (s : State), s.phase = .running → s.Room 2 → s.convActive = false →
      s.aa.scansDue = n + 1 → e = ⟨.test, t, [], none, none, none, none, false, .link, 0, .none⟩ →
      s.hallClosed = false → s.fsu.showLock.getLsbD t = false → (s.tier t).state = .secured →
      d = (s.prof t).hold + (s.mass none t * (s.prof t).testTorque + 9) / 10 →
      (∀ w, s.aa.queue = w ++ [e] → d ≤ s.aa.budget - s.allocated →
        (w = [] ∨ ∃ x, w = [x] ∧ x.tier ≠ t ∧ (∀ u ∈ x.tiers, s.fsu.showLock.getLsbD u = false ∧ (s.tier u).state ≠ .faulted) ∧
          s.standsFor x x.tier = false ∧ x.bypass < 8) →
        exec .admissionScan s = .next ((({ s with aa := { s.aa with
            scansDue := n
            queue := w.map fun x => { x with bypass := x.bypass + 1 }
            grants := s.aa.grants ++ [⟨.test, t, [], none, d, none, false⟩] } } : State).modTier t fun r =>
          { r with
            state := .testing
            brakeTimer := .stopped
            testTimer := some (s.prof t).testDuration
            test := some ⟨(s.prof t).testTorque, (s.prof t).testDuration, (s.prof t).slipLimit, none, none⟩ }).reported
          [.admitted t [] .test .link none d false, .tierState t .testing])) ∧
      (s.aa.queue = [e] → s.aa.budget - s.allocated < d →
        exec .admissionScan s = .next { s with clp := LinkPort.kick s.clp, aa := { s.aa with scansDue := n } }) ∧
      (∀ x, s.aa.queue = [x, e] → x.tier ≠ t →
        (∀ u ∈ x.tiers, s.fsu.showLock.getLsbD u = false ∧ (s.tier u).state ≠ .faulted) →
        s.standsFor x x.tier = false → 8 ≤ x.bypass →
        exec .admissionScan s = .next { s with clp := LinkPort.kick s.clp, aa := { s.aa with scansDue := n } }))

/-- A scan admits a move of a READY tier whose claim can be granted and whose full demand fits, a CONVERT move once its sample is
fresh and vacant and the zone table valid: the claim is granted, the grant holds the full speed and its demand, slew and
tilt, and the tier moves with its generators at speed 0 over the entry's distances (R25, R50, R77, R103, R105, R106,
R107). A gang of two is admitted as one, with one claim, the least of the speed maxima and the sums of the masses and
hold draws, its tilts standing (R40, R61, R94). ADMITTED before the TIER-STATE reports, and these in the gang's order,
is the model's choice (log 15). -/
def Obligations.ScanAdmitsMove : Prop :=
  (∀ (t : Tier) (n full d mass : Nat) (cls : MClass) (x : Slew) (y : Nat) (now : Pos) (e : Entry) (w : Dir) (k : ClaimRec)
    (s : State), s.ScansOne n e → s.Room 2 →
    e = ⟨.move, t, [], some cls, some x, some w, some y, e.auto, .link, e.bypass, e.sample⟩ →
    s.fsu.showLock.getLsbD t = false → (s.tier t).state = .ready → now = s.cmdPos t →
    distance w now.slew x ≠ 0 ∨ y ≠ now.tilt →
    (cls = .convert → s.zu.valid = true ∧ (s.tier t).loadRange = false ∧
      ∃ c load, s.sample t = .valid c load true ∧ load ≤ (s.prof t).vacancyLimit) →
    k = formClaim w now.slew (distance w now.slew x) (s.prof t) (moveBand now.tilt y) →
    s.entryFits e = true → s.entryZone e = .pass → s.grantable [t] k.arc = true →
    mass = s.mass (some cls) t → full = (if cls = .maint then min s.site.creep (s.prof t).slewMax else (s.prof t).slewMax) →
    d = (if distance w now.slew x = 0 then 0 else (mass * full + 255) / 256) +
      (if y = now.tilt then 0 else (mass * (s.prof t).tiltSpeed + 7) / 8) + (s.prof t).hold →
    d ≤ s.aa.budget - s.allocated →
    exec .admissionScan s = .next ((({ s with
        fm := s.fm.grant t k
        aa := { s.aa with
          scansDue := n
          queue := []
          grants := s.aa.grants ++ [⟨.move, t, [], some cls, d, some full, false⟩] } } : State).modTier t fun r =>
      { r with
        state := .moving
        brakeTimer := .stopped
        stop := .none
        stoodStill := false
        move := some
          { leader := t, members := [], cls := cls, origin := .link, targetSlew := x, dir := w, targetTilt := y,
            band := moveBand now.tilt y, auto := e.auto
            slew := ⟨0, distance w now.slew x, false, decide (distance w now.slew x = 0), 0, false⟩
            tilt := ⟨if now.tilt < y then .up else if y < now.tilt then .down else .none, 0,
              (y - now.tilt) + (now.tilt - y), false, decide (y = now.tilt)⟩ } }).reported
      [.admitted t [] .move .link (some full) d false, .tierState t .moving])) ∧
  (∀ (t u : Tier) (n full d : Nat) (x : Slew) (e : Entry) (w : Dir) (k : ClaimRec) (m : Nat → MoveRec) (s : State),
    s.ScansOne n e → s.Room 3 → t ≠ u →
    e = ⟨.gangMove, t, [u], some .maint, some x, some w, none, e.auto, .link, e.bypass, e.sample⟩ →
    s.fsu.showLock.getLsbD t = false → s.fsu.showLock.getLsbD u = false → (s.tier t).state = .ready →
    (s.tier u).state = .ready → distance w (s.cmdPos t).slew x ≠ 0 → k = s.gangClaim w t [u] x →
    s.contiguous w t [u] = true → s.entryFits e = true → s.entryZone e = .pass → s.grantable [t, u] k.arc = true →
    full = min s.site.creep (min (s.prof t).slewMax (s.prof u).slewMax) →
    d = ((s.mass (some .maint) t + s.mass (some .maint) u) * full + 255) / 256 + ((s.prof t).hold + (s.prof u).hold) →
    d ≤ s.aa.budget - s.allocated →
    (∀ y, m y = { leader := t, members := [u], cls := .maint, origin := .link, targetSlew := x, dir := w, targetTilt := y,
                  band := tiltBand y, auto := e.auto
                  slew := ⟨0, distance w (s.cmdPos t).slew x, false, false, 0, false⟩
                  tilt := ⟨.none, 0, 0, false, true⟩ }) →
    exec .admissionScan s = .next (((({ s with
        fm := s.fm.grantGang t [(t, s.standing t), (u, s.standing u)] k
        aa := { s.aa with
          scansDue := n
          queue := []
          grants := s.aa.grants ++ [⟨.gangMove, t, [u], some .maint, d, some full, false⟩] } } : State).modTier t fun r =>
      { r with state := .moving, brakeTimer := .stopped, stop := .none, stoodStill := false,
               move := some (m (s.cmdPos t).tilt) }).modTier u fun r =>
      { r with state := .moving, brakeTimer := .stopped, stop := .none, stoodStill := false,
               move := some (m (s.cmdPos u).tilt) }).reported
      [.admitted t [u] .gangMove .link (some full) d false, .tierState t .moving, .tierState u .moving]))

/-- The tests of a scan drop a move of one tier: SHOW for a show-locked tier and FAULT for a FAULTED one (R102), LOAD for a
LOAD-RANGE restriction and OCCUPIED for a load above the vacancy limit of a CONVERT move (R103), RANGE for an arc that can
no longer be granted at all and ZONE for a zone that forbids it (R66, R104, R110). It waits for a tier that is not READY
(R102), for a valid zone table (R103), for a sample, which it asks for once (R103), at an active trip input and for floor
that is not free (R68, R104). -/
def Obligations.ScanDrops : Prop :=
  ∀ (t : Tier) (n : Nat) (cls : MClass) (e : Entry) (s x : State), s.ScansOne n e → s.Room 1 → e.kind = .move → e.tier = t →
    e.members = [] → e.origin = .link → e.cls = some cls → x = { s with aa := { s.aa with scansDue := n } } →
    (∀ c : Code,
      (s.fsu.showLock.getLsbD t = true ∧ c = .showLocked ∨
        s.fsu.showLock.getLsbD t = false ∧ (s.tier t).state = .faulted ∧ c = .fault ∨
        s.fsu.showLock.getLsbD t = false ∧ (s.tier t).state = .ready ∧
          (cls = .convert ∧ s.zu.valid = true ∧ (s.tier t).loadRange = true ∧ c = .load ∨
            cls = .convert ∧ s.zu.valid = true ∧ (s.tier t).loadRange = false ∧
              (∃ k load, s.sample t = .valid k load true ∧ (s.prof t).vacancyLimit < load) ∧ c = .occupied ∨
            cls = .maint ∧ s.entryFits e = false ∧ c = .range ∨
            cls = .maint ∧ s.entryFits e = true ∧ s.entryZone e = .zone ∧ c = .zone)) →
      exec .admissionScan s = .next (({ x with aa := { x.aa with queue := [] } } : State).reported
        [.requestDropped t [] .move .link c])) ∧
    (s.fsu.showLock.getLsbD t = false →
      ((s.tier t).state ∉ [.ready, .faulted] ∨
        (s.tier t).state = .ready ∧
          (cls = .convert ∧ s.zu.valid = false ∨
            cls = .convert ∧ s.zu.valid = true ∧ (s.tier t).loadRange = false ∧ s.sampleFresh t = false ∧ e.sample = .pending ∨
            cls = .maint ∧ s.entryFits e = true ∧ s.entryZone e = .wait ∨
            cls = .maint ∧ s.entryFits e = true ∧ s.entryZone e = .pass ∧ s.grantable [t] (s.entryClaim e).arc = false)) →
      exec .admissionScan s = .next (x.reported [])) ∧
    (s.fsu.showLock.getLsbD t = false → (s.tier t).state = .ready → cls = .convert → s.zu.valid = true →
      (s.tier t).loadRange = false → s.sampleFresh t = false → e.sample ≠ .pending → s.lc.converter = none → s.lc.fifo = [] →
      exec .admissionScan s = .next (({ x with
        aa := { x.aa with queue := [{ e with sample := .pending }] }
        lc := { s.lc with converter := some ⟨t, false, true⟩ } } : State).reported []))

/-- A slewing move whose full demand does not fit is admitted derated, at the speed v′ that the room allows once tilt and hold
are met, when v′ is at least creep; it waits otherwise, and a tilt-only move is never derated (R105, R106, R107). A MAINT
move, slewing or not, is never derated: it waits where its full demand does not fit (R106). -/
def Obligations.ScanDerates : Prop :=
  (∀ (t : Tier) (n d mass tilts room v : Nat) (x : Slew) (y : Nat) (now : Pos) (e : Entry) (w : Dir) (k : ClaimRec) (s : State),
    s.ScansOne n e → s.Room 2 → e = ⟨.move, t, [], some .convert, some x, some w, some y, e.auto, .link, e.bypass, e.sample⟩ →
    s.fsu.showLock.getLsbD t = false → (s.tier t).state = .ready → now = s.cmdPos t →
    s.zu.valid = true → (s.tier t).loadRange = false →
    (∃ c load, s.sample t = .valid c load true ∧ load ≤ (s.prof t).vacancyLimit) →
    k = formClaim w now.slew (distance w now.slew x) (s.prof t) (moveBand now.tilt y) →
    s.entryFits e = true → s.entryZone e = .pass → s.grantable [t] k.arc = true → mass = s.mass (some .convert) t →
    tilts = (if y = now.tilt then 0 else (mass * (s.prof t).tiltSpeed + 7) / 8) + (s.prof t).hold →
    room = s.aa.budget - s.allocated → v = (room - tilts) * 256 / mass →
    (distance w now.slew x ≠ 0 → room < (mass * (s.prof t).slewMax + 255) / 256 + tilts → tilts < room → s.site.creep ≤ v →
      d = (mass * v + 255) / 256 + tilts →
      d ≤ room ∧ v < (s.prof t).slewMax ∧
      exec .admissionScan s = .next ((({ s with
          fm := s.fm.grant t k
          aa := { s.aa with
            scansDue := n
            queue := []
            grants := s.aa.grants ++ [⟨.move, t, [], some .convert, d, some v, true⟩] } } : State).modTier t fun r =>
        { r with
          state := .moving
          brakeTimer := .stopped
          stop := .none
          stoodStill := false
          move := some
            { leader := t, members := [], cls := .convert, origin := .link, targetSlew := x, dir := w, targetTilt := y,
              band := moveBand now.tilt y, auto := e.auto
              slew := ⟨0, distance w now.slew x, false, false, 0, false⟩
              tilt := ⟨if now.tilt < y then .up else if y < now.tilt then .down else .none, 0,
                (y - now.tilt) + (now.tilt - y), false, decide (y = now.tilt)⟩ } }).reported
        [.admitted t [] .move .link (some v) d true, .tierState t .moving])) ∧
    (distance w now.slew x ≠ 0 ∧ room < (mass * (s.prof t).slewMax + 255) / 256 + tilts ∧ (room ≤ tilts ∨ v < s.site.creep) ∨
        distance w now.slew x = 0 ∧ room < tilts →
      exec .admissionScan s = .next { s with clp := LinkPort.kick s.clp, aa := { s.aa with scansDue := n } })) ∧
  (∀ (t : Tier) (n mass : Nat) (x : Slew) (y : Nat) (now : Pos) (e : Entry) (w : Dir) (k : ClaimRec) (s : State),
    s.ScansOne n e → e = ⟨.move, t, [], some .maint, some x, some w, some y, e.auto, .link, e.bypass, e.sample⟩ →
    s.fsu.showLock.getLsbD t = false → (s.tier t).state = .ready → now = s.cmdPos t →
    k = formClaim w now.slew (distance w now.slew x) (s.prof t) (moveBand now.tilt y) →
    s.entryFits e = true → s.entryZone e = .pass → s.grantable [t] k.arc = true → mass = s.mass (some .maint) t →
    s.aa.budget - s.allocated <
      (if distance w now.slew x = 0 then 0 else (mass * min s.site.creep (s.prof t).slewMax + 255) / 256) +
        (if y = now.tilt then 0 else (mass * (s.prof t).tiltSpeed + 7) / 8) + (s.prof t).hold →
    exec .admissionScan s = .next { s with clp := LinkPort.kick s.clp, aa := { s.aa with scansDue := n } })

/-- SAMPLE-LOAD begins a conversion on an idle converter, merges with one of the same channel, or waits its turn; a
completion writes the sample record and the LOAD-RANGE restriction, reports a LINK conversion, makes PENDING entries
DONE and starts a scan, and the converter goes on; a sample whose freshness timer runs out keeps its load (R103, R138
to R142). -/
def Obligations.LoadSamples : Prop :=
  (∀ (tag b : Byte) (t : Tier) (s : State), s.Handles → tierOf b = some t →
      (s.installed t = false → exec (.sampleLoad tag b) s = .next (s.replied tag 0x98 .noTier [] [])) ∧
      (s.installed t = true → s.lc.converter = none → s.lc.fifo = [] →
        exec (.sampleLoad tag b) s = .next (({ s with lc := { s.lc with converter := some ⟨t, true, false⟩ } } : State).replied
          tag 0x98 .ok [] [])) ∧
      (∀ a, s.installed t = true → s.lc.converter = some ⟨t, a, true⟩ →
        exec (.sampleLoad tag b) s = .next (({ s with lc := { s.lc with converter := some ⟨t, true, true⟩ } } : State).replied
          tag 0x98 .ok [] [])) ∧
      (∀ c, s.installed t = true → s.lc.converter = some c → c.tier ≠ t → (∀ x ∈ s.lc.fifo, x.tier ≠ t) →
        exec (.sampleLoad tag b) s = .next (({ s with lc := { s.lc with fifo := s.lc.fifo ++ [⟨t, true, false⟩] } } : State).replied
          tag 0x98 .ok [] []))) ∧
  (∀ (t : Tier) (n : BitVec 12) (link arb : Bool) (load : Nat) (s : State), s.phase = .running → s.Room 1 →
      (s.installed t = true → s.lc.converter = some ⟨t, link, arb⟩ → n ≠ 0xFFF → load = n.toNat * (s.prof t).loadScale / 64 →
        exec (.loadConversionComplete n) s = .next ((({ s with
            lc := { samples := s.lc.samples.set t (.valid n.toNat load true), converter := s.lc.fifo.head?, fifo := s.lc.fifo.tail }
            aa := { s.aa with
              scansDue := s.aa.scansDue + 1
              queue := s.aa.queue.map fun e =>
                if e.names t = true ∧ e.sample = .pending then { e with sample := .done } else e } } : State).modTier t fun r =>
          { r with loadRange := false }).reported
            (if link then [.load t n.toNat (some load) (if load ≤ (s.prof t).vacancyLimit then .vacant else .occupied)] else []))) ∧
      (s.installed t = true → s.lc.converter = some ⟨t, link, arb⟩ → n = 0xFFF →
        exec (.loadConversionComplete n) s = .next ((({ s with
            lc := { samples := s.lc.samples.set t (.outOfRange 4095), converter := s.lc.fifo.head?, fifo := s.lc.fifo.tail }
            aa := { s.aa with
              scansDue := s.aa.scansDue + 1
              queue := s.aa.queue.map fun e =>
                if e.names t = true ∧ e.sample = .pending then { e with sample := .done } else e } } : State).modTier t fun r =>
          { r with loadRange := true }).reported (if link then [.load t 4095 none .outOfRange] else []))) ∧
      (∀ c, s.sample t = .valid c load true →
        exec (.freshnessTimerExpiry t) s = .next { s with
          clp := LinkPort.kick s.clp
          lc := { s.lc with samples := s.lc.samples.set t (.valid c load false) } }))
/-! ### The operations of the blocks -/

/-- No step of a slew generator exceeds its profile maximum or rises by more than one acceleration, none passes the
target, and the recorded speed is the step taken, whatever cap within the maximum the interval has; an axis that has
its braking distance keeps it (R81 to R84). Under a cap of at least 1 every slew generator arrives: after as many
intervals as it has ring units to go it has finished, with nothing remaining and all of its distance travelled (R81, R82,
R83). -/
def Obligations.GeneratorBounds : Prop :=
  (∀ (g : SlewGen) (a cap top : Nat), 1 ≤ a → a ≤ top → cap ≤ top → g.speed ≤ top →
      g.stepLength a cap ≤ top ∧ g.stepLength a cap ≤ g.speed + a ∧ (g.finished = false → g.stepLength a cap ≤ g.rem) ∧
      (g.finished = false → (g.step a cap).rem = g.rem - g.stepLength a cap ∧
        (g.step a cap).progress = g.progress + g.stepLength a cap) ∧
      (g.step a cap).speed ≤ top ∧ ((g.step a cap).finished = false → (g.step a cap).speed = g.stepLength a cap)) ∧
  (∀ (g : SlewGen) (a cap : Nat), 1 ≤ a → g.finished = false → braking a g.speed ≤ g.rem →
      braking a (g.step a cap).speed ≤ (g.step a cap).rem) ∧
  (∀ (g : SlewGen) (a cap : Nat), 1 ≤ a → 1 ≤ cap → g.finished = decide (g.rem = 0) →
    ((fun x : SlewGen => x.step a cap)^[g.rem] g).finished = true ∧
    ((fun x : SlewGen => x.step a cap)^[g.rem] g).rem = 0 ∧
    ((fun x : SlewGen => x.step a cap)^[g.rem] g).progress = g.progress + g.rem)

/-- A placement that passes makes the footprint HELD by the tier, frees every other cell the tier owned, removes its claim
record, and changes no cell of another tier and no other claim record (R54). A grant that succeeds makes every cell of
the arc CLAIMED by the tier, changes no other cell and no cell of another tier, frees none, and makes the claim record
(R50). A trailing release frees the steps from the release index to the trailing index that the tier owns, and no other
cell, and the record keeps the index (R53); a retarget claims the steps beyond the old end and frees those beyond the
new (R51). -/
def Obligations.PlacementHolds : Prop :=
  (∀ (m : Floor) (t : Tier) (a : Arc), m.canPlace t [] a = true →
    (∀ g, (m.place t a).at g = if a.mem g = true then .held t else if (m.at g).owner = some t then .free else m.at g) ∧
    (∀ g u, u ≠ t → (m.at g).owner = some u → (m.place t a).at g = m.at g) ∧
    (m.place t a).claims.get t = none ∧ ∀ u, u ≠ t → (m.place t a).claims.get u = m.claims.get u) ∧
  (∀ (s : State) (t : Tier) (c : ClaimRec), s.grantable [t] c.arc = true →
    (∀ g, (s.fm.grant t c).at g = if c.arc.mem g = true then .claimed t else s.fm.at g) ∧
    (∀ g u, u ≠ t → (s.fm.at g).owner = some u → (s.fm.grant t c).at g = s.fm.at g) ∧
    (s.fm.grant t c).claims.get t = some c ∧ ∀ u, u ≠ t → (s.fm.grant t c).claims.get u = s.fm.claims.get u) ∧
  (∀ (m : Floor) (t : Tier) (c : ClaimRec) (i : Nat),
    (∀ g, (m.releaseTo [t] c i).at g =
      if (stepArc c.dir c.origin c.release i).mem g = true ∧ (m.at g).owner = some t then .free else m.at g) ∧
    (m.releaseTo [t] c i).claims.get t = some { c with release := i } ∧
    ∀ u, u ≠ t → (m.releaseTo [t] c i).claims.get u = m.claims.get u) ∧
  (∀ (m : Floor) (t : Tier) (c : ClaimRec) (e : Nat), e - c.finish ≤ 256 → c.finish - e ≤ 256 →
    (∀ g, (m.retarget t c e).at g =
      if g ∈ (stepArc c.dir c.origin (c.finish + 1) (e + 1)).cells then .claimed t
      else if g ∈ (stepArc c.dir c.origin (e + 1) (c.finish + 1)).cells then .free else m.at g) ∧
    (m.retarget t c e).claims.get t = some { c with finish := e } ∧
    ∀ u, u ≠ t → (m.retarget t c e).claims.get u = m.claims.get u)

/-- The claim arc covers the motion: at every point of the move each cell of the tier's footprint at the move band is a
step of the claim, no earlier than the trailing index there and no later than the end index (R8, R46, R47, R48, R52). -/
def Obligations.ClaimCoversMotion : Prop :=
  ∀ (w : Dir) (p : Slew) (d x : Nat) (q : ProfileData) (band : Fin 4) (g : Cell), x ≤ d → (formClaim w p d q band).finish < 256 →
    g ∈ (footprint q (advance w p x) band).cells →
    (formClaim w p d q band).trailingIndex x ≤ stepsFrom w (formClaim w p d q band).origin g ∧
    stepsFrom w (formClaim w p d q band).origin g ≤ (formClaim w p d q band).finish

/-- Leg `k` of a walk goes to the waypoint base + ((start − base + k) modulo n), base = start − (start modulo n), where n
is the run, 8 for CONT; the last leg is number n − 1, and CONT has none (R133). -/
def Obligations.WalkOrder : Prop :=
  ∀ (w : WalkRec) (n : Nat), n = (match w.run with | .one => 1 | .two => 2 | .four => 4 | .eight => 8 | .cont => 8) →
    w.waypoint.val = (w.start.val - w.start.val % n) + (w.start.val % n + w.leg) % n ∧
    w.isLast = (decide (w.run ≠ .cont) && decide (w.leg + 1 = n)) ∧
    (w.run = .cont → w.waypoint.val = (w.start.val + w.leg) % 8 ∧ w.nextLeg = (w.leg + 1) % 8)
end
end

