-- ==== Sys2Proof/Laws/State.lean ====
section
/-! SUPPORT. One lemma per field for each update of the state, so that no later proof unfolds a record update, and the
same for `report`, whose only effect is on the report queue. -/

namespace Sys2Proof.Machine

/-! ### What an update leaves alone -/

@[simp] theorem modTier_phase (s : State) (t : Tier) (f : TierRec → TierRec) : (s.modTier t f).phase = s.phase := rfl
@[simp] theorem modTier_pins (s : State) (t : Tier) (f : TierRec → TierRec) : (s.modTier t f).pins = s.pins := rfl
@[simp] theorem modTier_clp (s : State) (t : Tier) (f : TierRec → TierRec) : (s.modTier t f).clp = s.clp := rfl
@[simp] theorem modTier_fm (s : State) (t : Tier) (f : TierRec → TierRec) : (s.modTier t f).fm = s.fm := rfl
@[simp] theorem modTier_zu (s : State) (t : Tier) (f : TierRec → TierRec) : (s.modTier t f).zu = s.zu := rfl
@[simp] theorem modTier_aa (s : State) (t : Tier) (f : TierRec → TierRec) : (s.modTier t f).aa = s.aa := rfl
@[simp] theorem modTier_cu (s : State) (t : Tier) (f : TierRec → TierRec) : (s.modTier t f).cu = s.cu := rfl
@[simp] theorem modTier_lc (s : State) (t : Tier) (f : TierRec → TierRec) : (s.modTier t f).lc = s.lc := rfl
@[simp] theorem modTier_dlp (s : State) (t : Tier) (f : TierRec → TierRec) : (s.modTier t f).dlp = s.dlp := rfl
@[simp] theorem modTier_fsu (s : State) (t : Tier) (f : TierRec → TierRec) : (s.modTier t f).fsu = s.fsu := rfl
@[simp] theorem modTier_nvs (s : State) (t : Tier) (f : TierRec → TierRec) : (s.modTier t f).nvs = s.nvs := rfl
@[simp] theorem modTier_site (s : State) (t : Tier) (f : TierRec → TierRec) : (s.modTier t f).site = s.site := rfl
@[simp] theorem modTier_siteLoaded (s : State) (t : Tier) (f : TierRec → TierRec) : (s.modTier t f).siteLoaded = s.siteLoaded := rfl
@[simp] theorem modTier_siteSetTaken (s : State) (t : Tier) (f : TierRec → TierRec) : (s.modTier t f).siteSetTaken = s.siteSetTaken := rfl
@[simp] theorem modTier_profiles (s : State) (t : Tier) (f : TierRec → TierRec) : (s.modTier t f).profiles = s.profiles := rfl
@[simp] theorem modTier_freeCount (s : State) (t : Tier) (f : TierRec → TierRec) : (s.modTier t f).freeCount = s.freeCount := rfl
@[simp] theorem modTier_pending (s : State) (t : Tier) (f : TierRec → TierRec) : (s.modTier t f).pending = s.pending := rfl

@[simp] theorem modLink_phase (s : State) (t : Tier) (f : LinkRec → LinkRec) : (s.modLink t f).phase = s.phase := rfl
@[simp] theorem modLink_pins (s : State) (t : Tier) (f : LinkRec → LinkRec) : (s.modLink t f).pins = s.pins := rfl
@[simp] theorem modLink_clp (s : State) (t : Tier) (f : LinkRec → LinkRec) : (s.modLink t f).clp = s.clp := rfl
@[simp] theorem modLink_tiers (s : State) (t : Tier) (f : LinkRec → LinkRec) : (s.modLink t f).tiers = s.tiers := rfl
@[simp] theorem modLink_fm (s : State) (t : Tier) (f : LinkRec → LinkRec) : (s.modLink t f).fm = s.fm := rfl
@[simp] theorem modLink_zu (s : State) (t : Tier) (f : LinkRec → LinkRec) : (s.modLink t f).zu = s.zu := rfl
@[simp] theorem modLink_aa (s : State) (t : Tier) (f : LinkRec → LinkRec) : (s.modLink t f).aa = s.aa := rfl
@[simp] theorem modLink_cu (s : State) (t : Tier) (f : LinkRec → LinkRec) : (s.modLink t f).cu = s.cu := rfl
@[simp] theorem modLink_lc (s : State) (t : Tier) (f : LinkRec → LinkRec) : (s.modLink t f).lc = s.lc := rfl
@[simp] theorem modLink_fsu (s : State) (t : Tier) (f : LinkRec → LinkRec) : (s.modLink t f).fsu = s.fsu := rfl
@[simp] theorem modLink_nvs (s : State) (t : Tier) (f : LinkRec → LinkRec) : (s.modLink t f).nvs = s.nvs := rfl
@[simp] theorem modLink_site (s : State) (t : Tier) (f : LinkRec → LinkRec) : (s.modLink t f).site = s.site := rfl
@[simp] theorem modLink_siteLoaded (s : State) (t : Tier) (f : LinkRec → LinkRec) : (s.modLink t f).siteLoaded = s.siteLoaded := rfl
@[simp] theorem modLink_siteSetTaken (s : State) (t : Tier) (f : LinkRec → LinkRec) : (s.modLink t f).siteSetTaken = s.siteSetTaken := rfl
@[simp] theorem modLink_profiles (s : State) (t : Tier) (f : LinkRec → LinkRec) : (s.modLink t f).profiles = s.profiles := rfl
@[simp] theorem modLink_freeCount (s : State) (t : Tier) (f : LinkRec → LinkRec) : (s.modLink t f).freeCount = s.freeCount := rfl
@[simp] theorem modLink_pending (s : State) (t : Tier) (f : LinkRec → LinkRec) : (s.modLink t f).pending = s.pending := rfl

@[simp] theorem trigger_phase (s : State) : (s.trigger).phase = s.phase := rfl
@[simp] theorem trigger_pins (s : State) : (s.trigger).pins = s.pins := rfl
@[simp] theorem trigger_clp (s : State) : (s.trigger).clp = s.clp := rfl
@[simp] theorem trigger_tiers (s : State) : (s.trigger).tiers = s.tiers := rfl
@[simp] theorem trigger_fm (s : State) : (s.trigger).fm = s.fm := rfl
@[simp] theorem trigger_zu (s : State) : (s.trigger).zu = s.zu := rfl
@[simp] theorem trigger_cu (s : State) : (s.trigger).cu = s.cu := rfl
@[simp] theorem trigger_lc (s : State) : (s.trigger).lc = s.lc := rfl
@[simp] theorem trigger_dlp (s : State) : (s.trigger).dlp = s.dlp := rfl
@[simp] theorem trigger_fsu (s : State) : (s.trigger).fsu = s.fsu := rfl
@[simp] theorem trigger_nvs (s : State) : (s.trigger).nvs = s.nvs := rfl
@[simp] theorem trigger_site (s : State) : (s.trigger).site = s.site := rfl
@[simp] theorem trigger_siteLoaded (s : State) : (s.trigger).siteLoaded = s.siteLoaded := rfl
@[simp] theorem trigger_siteSetTaken (s : State) : (s.trigger).siteSetTaken = s.siteSetTaken := rfl
@[simp] theorem trigger_profiles (s : State) : (s.trigger).profiles = s.profiles := rfl
@[simp] theorem trigger_freeCount (s : State) : (s.trigger).freeCount = s.freeCount := rfl
@[simp] theorem trigger_pending (s : State) : (s.trigger).pending = s.pending := rfl

@[simp] theorem useFree_phase (s : State) : (s.useFree).phase = s.phase := rfl
@[simp] theorem useFree_pins (s : State) : (s.useFree).pins = s.pins := rfl
@[simp] theorem useFree_clp (s : State) : (s.useFree).clp = s.clp := rfl
@[simp] theorem useFree_tiers (s : State) : (s.useFree).tiers = s.tiers := rfl
@[simp] theorem useFree_fm (s : State) : (s.useFree).fm = s.fm := rfl
@[simp] theorem useFree_zu (s : State) : (s.useFree).zu = s.zu := rfl
@[simp] theorem useFree_aa (s : State) : (s.useFree).aa = s.aa := rfl
@[simp] theorem useFree_cu (s : State) : (s.useFree).cu = s.cu := rfl
@[simp] theorem useFree_lc (s : State) : (s.useFree).lc = s.lc := rfl
@[simp] theorem useFree_dlp (s : State) : (s.useFree).dlp = s.dlp := rfl
@[simp] theorem useFree_fsu (s : State) : (s.useFree).fsu = s.fsu := rfl
@[simp] theorem useFree_nvs (s : State) : (s.useFree).nvs = s.nvs := rfl
@[simp] theorem useFree_site (s : State) : (s.useFree).site = s.site := rfl
@[simp] theorem useFree_siteLoaded (s : State) : (s.useFree).siteLoaded = s.siteLoaded := rfl
@[simp] theorem useFree_siteSetTaken (s : State) : (s.useFree).siteSetTaken = s.siteSetTaken := rfl
@[simp] theorem useFree_profiles (s : State) : (s.useFree).profiles = s.profiles := rfl
@[simp] theorem useFree_pending (s : State) : (s.useFree).pending = s.pending := rfl

@[simp] theorem modFloor_phase (s : State) (f : Floor → Floor) : (s.modFloor f).phase = s.phase := rfl
@[simp] theorem modFloor_pins (s : State) (f : Floor → Floor) : (s.modFloor f).pins = s.pins := rfl
@[simp] theorem modFloor_clp (s : State) (f : Floor → Floor) : (s.modFloor f).clp = s.clp := rfl
@[simp] theorem modFloor_tiers (s : State) (f : Floor → Floor) : (s.modFloor f).tiers = s.tiers := rfl
@[simp] theorem modFloor_zu (s : State) (f : Floor → Floor) : (s.modFloor f).zu = s.zu := rfl
@[simp] theorem modFloor_aa (s : State) (f : Floor → Floor) : (s.modFloor f).aa = s.aa := rfl
@[simp] theorem modFloor_cu (s : State) (f : Floor → Floor) : (s.modFloor f).cu = s.cu := rfl
@[simp] theorem modFloor_lc (s : State) (f : Floor → Floor) : (s.modFloor f).lc = s.lc := rfl
@[simp] theorem modFloor_dlp (s : State) (f : Floor → Floor) : (s.modFloor f).dlp = s.dlp := rfl
@[simp] theorem modFloor_fsu (s : State) (f : Floor → Floor) : (s.modFloor f).fsu = s.fsu := rfl
@[simp] theorem modFloor_nvs (s : State) (f : Floor → Floor) : (s.modFloor f).nvs = s.nvs := rfl
@[simp] theorem modFloor_site (s : State) (f : Floor → Floor) : (s.modFloor f).site = s.site := rfl
@[simp] theorem modFloor_siteLoaded (s : State) (f : Floor → Floor) : (s.modFloor f).siteLoaded = s.siteLoaded := rfl
@[simp] theorem modFloor_siteSetTaken (s : State) (f : Floor → Floor) : (s.modFloor f).siteSetTaken = s.siteSetTaken := rfl
@[simp] theorem modFloor_profiles (s : State) (f : Floor → Floor) : (s.modFloor f).profiles = s.profiles := rfl
@[simp] theorem modFloor_freeCount (s : State) (f : Floor → Floor) : (s.modFloor f).freeCount = s.freeCount := rfl
@[simp] theorem modFloor_pending (s : State) (f : Floor → Floor) : (s.modFloor f).pending = s.pending := rfl

@[simp] theorem modPort_phase (s : State) (f : LinkPort → LinkPort) : (s.modPort f).phase = s.phase := rfl
@[simp] theorem modPort_pins (s : State) (f : LinkPort → LinkPort) : (s.modPort f).pins = s.pins := rfl
@[simp] theorem modPort_tiers (s : State) (f : LinkPort → LinkPort) : (s.modPort f).tiers = s.tiers := rfl
@[simp] theorem modPort_fm (s : State) (f : LinkPort → LinkPort) : (s.modPort f).fm = s.fm := rfl
@[simp] theorem modPort_zu (s : State) (f : LinkPort → LinkPort) : (s.modPort f).zu = s.zu := rfl
@[simp] theorem modPort_aa (s : State) (f : LinkPort → LinkPort) : (s.modPort f).aa = s.aa := rfl
@[simp] theorem modPort_cu (s : State) (f : LinkPort → LinkPort) : (s.modPort f).cu = s.cu := rfl
@[simp] theorem modPort_lc (s : State) (f : LinkPort → LinkPort) : (s.modPort f).lc = s.lc := rfl
@[simp] theorem modPort_dlp (s : State) (f : LinkPort → LinkPort) : (s.modPort f).dlp = s.dlp := rfl
@[simp] theorem modPort_fsu (s : State) (f : LinkPort → LinkPort) : (s.modPort f).fsu = s.fsu := rfl
@[simp] theorem modPort_nvs (s : State) (f : LinkPort → LinkPort) : (s.modPort f).nvs = s.nvs := rfl
@[simp] theorem modPort_site (s : State) (f : LinkPort → LinkPort) : (s.modPort f).site = s.site := rfl
@[simp] theorem modPort_siteLoaded (s : State) (f : LinkPort → LinkPort) : (s.modPort f).siteLoaded = s.siteLoaded := rfl
@[simp] theorem modPort_siteSetTaken (s : State) (f : LinkPort → LinkPort) : (s.modPort f).siteSetTaken = s.siteSetTaken := rfl
@[simp] theorem modPort_profiles (s : State) (f : LinkPort → LinkPort) : (s.modPort f).profiles = s.profiles := rfl
@[simp] theorem modPort_freeCount (s : State) (f : LinkPort → LinkPort) : (s.modPort f).freeCount = s.freeCount := rfl
@[simp] theorem modPort_pending (s : State) (f : LinkPort → LinkPort) : (s.modPort f).pending = s.pending := rfl

@[simp] theorem withPending_phase (s : State) (q : List Instr) : (s.withPending q).phase = s.phase := rfl
@[simp] theorem withPending_pins (s : State) (q : List Instr) : (s.withPending q).pins = s.pins := rfl
@[simp] theorem withPending_clp (s : State) (q : List Instr) : (s.withPending q).clp = s.clp := rfl
@[simp] theorem withPending_tiers (s : State) (q : List Instr) : (s.withPending q).tiers = s.tiers := rfl
@[simp] theorem withPending_fm (s : State) (q : List Instr) : (s.withPending q).fm = s.fm := rfl
@[simp] theorem withPending_zu (s : State) (q : List Instr) : (s.withPending q).zu = s.zu := rfl
@[simp] theorem withPending_aa (s : State) (q : List Instr) : (s.withPending q).aa = s.aa := rfl
@[simp] theorem withPending_cu (s : State) (q : List Instr) : (s.withPending q).cu = s.cu := rfl
@[simp] theorem withPending_lc (s : State) (q : List Instr) : (s.withPending q).lc = s.lc := rfl
@[simp] theorem withPending_dlp (s : State) (q : List Instr) : (s.withPending q).dlp = s.dlp := rfl
@[simp] theorem withPending_fsu (s : State) (q : List Instr) : (s.withPending q).fsu = s.fsu := rfl
@[simp] theorem withPending_nvs (s : State) (q : List Instr) : (s.withPending q).nvs = s.nvs := rfl
@[simp] theorem withPending_site (s : State) (q : List Instr) : (s.withPending q).site = s.site := rfl
@[simp] theorem withPending_siteLoaded (s : State) (q : List Instr) : (s.withPending q).siteLoaded = s.siteLoaded := rfl
@[simp] theorem withPending_siteSetTaken (s : State) (q : List Instr) : (s.withPending q).siteSetTaken = s.siteSetTaken := rfl
@[simp] theorem withPending_profiles (s : State) (q : List Instr) : (s.withPending q).profiles = s.profiles := rfl
@[simp] theorem withPending_freeCount (s : State) (q : List Instr) : (s.withPending q).freeCount = s.freeCount := rfl

@[simp] theorem setConvTier_phase (s : State) (t : Tier) (c : ConvTier) : (s.setConvTier t c).phase = s.phase := rfl
@[simp] theorem setConvTier_pins (s : State) (t : Tier) (c : ConvTier) : (s.setConvTier t c).pins = s.pins := rfl
@[simp] theorem setConvTier_clp (s : State) (t : Tier) (c : ConvTier) : (s.setConvTier t c).clp = s.clp := rfl
@[simp] theorem setConvTier_tiers (s : State) (t : Tier) (c : ConvTier) : (s.setConvTier t c).tiers = s.tiers := rfl
@[simp] theorem setConvTier_fm (s : State) (t : Tier) (c : ConvTier) : (s.setConvTier t c).fm = s.fm := rfl
@[simp] theorem setConvTier_zu (s : State) (t : Tier) (c : ConvTier) : (s.setConvTier t c).zu = s.zu := rfl
@[simp] theorem setConvTier_aa (s : State) (t : Tier) (c : ConvTier) : (s.setConvTier t c).aa = s.aa := rfl
@[simp] theorem setConvTier_lc (s : State) (t : Tier) (c : ConvTier) : (s.setConvTier t c).lc = s.lc := rfl
@[simp] theorem setConvTier_dlp (s : State) (t : Tier) (c : ConvTier) : (s.setConvTier t c).dlp = s.dlp := rfl
@[simp] theorem setConvTier_fsu (s : State) (t : Tier) (c : ConvTier) : (s.setConvTier t c).fsu = s.fsu := rfl
@[simp] theorem setConvTier_nvs (s : State) (t : Tier) (c : ConvTier) : (s.setConvTier t c).nvs = s.nvs := rfl
@[simp] theorem setConvTier_site (s : State) (t : Tier) (c : ConvTier) : (s.setConvTier t c).site = s.site := rfl
@[simp] theorem setConvTier_siteLoaded (s : State) (t : Tier) (c : ConvTier) : (s.setConvTier t c).siteLoaded = s.siteLoaded := rfl
@[simp] theorem setConvTier_siteSetTaken (s : State) (t : Tier) (c : ConvTier) : (s.setConvTier t c).siteSetTaken = s.siteSetTaken := rfl
@[simp] theorem setConvTier_profiles (s : State) (t : Tier) (c : ConvTier) : (s.setConvTier t c).profiles = s.profiles := rfl
@[simp] theorem setConvTier_freeCount (s : State) (t : Tier) (c : ConvTier) : (s.setConvTier t c).freeCount = s.freeCount := rfl
@[simp] theorem setConvTier_pending (s : State) (t : Tier) (c : ConvTier) : (s.setConvTier t c).pending = s.pending := rfl

@[simp] theorem setConvState_phase (s : State) (c : ConvState) : (s.setConvState c).phase = s.phase := rfl
@[simp] theorem setConvState_pins (s : State) (c : ConvState) : (s.setConvState c).pins = s.pins := rfl
@[simp] theorem setConvState_clp (s : State) (c : ConvState) : (s.setConvState c).clp = s.clp := rfl
@[simp] theorem setConvState_tiers (s : State) (c : ConvState) : (s.setConvState c).tiers = s.tiers := rfl
@[simp] theorem setConvState_fm (s : State) (c : ConvState) : (s.setConvState c).fm = s.fm := rfl
@[simp] theorem setConvState_zu (s : State) (c : ConvState) : (s.setConvState c).zu = s.zu := rfl
@[simp] theorem setConvState_aa (s : State) (c : ConvState) : (s.setConvState c).aa = s.aa := rfl
@[simp] theorem setConvState_lc (s : State) (c : ConvState) : (s.setConvState c).lc = s.lc := rfl
@[simp] theorem setConvState_dlp (s : State) (c : ConvState) : (s.setConvState c).dlp = s.dlp := rfl
@[simp] theorem setConvState_fsu (s : State) (c : ConvState) : (s.setConvState c).fsu = s.fsu := rfl
@[simp] theorem setConvState_nvs (s : State) (c : ConvState) : (s.setConvState c).nvs = s.nvs := rfl
@[simp] theorem setConvState_site (s : State) (c : ConvState) : (s.setConvState c).site = s.site := rfl
@[simp] theorem setConvState_siteLoaded (s : State) (c : ConvState) : (s.setConvState c).siteLoaded = s.siteLoaded := rfl
@[simp] theorem setConvState_siteSetTaken (s : State) (c : ConvState) : (s.setConvState c).siteSetTaken = s.siteSetTaken := rfl
@[simp] theorem setConvState_profiles (s : State) (c : ConvState) : (s.setConvState c).profiles = s.profiles := rfl
@[simp] theorem setConvState_freeCount (s : State) (c : ConvState) : (s.setConvState c).freeCount = s.freeCount := rfl
@[simp] theorem setConvState_pending (s : State) (c : ConvState) : (s.setConvState c).pending = s.pending := rfl

@[simp] theorem beginStore_phase (s : State) (o : StoreOp) : (s.beginStore o).phase = s.phase := rfl
@[simp] theorem beginStore_pins (s : State) (o : StoreOp) : (s.beginStore o).pins = s.pins := rfl
@[simp] theorem beginStore_clp (s : State) (o : StoreOp) : (s.beginStore o).clp = s.clp := rfl
@[simp] theorem beginStore_tiers (s : State) (o : StoreOp) : (s.beginStore o).tiers = s.tiers := rfl
@[simp] theorem beginStore_fm (s : State) (o : StoreOp) : (s.beginStore o).fm = s.fm := rfl
@[simp] theorem beginStore_zu (s : State) (o : StoreOp) : (s.beginStore o).zu = s.zu := rfl
@[simp] theorem beginStore_aa (s : State) (o : StoreOp) : (s.beginStore o).aa = s.aa := rfl
@[simp] theorem beginStore_cu (s : State) (o : StoreOp) : (s.beginStore o).cu = s.cu := rfl
@[simp] theorem beginStore_lc (s : State) (o : StoreOp) : (s.beginStore o).lc = s.lc := rfl
@[simp] theorem beginStore_dlp (s : State) (o : StoreOp) : (s.beginStore o).dlp = s.dlp := rfl
@[simp] theorem beginStore_fsu (s : State) (o : StoreOp) : (s.beginStore o).fsu = s.fsu := rfl
@[simp] theorem beginStore_site (s : State) (o : StoreOp) : (s.beginStore o).site = s.site := rfl
@[simp] theorem beginStore_siteLoaded (s : State) (o : StoreOp) : (s.beginStore o).siteLoaded = s.siteLoaded := rfl
@[simp] theorem beginStore_siteSetTaken (s : State) (o : StoreOp) : (s.beginStore o).siteSetTaken = s.siteSetTaken := rfl
@[simp] theorem beginStore_profiles (s : State) (o : StoreOp) : (s.beginStore o).profiles = s.profiles := rfl
@[simp] theorem beginStore_freeCount (s : State) (o : StoreOp) : (s.beginStore o).freeCount = s.freeCount := rfl
@[simp] theorem beginStore_pending (s : State) (o : StoreOp) : (s.beginStore o).pending = s.pending := rfl

@[simp] theorem modStore_phase (s : State) (f : Store → Store) : (s.modStore f).phase = s.phase := rfl
@[simp] theorem modStore_pins (s : State) (f : Store → Store) : (s.modStore f).pins = s.pins := rfl
@[simp] theorem modStore_clp (s : State) (f : Store → Store) : (s.modStore f).clp = s.clp := rfl
@[simp] theorem modStore_tiers (s : State) (f : Store → Store) : (s.modStore f).tiers = s.tiers := rfl
@[simp] theorem modStore_fm (s : State) (f : Store → Store) : (s.modStore f).fm = s.fm := rfl
@[simp] theorem modStore_zu (s : State) (f : Store → Store) : (s.modStore f).zu = s.zu := rfl
@[simp] theorem modStore_aa (s : State) (f : Store → Store) : (s.modStore f).aa = s.aa := rfl
@[simp] theorem modStore_cu (s : State) (f : Store → Store) : (s.modStore f).cu = s.cu := rfl
@[simp] theorem modStore_lc (s : State) (f : Store → Store) : (s.modStore f).lc = s.lc := rfl
@[simp] theorem modStore_dlp (s : State) (f : Store → Store) : (s.modStore f).dlp = s.dlp := rfl
@[simp] theorem modStore_fsu (s : State) (f : Store → Store) : (s.modStore f).fsu = s.fsu := rfl
@[simp] theorem modStore_site (s : State) (f : Store → Store) : (s.modStore f).site = s.site := rfl
@[simp] theorem modStore_siteLoaded (s : State) (f : Store → Store) : (s.modStore f).siteLoaded = s.siteLoaded := rfl
@[simp] theorem modStore_siteSetTaken (s : State) (f : Store → Store) : (s.modStore f).siteSetTaken = s.siteSetTaken := rfl
@[simp] theorem modStore_profiles (s : State) (f : Store → Store) : (s.modStore f).profiles = s.profiles := rfl
@[simp] theorem modStore_freeCount (s : State) (f : Store → Store) : (s.modStore f).freeCount = s.freeCount := rfl
@[simp] theorem modStore_pending (s : State) (f : Store → Store) : (s.modStore f).pending = s.pending := rfl

@[simp] theorem setDriveFramer_phase (s : State) (x : DriveFramer) : (s.setDriveFramer x).phase = s.phase := rfl
@[simp] theorem setDriveFramer_pins (s : State) (x : DriveFramer) : (s.setDriveFramer x).pins = s.pins := rfl
@[simp] theorem setDriveFramer_clp (s : State) (x : DriveFramer) : (s.setDriveFramer x).clp = s.clp := rfl
@[simp] theorem setDriveFramer_tiers (s : State) (x : DriveFramer) : (s.setDriveFramer x).tiers = s.tiers := rfl
@[simp] theorem setDriveFramer_fm (s : State) (x : DriveFramer) : (s.setDriveFramer x).fm = s.fm := rfl
@[simp] theorem setDriveFramer_zu (s : State) (x : DriveFramer) : (s.setDriveFramer x).zu = s.zu := rfl
@[simp] theorem setDriveFramer_aa (s : State) (x : DriveFramer) : (s.setDriveFramer x).aa = s.aa := rfl
@[simp] theorem setDriveFramer_cu (s : State) (x : DriveFramer) : (s.setDriveFramer x).cu = s.cu := rfl
@[simp] theorem setDriveFramer_lc (s : State) (x : DriveFramer) : (s.setDriveFramer x).lc = s.lc := rfl
@[simp] theorem setDriveFramer_fsu (s : State) (x : DriveFramer) : (s.setDriveFramer x).fsu = s.fsu := rfl
@[simp] theorem setDriveFramer_nvs (s : State) (x : DriveFramer) : (s.setDriveFramer x).nvs = s.nvs := rfl
@[simp] theorem setDriveFramer_site (s : State) (x : DriveFramer) : (s.setDriveFramer x).site = s.site := rfl
@[simp] theorem setDriveFramer_siteLoaded (s : State) (x : DriveFramer) : (s.setDriveFramer x).siteLoaded = s.siteLoaded := rfl
@[simp] theorem setDriveFramer_siteSetTaken (s : State) (x : DriveFramer) : (s.setDriveFramer x).siteSetTaken = s.siteSetTaken := rfl
@[simp] theorem setDriveFramer_profiles (s : State) (x : DriveFramer) : (s.setDriveFramer x).profiles = s.profiles := rfl
@[simp] theorem setDriveFramer_freeCount (s : State) (x : DriveFramer) : (s.setDriveFramer x).freeCount = s.freeCount := rfl
@[simp] theorem setDriveFramer_pending (s : State) (x : DriveFramer) : (s.setDriveFramer x).pending = s.pending := rfl

@[simp] theorem setLevel_phase (s : State) (i : Input) (b : Bool) : (s.setLevel i b).phase = s.phase := rfl
@[simp] theorem setLevel_pins (s : State) (i : Input) (b : Bool) : (s.setLevel i b).pins = s.pins := rfl
@[simp] theorem setLevel_clp (s : State) (i : Input) (b : Bool) : (s.setLevel i b).clp = s.clp := rfl
@[simp] theorem setLevel_tiers (s : State) (i : Input) (b : Bool) : (s.setLevel i b).tiers = s.tiers := rfl
@[simp] theorem setLevel_fm (s : State) (i : Input) (b : Bool) : (s.setLevel i b).fm = s.fm := rfl
@[simp] theorem setLevel_aa (s : State) (i : Input) (b : Bool) : (s.setLevel i b).aa = s.aa := rfl
@[simp] theorem setLevel_cu (s : State) (i : Input) (b : Bool) : (s.setLevel i b).cu = s.cu := rfl
@[simp] theorem setLevel_lc (s : State) (i : Input) (b : Bool) : (s.setLevel i b).lc = s.lc := rfl
@[simp] theorem setLevel_dlp (s : State) (i : Input) (b : Bool) : (s.setLevel i b).dlp = s.dlp := rfl
@[simp] theorem setLevel_fsu (s : State) (i : Input) (b : Bool) : (s.setLevel i b).fsu = s.fsu := rfl
@[simp] theorem setLevel_nvs (s : State) (i : Input) (b : Bool) : (s.setLevel i b).nvs = s.nvs := rfl
@[simp] theorem setLevel_site (s : State) (i : Input) (b : Bool) : (s.setLevel i b).site = s.site := rfl
@[simp] theorem setLevel_siteLoaded (s : State) (i : Input) (b : Bool) : (s.setLevel i b).siteLoaded = s.siteLoaded := rfl
@[simp] theorem setLevel_siteSetTaken (s : State) (i : Input) (b : Bool) : (s.setLevel i b).siteSetTaken = s.siteSetTaken := rfl
@[simp] theorem setLevel_profiles (s : State) (i : Input) (b : Bool) : (s.setLevel i b).profiles = s.profiles := rfl
@[simp] theorem setLevel_freeCount (s : State) (i : Input) (b : Bool) : (s.setLevel i b).freeCount = s.freeCount := rfl
@[simp] theorem setLevel_pending (s : State) (i : Input) (b : Bool) : (s.setLevel i b).pending = s.pending := rfl

@[simp] theorem setTripPin_phase (s : State) (i : Input) (b : Bool) : (s.setTripPin i b).phase = s.phase := rfl
@[simp] theorem setTripPin_clp (s : State) (i : Input) (b : Bool) : (s.setTripPin i b).clp = s.clp := rfl
@[simp] theorem setTripPin_tiers (s : State) (i : Input) (b : Bool) : (s.setTripPin i b).tiers = s.tiers := rfl
@[simp] theorem setTripPin_fm (s : State) (i : Input) (b : Bool) : (s.setTripPin i b).fm = s.fm := rfl
@[simp] theorem setTripPin_zu (s : State) (i : Input) (b : Bool) : (s.setTripPin i b).zu = s.zu := rfl
@[simp] theorem setTripPin_aa (s : State) (i : Input) (b : Bool) : (s.setTripPin i b).aa = s.aa := rfl
@[simp] theorem setTripPin_cu (s : State) (i : Input) (b : Bool) : (s.setTripPin i b).cu = s.cu := rfl
@[simp] theorem setTripPin_lc (s : State) (i : Input) (b : Bool) : (s.setTripPin i b).lc = s.lc := rfl
@[simp] theorem setTripPin_dlp (s : State) (i : Input) (b : Bool) : (s.setTripPin i b).dlp = s.dlp := rfl
@[simp] theorem setTripPin_fsu (s : State) (i : Input) (b : Bool) : (s.setTripPin i b).fsu = s.fsu := rfl
@[simp] theorem setTripPin_nvs (s : State) (i : Input) (b : Bool) : (s.setTripPin i b).nvs = s.nvs := rfl
@[simp] theorem setTripPin_site (s : State) (i : Input) (b : Bool) : (s.setTripPin i b).site = s.site := rfl
@[simp] theorem setTripPin_siteLoaded (s : State) (i : Input) (b : Bool) : (s.setTripPin i b).siteLoaded = s.siteLoaded := rfl
@[simp] theorem setTripPin_siteSetTaken (s : State) (i : Input) (b : Bool) : (s.setTripPin i b).siteSetTaken = s.siteSetTaken := rfl
@[simp] theorem setTripPin_profiles (s : State) (i : Input) (b : Bool) : (s.setTripPin i b).profiles = s.profiles := rfl
@[simp] theorem setTripPin_freeCount (s : State) (i : Input) (b : Bool) : (s.setTripPin i b).freeCount = s.freeCount := rfl
@[simp] theorem setTripPin_pending (s : State) (i : Input) (b : Bool) : (s.setTripPin i b).pending = s.pending := rfl

@[simp] theorem setKey_phase (s : State) (b : Bool) : (s.setKey b).phase = s.phase := rfl
@[simp] theorem setKey_pins (s : State) (b : Bool) : (s.setKey b).pins = s.pins := rfl
@[simp] theorem setKey_clp (s : State) (b : Bool) : (s.setKey b).clp = s.clp := rfl
@[simp] theorem setKey_tiers (s : State) (b : Bool) : (s.setKey b).tiers = s.tiers := rfl
@[simp] theorem setKey_fm (s : State) (b : Bool) : (s.setKey b).fm = s.fm := rfl
@[simp] theorem setKey_zu (s : State) (b : Bool) : (s.setKey b).zu = s.zu := rfl
@[simp] theorem setKey_aa (s : State) (b : Bool) : (s.setKey b).aa = s.aa := rfl
@[simp] theorem setKey_cu (s : State) (b : Bool) : (s.setKey b).cu = s.cu := rfl
@[simp] theorem setKey_lc (s : State) (b : Bool) : (s.setKey b).lc = s.lc := rfl
@[simp] theorem setKey_dlp (s : State) (b : Bool) : (s.setKey b).dlp = s.dlp := rfl
@[simp] theorem setKey_nvs (s : State) (b : Bool) : (s.setKey b).nvs = s.nvs := rfl
@[simp] theorem setKey_site (s : State) (b : Bool) : (s.setKey b).site = s.site := rfl
@[simp] theorem setKey_siteLoaded (s : State) (b : Bool) : (s.setKey b).siteLoaded = s.siteLoaded := rfl
@[simp] theorem setKey_siteSetTaken (s : State) (b : Bool) : (s.setKey b).siteSetTaken = s.siteSetTaken := rfl
@[simp] theorem setKey_profiles (s : State) (b : Bool) : (s.setKey b).profiles = s.profiles := rfl
@[simp] theorem setKey_freeCount (s : State) (b : Bool) : (s.setKey b).freeCount = s.freeCount := rfl
@[simp] theorem setKey_pending (s : State) (b : Bool) : (s.setKey b).pending = s.pending := rfl

@[simp] theorem setKeyPin_phase (s : State) (b : Bool) : (s.setKeyPin b).phase = s.phase := rfl
@[simp] theorem setKeyPin_clp (s : State) (b : Bool) : (s.setKeyPin b).clp = s.clp := rfl
@[simp] theorem setKeyPin_tiers (s : State) (b : Bool) : (s.setKeyPin b).tiers = s.tiers := rfl
@[simp] theorem setKeyPin_fm (s : State) (b : Bool) : (s.setKeyPin b).fm = s.fm := rfl
@[simp] theorem setKeyPin_zu (s : State) (b : Bool) : (s.setKeyPin b).zu = s.zu := rfl
@[simp] theorem setKeyPin_aa (s : State) (b : Bool) : (s.setKeyPin b).aa = s.aa := rfl
@[simp] theorem setKeyPin_cu (s : State) (b : Bool) : (s.setKeyPin b).cu = s.cu := rfl
@[simp] theorem setKeyPin_lc (s : State) (b : Bool) : (s.setKeyPin b).lc = s.lc := rfl
@[simp] theorem setKeyPin_dlp (s : State) (b : Bool) : (s.setKeyPin b).dlp = s.dlp := rfl
@[simp] theorem setKeyPin_fsu (s : State) (b : Bool) : (s.setKeyPin b).fsu = s.fsu := rfl
@[simp] theorem setKeyPin_nvs (s : State) (b : Bool) : (s.setKeyPin b).nvs = s.nvs := rfl
@[simp] theorem setKeyPin_site (s : State) (b : Bool) : (s.setKeyPin b).site = s.site := rfl
@[simp] theorem setKeyPin_siteLoaded (s : State) (b : Bool) : (s.setKeyPin b).siteLoaded = s.siteLoaded := rfl
@[simp] theorem setKeyPin_siteSetTaken (s : State) (b : Bool) : (s.setKeyPin b).siteSetTaken = s.siteSetTaken := rfl
@[simp] theorem setKeyPin_profiles (s : State) (b : Bool) : (s.setKeyPin b).profiles = s.profiles := rfl
@[simp] theorem setKeyPin_freeCount (s : State) (b : Bool) : (s.setKeyPin b).freeCount = s.freeCount := rfl
@[simp] theorem setKeyPin_pending (s : State) (b : Bool) : (s.setKeyPin b).pending = s.pending := rfl

/-! ### What an update sets -/

@[simp] theorem modFloor_fm (s : State) (f : Floor → Floor) : (s.modFloor f).fm = f s.fm := rfl
@[simp] theorem modPort_clp (s : State) (f : LinkPort → LinkPort) : (s.modPort f).clp = f s.clp := rfl
@[simp] theorem withPending_pending (s : State) (q : List Instr) : (s.withPending q).pending = q := rfl
@[simp] theorem trigger_queue (s : State) : s.trigger.aa.queue = s.aa.queue := rfl
@[simp] theorem trigger_grants (s : State) : s.trigger.aa.grants = s.aa.grants := rfl
@[simp] theorem trigger_budget (s : State) : s.trigger.aa.budget = s.aa.budget := rfl
@[simp] theorem trigger_scansDue (s : State) : s.trigger.aa.scansDue = s.aa.scansDue + 1 := rfl
@[simp] theorem setKey_key (s : State) (b : Bool) : (s.setKey b).fsu.key = b := rfl
@[simp] theorem setKey_showLock (s : State) (b : Bool) : (s.setKey b).fsu.showLock = s.fsu.showLock := rfl
@[simp] theorem modStore_store (s : State) (f : Store → Store) : (s.modStore f).nvs.store = f s.nvs.store := rfl
@[simp] theorem beginStore_op (s : State) (o : StoreOp) : (s.beginStore o).nvs.op = some o := rfl
@[simp] theorem modLink_txList (s : State) (t : Tier) (f : LinkRec → LinkRec) :
    (s.modLink t f).dlp.txList = s.dlp.txList := rfl
@[simp] theorem modLink_framer (s : State) (t : Tier) (f : LinkRec → LinkRec) :
    (s.modLink t f).dlp.framer = s.dlp.framer := rfl

theorem vector_get_set_self {α : Type} {n : Nat} (v : Vector α n) (t : Fin n) (x : α) : (v.set t x).get t = x := by
  simp [Vector.get_eq_getElem]

theorem vector_get_set_ne {α : Type} {n : Nat} (v : Vector α n) {t u : Fin n} (h : u ≠ t) (x : α) :
    (v.set t x).get u = v.get u := by
  have h' : t.val ≠ u.val := fun e => h (Fin.ext e.symm)
  simp [Vector.get_eq_getElem, Vector.getElem_set_ne, h']

/-- The tier a change names has the changed record. -/
@[simp] theorem modTier_tier (s : State) (t : Tier) (f : TierRec → TierRec) : (s.modTier t f).tier t = f (s.tier t) :=
  vector_get_set_self _ _ _

/-- Every other tier keeps its record. -/
theorem modTier_tier_ne (s : State) {t u : Tier} (h : u ≠ t) (f : TierRec → TierRec) :
    (s.modTier t f).tier u = s.tier u := vector_get_set_ne _ h _

/-- The link record a change names has changed. -/
@[simp] theorem modLink_link (s : State) (t : Tier) (f : LinkRec → LinkRec) : (s.modLink t f).link t = f (s.link t) :=
  vector_get_set_self _ _ _

/-- Every other link record is kept. -/
theorem modLink_link_ne (s : State) {t u : Tier} (h : u ≠ t) (f : LinkRec → LinkRec) :
    (s.modLink t f).link u = s.link u := vector_get_set_ne _ h _

@[simp] theorem modLink_tier (s : State) (t u : Tier) (f : LinkRec → LinkRec) : (s.modLink t f).tier u = s.tier u := rfl
@[simp] theorem modTier_link (s : State) (t u : Tier) (f : TierRec → TierRec) : (s.modTier t f).link u = s.link u := rfl
@[simp] theorem trigger_tier (s : State) (u : Tier) : s.trigger.tier u = s.tier u := rfl
@[simp] theorem trigger_link (s : State) (u : Tier) : s.trigger.link u = s.link u := rfl

/-! ### Reports (R182) -/

@[simp] theorem report_phase (s : State) (r : Report) : (s.report r).phase = s.phase := by
  unfold State.report; split <;> rfl
@[simp] theorem report_pins (s : State) (r : Report) : (s.report r).pins = s.pins := by
  unfold State.report; split <;> rfl
@[simp] theorem report_tiers (s : State) (r : Report) : (s.report r).tiers = s.tiers := by
  unfold State.report; split <;> rfl
@[simp] theorem report_fm (s : State) (r : Report) : (s.report r).fm = s.fm := by
  unfold State.report; split <;> rfl
@[simp] theorem report_zu (s : State) (r : Report) : (s.report r).zu = s.zu := by
  unfold State.report; split <;> rfl
@[simp] theorem report_aa (s : State) (r : Report) : (s.report r).aa = s.aa := by
  unfold State.report; split <;> rfl
@[simp] theorem report_cu (s : State) (r : Report) : (s.report r).cu = s.cu := by
  unfold State.report; split <;> rfl
@[simp] theorem report_lc (s : State) (r : Report) : (s.report r).lc = s.lc := by
  unfold State.report; split <;> rfl
@[simp] theorem report_dlp (s : State) (r : Report) : (s.report r).dlp = s.dlp := by
  unfold State.report; split <;> rfl
@[simp] theorem report_fsu (s : State) (r : Report) : (s.report r).fsu = s.fsu := by
  unfold State.report; split <;> rfl
@[simp] theorem report_nvs (s : State) (r : Report) : (s.report r).nvs = s.nvs := by
  unfold State.report; split <;> rfl
@[simp] theorem report_site (s : State) (r : Report) : (s.report r).site = s.site := by
  unfold State.report; split <;> rfl
@[simp] theorem report_siteLoaded (s : State) (r : Report) : (s.report r).siteLoaded = s.siteLoaded := by
  unfold State.report; split <;> rfl
@[simp] theorem report_siteSetTaken (s : State) (r : Report) : (s.report r).siteSetTaken = s.siteSetTaken := by
  unfold State.report; split <;> rfl
@[simp] theorem report_profiles (s : State) (r : Report) : (s.report r).profiles = s.profiles := by
  unfold State.report; split <;> rfl
@[simp] theorem report_freeCount (s : State) (r : Report) : (s.report r).freeCount = s.freeCount := by
  unfold State.report; split <;> rfl
@[simp] theorem report_pending (s : State) (r : Report) : (s.report r).pending = s.pending := by
  unfold State.report; split <;> rfl
@[simp] theorem report_framer (s : State) (r : Report) : (s.report r).clp.framer = s.clp.framer := by
  unfold State.report; split <;> rfl
@[simp] theorem report_hold (s : State) (r : Report) : (s.report r).clp.hold = s.clp.hold := by
  unfold State.report; split <;> rfl
@[simp] theorem report_rxOverrun (s : State) (r : Report) : (s.report r).clp.rxOverrun = s.clp.rxOverrun := by
  unfold State.report; split <;> rfl
@[simp] theorem report_replies (s : State) (r : Report) : (s.report r).clp.replies = s.clp.replies := by
  unfold State.report; split <;> rfl
@[simp] theorem report_tx (s : State) (r : Report) : (s.report r).clp.tx = s.clp.tx := by
  unfold State.report; split <;> rfl
@[simp] theorem report_restart (s : State) (r : Report) : (s.report r).clp.restart = s.clp.restart := by
  unfold State.report; split <;> rfl
@[simp] theorem report_tier (s : State) (r : Report) (t : Tier) : (s.report r).tier t = s.tier t := by
  unfold State.report; split <;> rfl
@[simp] theorem report_link (s : State) (r : Report) (t : Tier) : (s.report r).link t = s.link t := by
  unfold State.report; split <;> rfl

/-- A report joins the tail while the queue holds fewer than 32. -/
theorem report_of_room {s : State} (h : s.clp.reports.length < 32) (r : Report) :
    s.report r = { s with clp := { s.clp with reports := s.clp.reports ++ [r] } } := by
  unfold State.report; simp [h]

/-- A report that finds the queue full is lost, and the overrun flag says so. -/
theorem report_of_full {s : State} (h : 32 ≤ s.clp.reports.length) (r : Report) :
    s.report r = { s with clp := { s.clp with reportOverrun := true } } := by
  unfold State.report; simp [Nat.not_lt.mpr h]

/-- The report queue never outgrows 32. -/
theorem report_fits (s : State) (r : Report) :
    decide ((s.report r).clp.reports.length ≤ 32) = decide (s.clp.reports.length ≤ 32) := by
  unfold State.report; split
  · simp; omega
  · rfl

end Sys2Proof.Machine
end

