-- ==== Sys2Proof/Laws/Rest.lean ====
section
/-! SUPPORT. What the blocks of the hall leave alone. `State.rest` is everything but the tier records (their brake-weak
restrictions excepted), the map, the arbiter, the conversion, the load unit, the drive links, the report queue, the fault
and fail-safe state and the count of free values. One lemma per operation says that it keeps `rest`; a claim about the
reply list, the locks, the show-lock set, the settings or the store rests on these. -/

namespace Sys2Proof.Machine

/-- The part of the state that the operations of the hall leave alone. -/
structure Rest where
  phase : Phase
  pins : Pins
  framer : Framer
  hold : List Frame
  rxOverrun : Bool
  replies : List Reply
  tx : LinkTx
  restart : Restart
  reportsFit : Bool
  site : Site
  siteLoaded : Bool
  siteSetTaken : Bool
  profiles : Vector Profile 12
  nvs : Nvs
  zu : ZoneUnit
  showLock : TierSet
  profilesLocked : Bool
  zonesLocked : Bool
  layoutsLocked : Bool
  key : Bool
  watchdog : WatchdogTimer
  weak : Vector Bool 12
  pending : List Instr

/-- What the operations of the hall leave alone. -/
def State.rest (s : State) : Rest where
  phase := s.phase
  pins := s.pins
  framer := s.clp.framer
  hold := s.clp.hold
  rxOverrun := s.clp.rxOverrun
  replies := s.clp.replies
  tx := s.clp.tx
  restart := s.clp.restart
  reportsFit := decide (s.clp.reports.length ≤ 32)
  site := s.site
  siteLoaded := s.siteLoaded
  siteSetTaken := s.siteSetTaken
  profiles := s.profiles
  nvs := s.nvs
  zu := s.zu
  showLock := s.fsu.showLock
  profilesLocked := s.fsu.profilesLocked
  zonesLocked := s.fsu.zonesLocked
  layoutsLocked := s.fsu.layoutsLocked
  key := s.fsu.key
  watchdog := s.fsu.watchdog
  weak := s.tiers.map TierRec.brakeWeak
  pending := s.pending

theorem vector_map_set_self {α β : Type} {n : Nat} (v : Vector α n) (g : α → β) (t : Fin n) (x : α)
    (h : g x = g (v.get t)) : (v.set t x).map g = v.map g := by
  ext i hi
  simp only [Vector.getElem_map, Vector.getElem_set]
  split
  · rename_i e; subst e; exact h
  · rfl

/-- A change of a tier's record that keeps brake-weak. -/
@[simp] theorem modTier_rest (s : State) (t : Tier) (f : TierRec → TierRec) (h : ∀ r, (f r).brakeWeak = r.brakeWeak) :
    (s.modTier t f).rest = s.rest := by
  have := vector_map_set_self s.tiers TierRec.brakeWeak t (f (s.tiers.get t)) (h _)
  simp only [State.rest, State.modTier]
  congr 1

@[simp] theorem modLink_rest (s : State) (t : Tier) (f : LinkRec → LinkRec) : (s.modLink t f).rest = s.rest := rfl
@[simp] theorem trigger_rest (s : State) : s.trigger.rest = s.rest := rfl
@[simp] theorem useFree_rest (s : State) : s.useFree.rest = s.rest := rfl
@[simp] theorem modFloor_rest (s : State) (f : Floor → Floor) : (s.modFloor f).rest = s.rest := rfl

@[simp] theorem report_rest (s : State) (r : Report) : (s.report r).rest = s.rest := by
  simp only [State.rest, report_fits]
  simp

theorem foldl_rest {α : Type} (f : State → α → State) (h : ∀ s a, (f s a).rest = s.rest) (l : List α) (s : State) :
    (l.foldl f s).rest = s.rest := by
  induction l generalizing s with
  | nil => rfl
  | cons a l ih => simp [ih, h]

theorem foldl_fst_rest {α β : Type} (f : State × β → α → State × β) (h : ∀ x a, (f x a).1.rest = x.1.rest) (l : List α)
    (x : State × β) : (l.foldl f x).1.rest = x.1.rest := by
  induction l generalizing x with
  | nil => rfl
  | cons a l ih => simp [ih, h]

@[simp] theorem triggerIf_rest (s : State) (b : Bool) : (s.triggerIf b).rest = s.rest := by
  cases b <;> rfl

@[simp] theorem reportAll_rest (s : State) (rs : List Report) : (s.reportAll rs).rest = s.rest :=
  foldl_rest _ (fun s r => report_rest s r) _ _

@[simp] theorem modMoves_rest (s : State) (ts : List Tier) (f : MoveRec → MoveRec) : (s.modMoves ts f).rest = s.rest := foldl_rest _ (fun s a => by simp) _ _

@[simp] theorem modTiers_rest (s : State) (ts : List Tier) (f : TierRec → TierRec) (h : ∀ r, (f r).brakeWeak = r.brakeWeak) :
    (s.modTiers ts f).rest = s.rest := foldl_rest _ (fun s a => modTier_rest s a f h) _ _

@[simp] theorem brakeMove_rest (s : State) (m : MoveRec) : (s.brakeMove m).rest = s.rest := by
  simp [State.brakeMove]

/-! ### Queue.lean -/

@[simp] theorem convReport_rest (s : State) (ev : ConvEvent) (who : Option (Tier × Code)) : (s.convReport ev who).rest = s.rest := by
  simp [State.convReport]

@[simp] theorem setConvTier_rest (s : State) (t : Tier) (c : ConvTier) : (s.setConvTier t c).rest = s.rest := rfl

@[simp] theorem countDone_rest (s : State) (t : Tier) : (s.countDone t).rest = s.rest := rfl

@[simp] theorem countDropped_rest (s : State) (t : Tier) : (s.countDropped t).rest = s.rest := rfl

@[simp] theorem setConvState_rest (s : State) (c : ConvState) : (s.setConvState c).rest = s.rest := rfl

@[simp] theorem convCheck_rest (s : State) : (s.convCheck).rest = s.rest := by
  unfold State.convCheck
  (repeat' split) <;> simp

@[simp] theorem convDropWith_rest (s : State) (t : Tier) (c : Code) : (s.convDropWith t c).rest = s.rest := by
  simp [State.convDropWith]

@[simp] theorem convEntryRemoved_rest (s : State) (t : Tier) : (s.convEntryRemoved t).rest = s.rest := by
  unfold State.convEntryRemoved
  split <;> simp

@[simp] theorem convMoveEnd_rest (s : State) (t : Tier) (r : MoveReason) : (s.convMoveEnd t r).rest = s.rest := by
  unfold State.convMoveEnd
  split
  · split <;> simp
  · rfl

@[simp] theorem convAdmitted_rest (s : State) (t : Tier) : (s.convAdmitted t).rest = s.rest := by
  unfold State.convAdmitted
  dsimp only
  (repeat' split) <;> simp

@[simp] theorem modWalk_rest (s : State) (t : Tier) (f : WalkRec → WalkRec) : (s.modWalk t f).rest = s.rest := by
  simp [State.modWalk]

@[simp] theorem walkEnd_rest (s : State) (t : Tier) (c : Code) : (s.walkEnd t c).rest = s.rest := by
  simp [State.walkEnd]

@[simp] theorem walkEntryRemoved_rest (s : State) (t : Tier) (c : Code) : (s.walkEntryRemoved t c).rest = s.rest := by
  unfold State.walkEntryRemoved
  dsimp only
  split <;> simp

@[simp] theorem enqueue_rest (s : State) (e : Entry) : (s.enqueue e).rest = s.rest := rfl

@[simp] theorem placeLeg_rest (s : State) (t : Tier) : (s.placeLeg t).rest = s.rest := by
  unfold State.placeLeg
  (repeat' split) <;> simp

@[simp] theorem walkMoveEnd_rest (s : State) (t : Tier) (r : MoveReason) : (s.walkMoveEnd t r).rest = s.rest := by
  unfold State.walkMoveEnd
  dsimp only
  (repeat' split) <;> simp

@[simp] theorem dequeued_rest (s : State) (q : List Entry) :
    ({ s with aa := { s.aa with queue := q } } : State).rest = s.rest := rfl

@[simp] theorem dropEntry_rest (s : State) (e : Entry) (c : Code) : (s.dropEntry e c).rest = s.rest := by
  unfold State.dropEntry
  split <;> simp

@[simp] theorem removeEntry_rest (s : State) (e : Entry) (c : Code) : (s.removeEntry e c).rest = s.rest := by
  simp [State.removeEntry]

@[simp] theorem removeEntryOf_rest (s : State) (t : Tier) (c : Code) : (s.removeEntryOf t c).rest = s.rest := by
  unfold State.removeEntryOf
  split <;> simp

@[simp] theorem freeGrant_rest (s : State) (t : Tier) : (s.freeGrant t).rest = s.rest := by
  unfold State.freeGrant
  split <;> rfl

@[simp] theorem moveEnd_rest (s : State) (t : Tier) (m : MoveRec) (r : MoveReason) : (s.moveEnd t m r).rest = s.rest := by
  unfold State.moveEnd
  dsimp only
  split <;> simp

/-! ### Tac.lean -/

@[simp] theorem enter_rest (s : State) (t : Tier) (x : TierState) : (s.enter t x).rest = s.rest := by
  simp [State.enter]

@[simp] theorem enterReleasing_rest (s : State) (t : Tier) : (s.enterReleasing t).rest = s.rest := by
  simp [State.enterReleasing]

@[simp] theorem enterSecuring_rest (s : State) (t : Tier) : (s.enterSecuring t).rest = s.rest := by
  simp [State.enterSecuring]

@[simp] theorem enterReady_rest (s : State) (t : Tier) : (s.enterReady t).rest = s.rest := by
  simp [State.enterReady]

@[simp] theorem tryRelease_rest (s : State) (t : Tier) : (s.tryRelease t).2.rest = s.rest := by
  unfold State.tryRelease
  (repeat' split) <;> simp

@[simp] theorem convSecured_rest (s : State) (t : Tier) : (s.convSecured t).rest = s.rest := by
  unfold State.convSecured
  dsimp only
  split
  · have h := tryRelease_rest (s.setConvTier t { s.convTier t with releaseWanted := false }) t
    split
    · rename_i s' e; rw [e] at h; simpa using h
    · rename_i e; rw [e] at h; split <;> simpa using h
  · rfl

@[simp] theorem enterSecured_rest (s : State) (t : Tier) : (s.enterSecured t).rest = s.rest := by
  simp [State.enterSecured]

@[simp] theorem settleExpire_rest (s : State) (t : Tier) : (s.settleExpire t).rest = s.rest := by
  unfold State.settleExpire
  dsimp only
  split <;> simp

@[simp] theorem enterSettling_rest (s : State) (t : Tier) : (s.enterSettling t).rest = s.rest := by
  unfold State.enterSettling
  dsimp only
  split <;> simp

@[simp] theorem latch_rest (s : State) (t : Tier) (k : FaultKind) : (s.latch t k).rest = s.rest := by
  unfold State.latch
  dsimp only
  split <;> simp

@[simp] theorem abortTest_rest (s : State) (t : Tier) : (s.abortTest t).rest = s.rest := by
  simp [State.abortTest]

@[simp] theorem faultReaction_rest (s : State) (t : Tier) : (s.faultReaction t).rest = s.rest := by
  unfold State.faultReaction
  dsimp only
  simp only [enter_rest, modTier_rest, removeEntryOf_rest, freeGrant_rest, implies_true]
  (repeat' split) <;> simp

@[simp] theorem raiseFault_rest (s : State) (t : Tier) (k : FaultKind) : (s.raiseFault t k).rest = s.rest := by
  unfold State.raiseFault
  split
  · rfl
  · simp
  · dsimp only
    rw [foldl_rest _ (fun s a => faultReaction_rest s a), foldl_rest _ (fun s a => latch_rest s a k)]

@[simp] theorem trimAll_rest (s : State) (ts : List Tier) : (s.trimAll ts).1.rest = s.rest := by
  unfold State.trimAll
  (repeat' split) <;> first | rfl | (dsimp only; split <;> rfl)

@[simp] theorem leaveMove_rest (s : State) (auto : Bool) (after : AfterMove) (failed : List Tier) (t : Tier) : (s.leaveMove auto after failed t).rest = s.rest := by
  unfold State.leaveMove
  dsimp only
  (repeat' split) <;> simp

@[simp] theorem endMove_rest (s : State) (m : MoveRec) (reason : MoveReason) (after : AfterMove) : (s.endMove m reason after).rest = s.rest := by
  unfold State.endMove
  dsimp only
  rw [foldl_rest _ (fun s a => leaveMove_rest s _ _ _ a), foldl_rest _ (fun s a => moveEnd_rest s a _ _)]
  simp

@[simp] theorem finishMove_rest (s : State) (t : Tier) : (s.finishMove t).rest = s.rest := by
  unfold State.finishMove
  dsimp only
  (repeat' split) <;> first | rfl | simp | exact foldl_rest _ (fun s a => enter_rest s a _) _ _

@[simp] theorem setStop_rest (s : State) (ts : List Tier) (q : StopReq) : (s.setStop ts q).rest = s.rest := by
  simp [State.setStop]

@[simp] theorem setAuto_rest (s : State) (ts : List Tier) : (s.setAuto ts).rest = s.rest := by
  simp [State.setAuto]

@[simp] theorem controlledHalt_rest (s : State) (t : Tier) (reason : MoveReason) (auto : Bool) : (s.controlledHalt t reason auto).rest = s.rest := by
  unfold State.controlledHalt
  dsimp only
  (repeat' split) <;> simp

@[simp] theorem setSecurePending_rest (s : State) (t : Tier) : (s.setSecurePending t).rest = s.rest := by
  simp [State.setSecurePending]

@[simp] theorem secureQuick_rest (s : State) (t : Tier) : (s.secureQuick t).rest = s.rest := foldl_rest _ (fun s a => enterSecuring_rest s a) _ _

@[simp] theorem safetyStop_rest (s : State) (reason : MoveReason) (test : Bool) (t : Tier) : (s.safetyStop reason test t).rest = s.rest := by
  unfold State.safetyStop
  (repeat' split) <;> simp

theorem eachGang_rest (f : State → Tier → State) (h : ∀ s t, (f s t).rest = s.rest) (ts : List Tier) (s : State) :
    (State.eachGang f ts s).rest = s.rest := by
  unfold State.eachGang
  refine foldl_fst_rest _ (fun x a => ?_) _ _
  split
  · rfl
  · exact h _ _

@[simp] theorem cmdFromActual_rest (s : State) (t : Tier) : (s.cmdFromActual t).rest = s.rest := by
  unfold State.cmdFromActual
  refine modTier_rest _ _ _ (fun r => ?_)
  split <;> rfl

@[simp] theorem leaveTrimmed_rest (s : State) (auto : Bool) (failed : List Tier) (t : Tier) : (s.leaveTrimmed auto failed t).rest = s.rest := by
  unfold State.leaveTrimmed
  dsimp only
  (repeat' split) <;> simp

@[simp] theorem endAtActual_rest (s : State) (m : MoveRec) (report : Bool) : (s.endAtActual m report).rest = s.rest := by
  unfold State.endAtActual
  dsimp only
  rw [foldl_rest _ (fun s a => leaveTrimmed_rest s _ _ a)]
  have h := foldl_rest _ (fun s a => cmdFromActual_rest s a) m.tiers s
  split
  · rw [foldl_rest _ (fun s a => moveEnd_rest s a _ _)]; simp [h]
  · simp [h]

@[simp] theorem quickStop_rest (s : State) (t : Tier) : (s.quickStop t).rest = s.rest := by
  unfold State.quickStop
  dsimp only
  (repeat' split) <;> first | rfl | simp | skip
  rw [foldl_rest _ (fun s a => moveEnd_rest s a _ _)]
  simp

@[simp] theorem standstill_rest (s : State) (t : Tier) : (s.standstill t).rest = s.rest := by
  unfold State.standstill
  dsimp only
  (repeat' split) <;> simp

/-! ### Loads.lean, Admission.lean -/

@[simp] theorem requestSample_rest (s : State) (t : Tier) (a b : Bool) : (s.requestSample t a b).rest = s.rest := by
  unfold State.requestSample
  dsimp only
  (repeat' split) <;> rfl

@[simp] theorem setSample_rest (s : State) (t : Tier) (x : Sample) : (s.setSample t x).rest = s.rest := by
  unfold State.setSample
  exact modTier_rest _ _ _ (fun r => rfl)

@[simp] theorem loadResult_rest (s : State) (t : Tier) : (s.loadResult t).rest = s.rest := rfl

@[simp] theorem nextChannel_rest (s : State) : (s.nextChannel).rest = s.rest := by
  unfold State.nextChannel
  split <;> rfl

@[simp] theorem completeConversion_rest (s : State) (n : Nat) : (s.completeConversion n).rest = s.rest := by
  unfold State.completeConversion
  (repeat' split) <;> simp

@[simp] theorem expireFreshness_rest (s : State) (t : Tier) : (s.expireFreshness t).rest = s.rest := by
  unfold State.expireFreshness
  split <;> rfl

@[simp] theorem grantClaim_rest (s : State) (e : Entry) : (s.grantClaim e).rest = s.rest := by
  unfold State.grantClaim
  split <;> simp

@[simp] theorem startTest_rest (s : State) (t : Tier) : (s.startTest t).rest = s.rest := by
  simp [State.startTest]

@[simp] theorem startMove_rest (s : State) (m : MoveRec) (t : Tier) : (s.startMove m t).rest = s.rest := by
  simp [State.startMove]

@[simp] theorem regranted_rest (s : State) (q : List Entry) (g : List Grant) :
    ({ s with aa := { s.aa with queue := q, grants := g } } : State).rest = s.rest := rfl

@[simp] theorem startEntry_rest (s : State) (e : Entry) (cap : Option Nat) (alloc : Nat) (d : Bool) : (s.startEntry e cap alloc d).rest = s.rest := by
  unfold State.startEntry
  dsimp only
  split
  · simp
  · split
    · simp only [finishMove_rest, convAdmitted_rest]
      rw [foldl_rest _ (fun s a => by simp)]; simp
    · simp only [finishMove_rest]
      rw [foldl_rest _ (fun s a => by simp)]; simp

@[simp] theorem wantSamples_rest (s : State) (e : Entry) (ts : List Tier) : (s.wantSamples e ts).rest = s.rest := by
  unfold State.wantSamples
  dsimp only
  rw [dequeued_rest, foldl_rest _ (fun s a => requestSample_rest s a _ _)]

@[simp] theorem Scan.visit_rest (a : Scan) (t : Tier) : (a.visit t).state.rest = a.state.rest := by
  unfold Scan.visit
  (repeat' split) <;> simp [Scan.leave]

@[simp] theorem raiseBypass_rest (s : State) (ts : List Tier) : (s.raiseBypass ts).rest = s.rest := rfl

@[simp] theorem walkQueue_rest (s : State) : s.walkQueue.state.rest = s.rest := by
  unfold State.walkQueue
  split
  · rfl
  · generalize s.aa.queue.map (·.tier) = l
    suffices h : ∀ a : Scan, (l.foldl Scan.visit a).state.rest = a.state.rest from h _
    induction l with
    | nil => intro a; rfl
    | cons t l ih => intro a; simp [ih]

@[simp] theorem setGrant_rest (s : State) (g x : Grant) : (s.setGrant g x).rest = s.rest := rfl

@[simp] theorem recap_rest (s : State) (g : Grant) (cap alloc : Nat) (d : Bool) : (s.recap g cap alloc d).rest = s.rest := by
  simp [State.recap]

@[simp] theorem restoreGrant_rest (s : State) (g : Grant) : (s.restoreGrant g).rest = s.rest := by
  unfold State.restoreGrant
  dsimp only
  (repeat' split) <;> simp

@[simp] theorem removeGrant_rest (s : State) (g : Grant) : (s.removeGrant g).rest = s.rest := rfl

@[simp] theorem lowerGrant_rest (s : State) (g : Grant) : (s.lowerGrant g).rest = s.rest := by
  unfold State.lowerGrant
  dsimp only
  (repeat' split) <;> simp

@[simp] theorem changeBudget_rest (s : State) (b : Nat) : (s.changeBudget b).rest = s.rest := by
  unfold State.changeBudget
  dsimp only
  rw [trigger_rest]
  split
  · rw [foldl_rest _ (fun s a => lowerGrant_rest s a)]; rfl
  · rw [foldl_rest _ (fun s a => restoreGrant_rest s a)]; rfl

/-! ### Conversion.lean -/

@[simp] theorem setConvEntry_rest (s : State) (t : Tier) (x : ConvEntry) : (s.setConvEntry t x).rest = s.rest := rfl

@[simp] theorem convAtTarget_rest (s : State) (l : Layout) (t : Tier) : (s.convAtTarget l t).rest = s.rest := by
  unfold State.convAtTarget
  dsimp only
  split <;> simp

@[simp] theorem convOffer_rest (s : State) (l : Layout) (t : Tier) : (s.convOffer l t).1.rest = s.rest := by
  unfold State.convOffer
  dsimp only
  split <;> simp

@[simp] theorem convOfferAll_rest (l : Layout) (x : State × Bool) (t : Tier) :
    (State.convOfferAll l x t).1.rest = x.1.rest := by
  unfold State.convOfferAll
  split <;> simp

@[simp] theorem convTake_rest (l : Layout) (s : State) (t : Tier) : (State.convTake l s t).rest = s.rest := by
  unfold State.convTake
  split
  · simp
  · dsimp only
    split
    · have h := tryRelease_rest (s.setConvTier t ⟨.waiting, .none, decide ((s.tier t).state = .securing)⟩) t
      split
      · rename_i e; rw [e] at h; simpa using h
      · rename_i e; rw [e] at h; simpa using h
    · simp

@[simp] theorem newConversion_rest (s : State) (c : Conv) : ({ s with cu := c } : State).rest = s.rest := rfl

@[simp] theorem startConversion_rest (s : State) (n : Fin 16) (l : Layout) : (s.startConversion n l).rest = s.rest := by
  unfold State.startConversion
  dsimp only
  rw [convCheck_rest, foldl_fst_rest _ (fun x a => convOfferAll_rest l x a), foldl_rest _ (fun s a => convTake_rest l s a)]
  rfl

@[simp] theorem convPlace_rest (l : Layout) (x : State × Bool × Bool) (t : Tier) :
    (State.convPlace l x t).1.rest = x.1.rest := by
  unfold State.convPlace
  (repeat' split) <;> simp

@[simp] theorem convScanEnd_rest (s : State) (a : Bool) : (s.convScanEnd a).rest = s.rest := by
  unfold State.convScanEnd
  split
  · dsimp only
    split
    · simp only [convReport_rest, setConvState_rest, convCheck_rest]
      exact foldl_fst_rest _ (fun x a => convPlace_rest _ x a) _ _
    · rw [convCheck_rest]
      exact foldl_fst_rest _ (fun x a => convPlace_rest _ x a) _ _
  · rw [convCheck_rest]
    exact foldl_fst_rest _ (fun x a => convPlace_rest _ x a) _ _
  · rfl

@[simp] theorem scan_rest (s : State) : (s.scan).rest = s.rest := by simp [State.scan]

@[simp] theorem convDiscard_rest (s : State) (t : Tier) : (s.convDiscard t).rest = s.rest := by
  unfold State.convDiscard
  dsimp only
  split <;> simp

@[simp] theorem abortConversion_rest (s : State) : (s.abortConversion).rest = s.rest := by
  unfold State.abortConversion
  dsimp only
  rw [convCheck_rest, foldl_rest _ (fun s a => controlledHalt_rest s a _ _), foldl_rest _ (fun s a => convDiscard_rest s a),
    foldl_rest _ (fun s a => removeEntry_rest s a _), setConvState_rest]

@[simp] theorem failsafeConversion_rest (s : State) : (s.failsafeConversion).rest = s.rest := by
  unfold State.failsafeConversion
  split
  · rw [convCheck_rest, foldl_rest _ (fun s a => convDiscard_rest s a), setConvState_rest]
  · rw [convCheck_rest, foldl_rest _ (fun s a => convDiscard_rest s a), setConvState_rest]
  · rfl

/-! ### Faults.lean -/

@[simp] theorem failsafe_rest (s : State) (x : Option Cause) :
    ({ s with fsu := { s.fsu with failsafe := x } } : State).rest = s.rest := rfl

@[simp] theorem device_rest (s : State) (x : KindSet) :
    ({ s with fsu := { s.fsu with device := x } } : State).rest = s.rest := rfl

@[simp] theorem raiseDevice_rest (s : State) (k : DeviceFault) : (s.raiseDevice k).rest = s.rest := by
  unfold State.raiseDevice
  split <;> simp

@[simp] theorem clearDevice_rest (s : State) (k : DeviceFault) : (s.clearDevice k).rest = s.rest := by
  unfold State.clearDevice
  split <;> simp

theorem clearPlace_rest {s s' : State} {t : Tier} (h : s.clearPlace t = some s') : s'.rest = s.rest := by
  unfold State.clearPlace at h
  dsimp only at h
  split at h
  · split at h
    · cases h; simp
    · cases h
  · split at h
    · cases h; split <;> simp
    · cases h

@[simp] theorem clearTaken_rest (s : State) (t : Tier) : (s.clearTaken t).rest = s.rest := by
  unfold State.clearTaken
  dsimp only
  split <;> simp

theorem clearTier_rest {s s' : State} {t : Tier} (h : s.clearTier t = some s') : s'.rest = s.rest := by
  unfold State.clearTier at h
  split at h
  · cases h
  · rw [Option.map_eq_some_iff] at h
    obtain ⟨x, hx, rfl⟩ := h
    rw [clearTaken_rest, clearPlace_rest hx]

@[simp] theorem flushQueue_rest (s : State) : (s.flushQueue).rest = s.rest := foldl_rest _ (fun s a => removeEntry_rest s a _) _ _

@[simp] theorem enterFailsafe_rest (s : State) (c : Cause) : (s.enterFailsafe c).rest = s.rest := by
  unfold State.enterFailsafe
  split
  · rfl
  · dsimp only
    split <;> simp [eachGang_rest _ (fun s t => safetyStop_rest s .failsafe true t)]

@[simp] theorem showStop_rest (s : State) (t : Tier) : (s.showStop t).rest = s.rest := by
  simp [State.showStop]

/-! ### DriveLink.lean, Requests.lean, Events.lean -/

@[simp] theorem handRecord_rest (s : State) (r : SetpointRecord) : (s.handRecord r).rest = s.rest := by
  unfold State.handRecord
  split <;> rfl

@[simp] theorem stepMove_rest (s : State) (m : MoveRec) : (s.stepMove m).rest = s.rest := by simp [State.stepMove]

@[simp] theorem interval_rest (s : State) (t : Tier) : (s.interval t).rest = s.rest := by
  unfold State.interval
  split <;> simp

@[simp] theorem recordSent_rest (s : State) : (s.recordSent).rest = s.rest := by
  unfold State.recordSent
  split <;> rfl

@[simp] theorem feedbackExpire_rest (s : State) (t : Tier) : (s.feedbackExpire t).rest = s.rest := by
  unfold State.feedbackExpire
  split <;> simp

@[simp] theorem takePosition_rest (s : State) (f : Feedback) : (s.takePosition f).rest = s.rest := by
  simp [State.takePosition]

@[simp] theorem synchronise_rest (s : State) (f : Feedback) : (s.synchronise f).rest = s.rest := by
  unfold State.synchronise
  dsimp only
  (repeat' split) <;> simp

@[simp] theorem trailingRelease_rest (s : State) (f : Feedback) : (s.trailingRelease f).rest = s.rest := by
  unfold State.trailingRelease
  dsimp only
  (repeat' split) <;> simp

@[simp] theorem followCheck_rest (s : State) (f : Feedback) : (s.followCheck f).rest = s.rest := by
  unfold State.followCheck
  (repeat' split) <;> simp

@[simp] theorem driveFaults_rest (s : State) (f : Feedback) : (s.driveFaults f).rest = s.rest := by
  unfold State.driveFaults
  dsimp only
  rw [modLink_rest]
  refine foldl_rest _ (fun s a => ?_) _ _
  split <;> simp

@[simp] theorem brakeWatch_rest (s : State) (t : Tier) (b : Bool) (n : Nat) : (s.brakeWatch t b n).rest = s.rest := by
  simp [State.brakeWatch]

@[simp] theorem brakeStep_rest (s : State) (f : Feedback) : (s.brakeStep f).rest = s.rest := by
  unfold State.brakeStep
  dsimp only
  (repeat' split) <;> simp

@[simp] theorem linkStep_rest (s : State) (t : Tier) : (s.linkStep t).rest = s.rest := rfl

@[simp] theorem handOn_rest (s : State) (f : Feedback) : (s.handOn f).rest = s.rest := by simp [State.handOn]

@[simp] theorem acceptFeedback_rest (s : State) (f : Feedback) : (s.acceptFeedback f).rest = s.rest := by
  unfold State.acceptFeedback
  dsimp only
  (repeat' split) <;> simp

@[simp] theorem testFeedback_rest (s : State) (f : Feedback) : (s.testFeedback f).rest = s.rest := by
  unfold State.testFeedback
  split <;> simp

@[simp] theorem completeRecord_rest (s : State) (bs : List Byte) : (s.completeRecord bs).rest = s.rest := by
  unfold State.completeRecord
  (repeat' split) <;> simp

@[simp] theorem setDriveFramer_rest (s : State) (x : DriveFramer) : (s.setDriveFramer x).rest = s.rest := rfl

@[simp] theorem driveByte_rest (s : State) (b : Byte) : (s.driveByte b).rest = s.rest := by
  unfold State.driveByte
  (repeat' split) <;> simp

@[simp] theorem driveBytes_rest (s : State) (bs : List Byte) : (s.driveBytes bs).rest = s.rest := foldl_rest _ (fun s a => driveByte_rest s a) _ _

@[simp] theorem secure_rest (s : State) (t : Tier) : (s.secure t).rest = s.rest := by
  unfold State.secure
  dsimp only
  (repeat' split) <;> simp

@[simp] theorem haltWalk_rest (s : State) (t : Tier) : (s.haltWalk t).rest = s.rest := by
  unfold State.haltWalk
  split <;> simp

@[simp] theorem halt_rest (s : State) (t : Tier) : (s.halt t).rest = s.rest := by
  unfold State.halt
  dsimp only
  split <;> simp

@[simp] theorem resumeMove_rest (s : State) (m : MoveRec) : (s.resumeMove m).rest = s.rest := by
  unfold State.resumeMove
  dsimp only
  rw [modTiers_rest _ _ _ (by intro r; rfl), setStop_rest, foldl_rest _ (fun s a => enter_rest s a _)]

@[simp] theorem secureAtOnce_rest (s : State) (t : Tier) : (s.secureAtOnce t).rest = s.rest := by
  unfold State.secureAtOnce
  split <;> simp

@[simp] theorem completeAtOnce_rest (s : State) (l : Option Tier) (a : Bool) (ts : List Tier) : (s.completeAtOnce l a ts).rest = s.rest := by
  unfold State.completeAtOnce
  dsimp only
  split
  · rw [foldl_rest _ (fun s a => secureAtOnce_rest s a), foldl_rest _ (fun s a => report_rest s _)]
  · rw [foldl_rest _ (fun s a => report_rest s _)]

@[simp] theorem takeRetarget_rest (s : State) (t : Tier) (m : MoveRec) (c : ClaimRec) (x : Slew) (r : Nat) (a : Bool) : (s.takeRetarget t m c x r a).rest = s.rest := by simp [State.takeRetarget]

@[simp] theorem offerClear_rest (s : State) (t : Tier) : (s.offerClear t).rest = s.rest := by
  unfold State.offerClear
  split
  · cases h : s.clearTier t with
    | none => rfl
    | some x => simpa using clearTier_rest h
  · rfl

@[simp] theorem brakeExpire_rest (s : State) (t : Tier) : (s.brakeExpire t).rest = s.rest := by
  simp [State.brakeExpire]

@[simp] theorem releaseWaitExpire_rest (s : State) (t : Tier) : (s.releaseWaitExpire t).rest = s.rest := by
  unfold State.releaseWaitExpire
  split <;> simp

@[simp] theorem secureWaitExpire_rest (s : State) (t : Tier) : (s.secureWaitExpire t).rest = s.rest := by
  unfold State.secureWaitExpire
  split <;> simp

@[simp] theorem watchExpire_rest (s : State) (t : Tier) : (s.watchExpire t).rest = s.rest := by
  unfold State.watchExpire
  split <;> simp

@[simp] theorem settleTimeout_rest (s : State) (t : Tier) : (s.settleTimeout t).rest = s.rest := by
  unfold State.settleTimeout
  split <;> simp

@[simp] theorem tripStop_rest (s : State) (i : Input) : (s.tripStop i).rest = s.rest := by
  unfold State.tripStop
  rw [report_rest, eachGang_rest _ (fun s t => quickStop_rest s t)]

@[simp] theorem dueScan_rest (s : State) : (s.dueScan).rest = s.rest := by
  unfold State.dueScan
  split
  · rfl
  · rw [scan_rest]; rfl

@[simp] theorem convTierRemoved_rest (s : State) (t : Tier) : (s.convTierRemoved t).rest = s.rest := by
  unfold State.convTierRemoved
  split <;> simp

end Sys2Proof.Machine
end

