-- ==== Sys2Proof/Laws/Requests.lean ====
section
/-! SUPPORT. What the requests leave alone: those addressed to tiers, to the arbiter, the conversion and the fault records
keep `State.rest` whole; the others change the one part of it that they name. -/

namespace Sys2Proof.Machine

@[simp] theorem refuse_rest (s : State) (c : Code) : (s.refuse c).1.rest = s.rest := rfl
@[simp] theorem accept_fst (s : State) : s.accept.1 = s := rfl
@[simp] theorem accept_code (s : State) : s.accept.2.1 = .ok := rfl
@[simp] theorem accept_data (s : State) : s.accept.2.2 = [] := rfl

theorem withTier_rest (s : State) (b : Byte) (k : Tier → Answer) (h : ∀ t, (k t).1.rest = s.rest) :
    (s.withTier b k).1.rest = s.rest := by
  unfold State.withTier
  split
  · rfl
  · exact h _

theorem withInstalled_rest (s : State) (b : Byte) (k : Tier → Answer) (h : ∀ t, (k t).1.rest = s.rest) :
    (s.withInstalled b k).1.rest = s.rest := by
  refine withTier_rest s b _ fun t => ?_
  split
  · exact h t
  · rfl

/-- An installed tier with a number up to 11 passes the first two checks (R33). -/
theorem withInstalled_of {s : State} {b : Byte} {t : Tier} (h : tierOf b = some t) (hi : s.installed t = true)
    (k : Tier → Answer) : s.withInstalled b k = k t := by
  simp [State.withInstalled, State.withTier, h, hi]

@[simp] theorem serveRelease_rest (s : State) (b : Byte) : (s.serveRelease b).1.rest = s.rest :=
  withInstalled_rest s b _ fun t => tryRelease_rest s t

@[simp] theorem serveSecure_rest (s : State) (b : Byte) : (s.serveSecure b).1.rest = s.rest :=
  withInstalled_rest s b _ fun t => secure_rest s t

@[simp] theorem serveSecureAll_rest (s : State) : s.serveSecureAll.1.rest = s.rest :=
  eachGang_rest _ secure_rest _ _

@[simp] theorem serveHalt_rest (s : State) (b : Byte) : (s.serveHalt b).1.rest = s.rest :=
  withInstalled_rest s b _ fun t => halt_rest s t

@[simp] theorem serveHaltAll_rest (s : State) : s.serveHaltAll.1.rest = s.rest :=
  eachGang_rest _ halt_rest _ _

@[simp] theorem pauseMove_rest (s : State) (t : Tier) (m : MoveRec) : (s.pauseMove t m).1.rest = s.rest := by
  unfold State.pauseMove
  (repeat' split) <;> simp

@[simp] theorem servePause_rest (s : State) (b : Byte) : (s.servePause b).1.rest = s.rest :=
  withInstalled_rest s b _ fun t => by split <;> simp

@[simp] theorem serveResume_rest (s : State) (b : Byte) : (s.serveResume b).1.rest = s.rest :=
  withInstalled_rest s b _ fun t => by (repeat' split) <;> simp

@[simp] theorem offer_rest (s : State) (e : Entry) : (s.offer e).1.rest = s.rest := by
  unfold State.offer
  split <;> simp

@[simp] theorem queueMove_rest (s : State) (t : Tier) (a : MoveArgs) : (s.queueMove t a).1.rest = s.rest := by
  unfold State.queueMove
  split <;> simp

@[simp] theorem retargetMove_rest (s : State) (t : Tier) (m : MoveRec) (a : MoveArgs) :
    (s.retargetMove t m a).1.rest = s.rest := by
  unfold State.retargetMove
  dsimp only
  (repeat' split) <;> simp

@[simp] theorem serveMove_rest (s : State) (b : Byte) (a : MoveArgs) : (s.serveMove b a).1.rest = s.rest := by
  unfold State.serveMove
  split
  · exact withInstalled_rest s b _ fun t => by (repeat' split) <;> simp
  · rfl

@[simp] theorem gangOffer_rest (s : State) (n : Nat) (ts : List Tier) (a : MoveArgs) :
    (s.gangOffer n ts a).1.rest = s.rest := by
  unfold State.gangOffer
  dsimp only
  (repeat' split) <;> simp

@[simp] theorem serveGangMove_rest (s : State) (n t0 t1 t2 t3 : Byte) (a : MoveArgs) :
    (s.serveGangMove n t0 t1 t2 t3 a).1.rest = s.rest := by
  unfold State.serveGangMove
  split <;> simp

@[simp] theorem startWalk_rest (s : State) (t : Tier) (w : WalkRec) : (s.startWalk t w).1.rest = s.rest := by
  unfold State.startWalk
  dsimp only
  (repeat' split) <;> simp

@[simp] theorem serveRoute_rest (s : State) (b st run : Byte) (auto maint : Bool) :
    (s.serveRoute b st run auto maint).1.rest = s.rest :=
  withInstalled_rest s b _ fun t => by (repeat' split) <;> simp

@[simp] theorem serveRoutePut_rest (s : State) (b w : Byte) (x : Option WaypointMsg) :
    (s.serveRoutePut b w x).1.rest = s.rest := by
  unfold State.serveRoutePut
  (repeat' split) <;> simp

@[simp] theorem convertLayout_rest (s : State) (n : Fin 16) (l : Layout) : (s.convertLayout n l).1.rest = s.rest := by
  unfold State.convertLayout
  (repeat' split) <;> simp

@[simp] theorem serveConvert_rest (s : State) (b : Byte) : (s.serveConvert b).1.rest = s.rest := by
  unfold State.serveConvert
  (repeat' split) <;> simp

@[simp] theorem serveConvertAbort_rest (s : State) : s.serveConvertAbort.1.rest = s.rest := by
  unfold State.serveConvertAbort
  split <;> simp

@[simp] theorem serveBudget_rest (s : State) (n : Nat) : (s.serveBudget n).1.rest = s.rest := changeBudget_rest s _

@[simp] theorem serveSample_rest (s : State) (b : Byte) : (s.serveSample b).1.rest = s.rest :=
  withInstalled_rest s b _ fun t => requestSample_rest s t _ _

@[simp] theorem serveTest_rest (s : State) (b : Byte) : (s.serveTest b).1.rest = s.rest :=
  withInstalled_rest s b _ fun t => by (repeat' split) <;> simp

@[simp] theorem serveForce_rest (s : State) : s.serveForce.1.rest = s.rest := enterFailsafe_rest s _

@[simp] theorem serveClearFailsafe_rest (s : State) : s.serveClearFailsafe.1.rest = s.rest := by
  unfold State.serveClearFailsafe
  split
  · rfl
  · simp

@[simp] theorem serveClear_rest (s : State) (b : Byte) : (s.serveClear b).1.rest = s.rest :=
  withInstalled_rest s b _ fun t => by
    split
    · split
      · rename_i h; simpa using clearTier_rest h
      · rfl
    · rfl

@[simp] theorem serveClearAll_rest (s : State) : s.serveClearAll.1.rest = s.rest := by
  unfold State.serveClearAll
  dsimp only
  split
  · rw [foldl_rest _ (fun s t => offerClear_rest s t)]; simp
  · rw [accept_fst, foldl_rest _ (fun s t => offerClear_rest s t)]; simp

/-- A query keeps the whole state, QUERY-STATUS its overrun flags excepted (R63, R96, R99, R161, R183). -/
theorem query_fst (s : State) (b f c : Byte) :
    (s.serveTier b).1 = s ∧ (s.serveMap f c).1 = s ∧ s.serveQueue.1 = s ∧ s.serveGrants.1 = s ∧
      (s.serveGetProfile b).1 = s ∧ (s.serveGetZone b).1 = s ∧ (s.serveRead b).1 = s := by
  refine ⟨?_, ?_, rfl, rfl, ?_, ?_, ?_⟩
  · unfold State.serveTier State.withTier; split <;> rfl
  · unfold State.serveMap; split <;> rfl
  · unfold State.serveGetProfile State.withTier; split <;> rfl
  · unfold State.serveGetZone; split <;> rfl
  · unfold State.serveRead; (repeat' split) <;> rfl

/-! ### Requests that write a part of `rest` -/

@[simp] theorem addShow_rest (s : State) (x : TierSet) :
    (s.addShow x).rest = { s.rest with showLock := s.fsu.showLock ||| x } := by
  unfold State.addShow
  dsimp only
  rw [foldl_rest _ (fun s t => showStop_rest s t)]
  rfl

@[simp] theorem takeProfile_rest (s : State) (t : Tier) (p : ProfileData) :
    (s.takeProfile t p).rest = { s.rest with profiles := s.profiles.set t ⟨true, p⟩ } := by
  simp [State.takeProfile]
  rfl

theorem remark_rest {s s' : State} {t : Tier} {p : ProfileData} (h : s.remark t p = some s') : s'.rest = s.rest := by
  unfold State.remark at h
  dsimp only at h
  split at h
  · cases h; simp
  · cases h

@[simp] theorem takeZone_rest (s : State) (n : Fin 6) (z : ZoneRec) :
    (s.takeZone n z).rest = { s.rest with zu := { s.zu with zones := s.zu.zones.set n z, valid := true } } := by
  simp [State.takeZone]
  rfl

theorem removeTier_rest (s : State) (t : Tier) : (s.removeTier t).rest = s.rest := by
  unfold State.removeTier
  dsimp only
  have h (x : State) (a : LoadUnit) (b : DrivePort) : ({ x with
      tiers := x.tiers.set t (TierRec.reset (x.tier t).brakeWeak), lc := a, dlp := b } : State).rest = x.rest := by
    have := vector_map_set_self x.tiers TierRec.brakeWeak t (TierRec.reset (x.tier t).brakeWeak) rfl
    simp only [State.rest]
    congr 1
  rw [h]
  split <;> simp

theorem addTier_rest (s : State) (t : Tier) : (s.addTier t).rest = s.rest := by
  unfold State.addTier
  rw [report_rest]
  have := vector_map_set_self s.tiers TierRec.brakeWeak t (TierRec.reset (s.tier t).brakeWeak) rfl
  simp only [State.rest]
  congr 1

theorem takeSite_rest (s : State) (x : Site) :
    (s.takeSite x).rest =
      { s.rest with site := x, siteSetTaken := true, watchdog := s.fsu.watchdog.resetFor x.watchdog } := by
  unfold State.takeSite
  dsimp only
  rw [trigger_rest, foldl_rest _ (fun s t => addTier_rest s t)]
  have h (y : State) (w : WatchdogTimer) : ({ y with
      site := x, siteSetTaken := true, fsu := { y.fsu with watchdog := w } } : State).rest =
      { y.rest with site := x, siteSetTaken := true, watchdog := w } := rfl
  have hg := foldl_rest State.removeTier (fun s t => removeTier_rest s t)
    (s.installedTiers.filter fun (t : Tier) => !x.installed.getLsbD t) s
  rw [h, hg]
  have hw := congrArg Rest.watchdog hg
  simp only [State.rest] at hw
  rw [hw]

end Sys2Proof.Machine
end

