-- ==== Sys2Proof/Laws/Link.lean ====
section
/-! SUPPORT. What the command-link port does, said once: what a handled request leaves, that the transmitter goes on at most
once at an event, and the bytes of a frame as the framer takes them. -/

namespace Sys2Proof.Machine

/-- A transmitter that has gone on does not go on again. -/
@[simp] theorem LinkPort.kick_kick (p : LinkPort) : p.kick.kick = p.kick := by
  obtain ⟨fr, hold, ov, rep, tx, rp, ro, rs⟩ := p
  cases tx <;> cases rep <;> cases rp <;> by_cases h : rs = .due <;> simp [LinkPort.kick, h]

@[simp] theorem State.kick_kick (s : State) : s.kick.kick = s.kick := by
  simp [State.kick, State.modPort]

/-- The KIND of a reply that is not UNKNOWN is the request's plus 80h (R180). -/
theorem replyKind_of_ne {k : Byte} {c : Code} (h : c ≠ .unknown) : replyKind k c = k + 0x80 := by
  simp [replyKind, h]

/-- A command that acts while the part runs answers a next state. -/
theorem during_next {s : State} (h : s.phase = .running) (f : State → State) : s.during f = .next (f s).kick := by
  simp [State.during, State.running, h]

/-- A command that acts only while the part runs changes nothing otherwise. -/
theorem during_idle {s : State} (h : s.phase ≠ .running) (f : State → State) : s.during f = .next s := by
  simp [State.during, State.running, h]

/-- A command of the drive link's receiver in start-up: its effect alone (R153). -/
theorem duringDrive_startUp {s : State} (h : s.phase = .startUp) (f : State → State) : s.duringDrive f = .next (f s) := by
  simp [State.duringDrive, h]

/-- Outside start-up it is as every other command. -/
theorem duringDrive_during {s : State} (h : s.phase ≠ .startUp) (f : State → State) : s.duringDrive f = s.during f := by
  simp [State.duringDrive, h]

/-! ### Reports, kept outermost

`State.told s rs` is `s` with the reports `rs` queued. An operation on another part of the state passes under it, so the
reports of an event gather on the outside and its effect stays readable. -/

/-- The state with reports queued, in order, where they find room. -/
def State.told (s : State) (rs : List Report) : State := { s with clp := { s.clp with reports := s.clp.reports ++ rs } }

theorem report_eq_told {s : State} {r : Report} (h : s.Room 1) : s.report r = s.told [r] := by
  have h' : s.clp.reports.length < 32 := by simp only [State.Room] at h; omega
  simp [State.report, State.told, h']

theorem told_report {s : State} {rs : List Report} {r : Report} (h : s.Room (rs.length + 1)) :
    (s.told rs).report r = s.told (rs ++ [r]) := by
  have h' : s.clp.reports.length + rs.length < 32 := by simp only [State.Room] at h; omega
  simp [State.report, State.told, h']

@[simp] theorem told_nil (s : State) : s.told [] = s := by simp [State.told]
@[simp] theorem told_tier (s : State) (rs : List Report) (t : Tier) : (s.told rs).tier t = s.tier t := rfl
@[simp] theorem told_link (s : State) (rs : List Report) (t : Tier) : (s.told rs).link t = s.link t := rfl
@[simp] theorem told_claim (s : State) (rs : List Report) (t : Tier) : (s.told rs).claim t = s.claim t := rfl
@[simp] theorem told_prof (s : State) (rs : List Report) (t : Tier) : (s.told rs).prof t = s.prof t := rfl
@[simp] theorem told_cmdPos (s : State) (rs : List Report) (t : Tier) : (s.told rs).cmdPos t = s.cmdPos t := rfl
@[simp] theorem told_standing (s : State) (rs : List Report) (t : Tier) : (s.told rs).standing t = s.standing t := rfl
@[simp] theorem told_installed (s : State) (rs : List Report) (t : Tier) : (s.told rs).installed t = s.installed t := rfl
@[simp] theorem told_entryOf (s : State) (rs : List Report) (t : Tier) : (s.told rs).entryOf t = s.entryOf t := rfl
@[simp] theorem told_aa (s : State) (rs : List Report) : (s.told rs).aa = s.aa := rfl
@[simp] theorem told_cu (s : State) (rs : List Report) : (s.told rs).cu = s.cu := rfl
@[simp] theorem told_fm (s : State) (rs : List Report) : (s.told rs).fm = s.fm := rfl
@[simp] theorem told_fsu (s : State) (rs : List Report) : (s.told rs).fsu = s.fsu := rfl
@[simp] theorem told_modTier (s : State) (rs : List Report) (t : Tier) (f : TierRec → TierRec) :
    (s.told rs).modTier t f = (s.modTier t f).told rs := rfl
@[simp] theorem told_modLink (s : State) (rs : List Report) (t : Tier) (f : LinkRec → LinkRec) :
    (s.told rs).modLink t f = (s.modLink t f).told rs := rfl
@[simp] theorem told_modFloor (s : State) (rs : List Report) (f : Floor → Floor) :
    (s.told rs).modFloor f = (s.modFloor f).told rs := rfl
@[simp] theorem told_trigger (s : State) (rs : List Report) : (s.told rs).trigger = s.trigger.told rs := rfl
@[simp] theorem told_useFree (s : State) (rs : List Report) : (s.told rs).useFree = s.useFree.told rs := rfl

/-- Everything a request that is handled at once can do: what its block answers, with the reply and the reports it gave queued
and the transmitter gone on. -/
theorem request_next {s s' : State} {tag : Byte} {r : Request} {c : Code} {data : List Byte} {rs : List Report}
    (h : s.Handles) (hs : s.serve r = (s'.told rs, c, data)) (hc : c ≠ .unknown) (hp : s'.clp = s.clp) :
    s.during (fun x => x.request tag r) = .next (s'.replied tag ((requestBytes r).1 + 0x80) c data rs) := by
  obtain ⟨hr, hi, hl⟩ := h
  rw [during_next hr]
  simp [State.request, hi, hl, State.answer, hs, State.kick, State.modPort, LinkPort.push, LinkPort.after, hp,
    replyKind_of_ne hc, State.told, State.replied]

/-- A request refused, or taken with no effect, changes nothing but the reply list. -/
theorem request_same {s : State} {tag : Byte} {r : Request} {c : Code} {data : List Byte}
    (h : s.Handles) (hs : s.serve r = (s, c, data)) (hc : c ≠ .unknown) :
    s.during (fun x => x.request tag r) = .next (s.replied tag ((requestBytes r).1 + 0x80) c data []) :=
  request_next h (by rw [hs, told_nil]) hc rfl

/-- What a command that acts while the part runs and queues reports leaves. -/
theorem during_reported {s s' : State} {f : State → State} {rs : List Report} (h : s.phase = .running)
    (hs : f s = s'.told rs) : s.during f = .next (s'.reported rs) := by
  rw [during_next h, hs]
  simp [State.kick, State.modPort, LinkPort.after, State.told, State.reported]

end Sys2Proof.Machine
end

