-- ==== Sys2Proof/Laws/PerInstr.lean ====
section
/-! SUPPORT. A law made per command: the request row of a frame has the body length that the request catalogue gives its KIND,
and is well formed exactly when its request is. -/

namespace Sys2Proof.Laws

open Machine

/-- The request that a row carries fills a body of its catalogue length, and the row is well formed when the request is. -/
def Framing.Statement (i : Instr) : Prop :=
  ∀ tag r, i.carried = some (tag, r) →
    catalogueLength (requestBytes r).1 = some (requestBytes r).2.length ∧ i.wf = r.wf

/-- A row that carries no request. -/
theorem Framing.of_none {i : Instr} (h : i.carried = none) : Framing.Statement i := by
  intro tag r hr
  rw [h] at hr
  cases hr

/-- A row that carries a request of its catalogue length. -/
theorem Framing.of_some {i : Instr} {tag : Byte} {r : Request} (h : i.carried = some (tag, r))
    (hl : catalogueLength (requestBytes r).1 = some (requestBytes r).2.length) (hw : i.wf = r.wf) : Framing.Statement i := by
  intro tag' r' hr
  rw [h] at hr
  cases hr
  exact ⟨hl, hw⟩

/-- A layout record has 101 bytes. -/
theorem layoutBytes_length (l : Layout) : (layoutBytes l).length = 101 := by
  have h : ∀ e, (layoutEntryBytes e).length = 7 := fun _ => rfl
  have hs : (l.entries.toList.map layoutEntryBytes).map List.length = List.replicate 12 7 := by
    rw [List.map_map, List.eq_replicate_iff]
    simp [h]
  simp [layoutBytes, List.length_flatten, hs, flag]

theorem Framing.powerOn : Framing.Statement (.powerOn) := Framing.of_none rfl

theorem Framing.resetLineLow : Framing.Statement (.resetLineLow) := Framing.of_none rfl

theorem Framing.resetLineRisingEdge : Framing.Statement (.resetLineRisingEdge) := Framing.of_none rfl

theorem Framing.startupComplete : Framing.Statement (.startupComplete) := Framing.of_none rfl

theorem Framing.restartStartup : Framing.Statement (.restartStartup) := Framing.of_none rfl

theorem Framing.validFrame (bytes) : Framing.Statement (.validFrame bytes) := Framing.of_none rfl

theorem Framing.commandLinkGapTimeout : Framing.Statement (.commandLinkGapTimeout) := Framing.of_none rfl

theorem Framing.replySent : Framing.Statement (.replySent) := Framing.of_none rfl

theorem Framing.reportSent : Framing.Statement (.reportSent) := Framing.of_none rfl

theorem Framing.release (tag tier) : Framing.Statement (.release tag tier) := Framing.of_some rfl rfl rfl

theorem Framing.secure (tag tier) : Framing.Statement (.secure tag tier) := Framing.of_some rfl rfl rfl

theorem Framing.secureAll (tag) : Framing.Statement (.secureAll tag) := Framing.of_some rfl rfl rfl

theorem Framing.move (tag tier args) : Framing.Statement (.move tag tier args) := Framing.of_some rfl rfl rfl

theorem Framing.gangMove (tag count t0 t1 t2 t3 args) : Framing.Statement (.gangMove tag count t0 t1 t2 t3 args) := Framing.of_some rfl rfl rfl

theorem Framing.halt (tag tier) : Framing.Statement (.halt tag tier) := Framing.of_some rfl rfl rfl

theorem Framing.haltAll (tag) : Framing.Statement (.haltAll tag) := Framing.of_some rfl rfl rfl

theorem Framing.pause (tag tier) : Framing.Statement (.pause tag tier) := Framing.of_some rfl rfl rfl

theorem Framing.resume (tag tier) : Framing.Statement (.resume tag tier) := Framing.of_some rfl rfl rfl

theorem Framing.route (tag tier start run auto maint) : Framing.Statement (.route tag tier start run auto maint) := Framing.of_some rfl rfl rfl

theorem Framing.routePut : ∀ tag tier waypoint content, Framing.Statement (.routePut tag tier waypoint content)
  | _, _, _, none => Framing.of_some rfl rfl rfl
  | _, _, _, some _ => Framing.of_some rfl rfl rfl

theorem Framing.convert (tag slot) : Framing.Statement (.convert tag slot) := Framing.of_some rfl rfl rfl

theorem Framing.convertAbort (tag) : Framing.Statement (.convertAbort tag) := Framing.of_some rfl rfl rfl

theorem Framing.setBudget (tag budget) : Framing.Statement (.setBudget tag budget) := Framing.of_some rfl rfl rfl

theorem Framing.sampleLoad (tag tier) : Framing.Statement (.sampleLoad tag tier) := Framing.of_some rfl rfl rfl

theorem Framing.brakeTest (tag tier) : Framing.Statement (.brakeTest tag tier) := Framing.of_some rfl rfl rfl

theorem Framing.forceFailsafe (tag) : Framing.Statement (.forceFailsafe tag) := Framing.of_some rfl rfl rfl

theorem Framing.clearFailsafe (tag) : Framing.Statement (.clearFailsafe tag) := Framing.of_some rfl rfl rfl

theorem Framing.clearFaults (tag tier) : Framing.Statement (.clearFaults tag tier) := Framing.of_some rfl rfl rfl

theorem Framing.clearFaultsAll (tag) : Framing.Statement (.clearFaultsAll tag) := Framing.of_some rfl rfl rfl

theorem Framing.showLock (tag tiers) : Framing.Statement (.showLock tag tiers) := Framing.of_some rfl rfl rfl

theorem Framing.releaseShow (tag tiers) : Framing.Statement (.releaseShow tag tiers) := Framing.of_some rfl rfl rfl

theorem Framing.lock (tag group) : Framing.Statement (.lock tag group) := Framing.of_some rfl rfl rfl

theorem Framing.unlock (tag group) : Framing.Statement (.unlock tag group) := Framing.of_some rfl rfl rfl

theorem Framing.siteSet (tag site) : Framing.Statement (.siteSet tag site) := Framing.of_some rfl rfl rfl

theorem Framing.profilePut (tag tier profile) : Framing.Statement (.profilePut tag tier profile) :=
  Framing.of_some rfl (by simp [requestBytes, profileBytes, u8, u16, catalogueLength]) rfl

theorem Framing.profileGet (tag tier) : Framing.Statement (.profileGet tag tier) := Framing.of_some rfl rfl rfl

theorem Framing.zonePut (tag zone record) : Framing.Statement (.zonePut tag zone record) := Framing.of_some rfl rfl rfl

theorem Framing.zoneGet (tag zone) : Framing.Statement (.zoneGet tag zone) := Framing.of_some rfl rfl rfl

theorem Framing.saveSettings (tag) : Framing.Statement (.saveSettings tag) := Framing.of_some rfl rfl rfl

theorem Framing.layoutErase (tag slot) : Framing.Statement (.layoutErase tag slot) := Framing.of_some rfl rfl rfl

theorem Framing.layoutWrite (tag slot layout) : Framing.Statement (.layoutWrite tag slot layout) :=
  Framing.of_some rfl (by simp [requestBytes, layoutBytes_length, catalogueLength]) rfl

theorem Framing.layoutRead (tag slot) : Framing.Statement (.layoutRead tag slot) := Framing.of_some rfl rfl rfl

theorem Framing.protectLayouts (tag n) : Framing.Statement (.protectLayouts tag n) := Framing.of_some rfl rfl rfl

theorem Framing.queryStatus (tag) : Framing.Statement (.queryStatus tag) := Framing.of_some rfl rfl rfl

theorem Framing.queryTier (tag tier) : Framing.Statement (.queryTier tag tier) := Framing.of_some rfl rfl rfl

theorem Framing.queryMap (tag first count) : Framing.Statement (.queryMap tag first count) := Framing.of_some rfl rfl rfl

theorem Framing.queryQueue (tag) : Framing.Statement (.queryQueue tag) := Framing.of_some rfl rfl rfl

theorem Framing.queryGrants (tag) : Framing.Statement (.queryGrants tag) := Framing.of_some rfl rfl rfl

theorem Framing.restart (tag) : Framing.Statement (.restart tag) := Framing.of_some rfl rfl rfl

theorem Framing.setpointInterval (tier) : Framing.Statement (.setpointInterval tier) := Framing.of_none rfl

theorem Framing.setpointRecordSent : Framing.Statement (.setpointRecordSent) := Framing.of_none rfl

theorem Framing.feedbackRecord (bytes) : Framing.Statement (.feedbackRecord bytes) := Framing.of_none rfl

theorem Framing.feedbackGapTimeout : Framing.Statement (.feedbackGapTimeout) := Framing.of_none rfl

theorem Framing.feedbackTimerExpiry (tier) : Framing.Statement (.feedbackTimerExpiry tier) := Framing.of_none rfl

theorem Framing.releaseWaitExpiry (tier) : Framing.Statement (.releaseWaitExpiry tier) := Framing.of_none rfl

theorem Framing.secureWaitExpiry (tier) : Framing.Statement (.secureWaitExpiry tier) := Framing.of_none rfl

theorem Framing.watchExpiry (tier) : Framing.Statement (.watchExpiry tier) := Framing.of_none rfl

theorem Framing.settleTimerExpiry (tier) : Framing.Statement (.settleTimerExpiry tier) := Framing.of_none rfl

theorem Framing.testTimerExpiry (tier) : Framing.Statement (.testTimerExpiry tier) := Framing.of_none rfl

theorem Framing.tripActiveEdge (input) : Framing.Statement (.tripActiveEdge input) := Framing.of_none rfl

theorem Framing.tripApplication (input) : Framing.Statement (.tripApplication input) := Framing.of_none rfl

theorem Framing.tripInactiveEdge (input) : Framing.Statement (.tripInactiveEdge input) := Framing.of_none rfl

theorem Framing.keyChange (high) : Framing.Statement (.keyChange high) := Framing.of_none rfl

theorem Framing.admissionScan : Framing.Statement (.admissionScan) := Framing.of_none rfl

theorem Framing.loadConversionComplete (counts) : Framing.Statement (.loadConversionComplete counts) := Framing.of_none rfl

theorem Framing.freshnessTimerExpiry (tier) : Framing.Statement (.freshnessTimerExpiry tier) := Framing.of_none rfl

theorem Framing.storeOperationComplete (failed) : Framing.Statement (.storeOperationComplete failed) := Framing.of_none rfl

theorem Framing.watchdogExpiry : Framing.Statement (.watchdogExpiry) := Framing.of_none rfl

theorem Framing.lossOfPower : Framing.Statement (.lossOfPower) := Framing.of_none rfl

theorem Framing.commandLinkStopBitError : Framing.Statement (.commandLinkStopBitError) := Framing.of_none rfl

theorem Framing.lengthByteAbove248 : Framing.Statement (.lengthByteAbove248) := Framing.of_none rfl

theorem Framing.driveLinkStopBitError : Framing.Statement (.driveLinkStopBitError) := Framing.of_none rfl

end Sys2Proof.Laws
end

