-- ==== Sys2Proof/Tests/Slice0.lean ====
section
/-! SUPPORT. Tests: ill-formed commands that WellFormed refuses, the spec's worked examples and tables, one step of a command on a
small state, and for every statement of Obligations.lean with hypotheses a witness that meets them. -/

namespace Sys2Proof.Tests

-- Each test is checked in its turn: many at once would each wait in a thread of their own.
set_option Elab.async false

open Machine

/-! ### Small states -/

/-- A profile with extents of one cell, as in the spec's worked examples. -/
def prof : ProfileData :=
  { ProfileData.default with
    extL := Vector.replicate 4 1
    extR := Vector.replicate 4 1
    slewMax := 200
    slewAcc := 20
    tiltSpeed := 30
    tiltAcc := 10
    hold := 2
    settleTime := 30
    slipLimit := 300 }

/-- Where tier 0 stands: cell 80 of the ring, deck lowered. -/
def home : Pos := ⟨0x500000, 0⟩

/-- A tier standing in a state. -/
def standing (st : TierState) : TierRec := { TierRec.reset false with state := st, cmd := some home, act := some home }

/-- A running part with tier 0 alone installed, its record given, every lock open, and a budget of 500. -/
def hall (r : TierRec) : State :=
  { State.reset with
    phase := .running
    tiers := State.reset.tiers.set 0 r
    aa := ⟨500, [], [], 0⟩
    fsu := ⟨0, none, .notStarted, 0, false, false, false, true⟩
    zu := { State.reset.zu with zones := Vector.replicate 6 { ZoneRec.default 0 with trip := none }, valid := true }
    site := { Site.default with installed := 1 }
    profiles := Vector.replicate 12 ⟨true, prof⟩ }

/-- A slew move of tier 0, CW from its home over 20 cells, running at 100 ru per interval. -/
def slewMove : MoveRec :=
  { leader := 0, members := [], cls := .convert, origin := .link, targetSlew := 0x640000, dir := .cw, targetTilt := 0
    band := 0, auto := false, slew := ⟨100, 0x140000, false, false, 0, false⟩, tilt := ⟨.none, 0, 0, false, true⟩ }

/-- Tier 0 moving, with a stop request. -/
def movingTier (q : StopReq) : TierRec := { standing .moving with move := some slewMove, stop := q }

/-- The claim record of that move. -/
def slewClaim : ClaimRec := formClaim .cw home.slew 0x140000 prof 0

/-- Tier 0 moving with its claim and grant. -/
def movingHall (q : StopReq) : State :=
  { hall (movingTier q) with
    fm := (hall (movingTier q)).fm.grant 0 slewClaim
    aa := ⟨500, [], [⟨.move, 0, [], some .convert, 60, some 150, false⟩], 0⟩ }

/-- A queue entry of tier 0. -/
def entry : Entry := ⟨.move, 0, [], some .maint, some 0x640000, some .cw, some 0, false, .link, 0, .none⟩

/-- A feedback of tier 0 at home, EVEN, with a brake state. -/
def feedback (b : Brake) : Feedback := ⟨0, false, home.slew, home.tilt, b, true, 0, 0⟩

/-- A hall whose tier 0 awaits the answer to an EVEN record. -/
def answering (s : State) : State := s.modLink 0 fun l => { l with latestSent := some false, latestRec := some ⟨home.slew, 0, .normal⟩ }

/-- The state a command leaves. -/
def after (o : Host.Outcome State Fault Refusal) : State :=
  match o with
  | .next s => s
  | _ => State.reset

/-! ### More states, for the witnesses -/

/-- A reply in the reply list. -/
def oneReply : Reply := ⟨9, 0x81, .ok, []⟩

/-- Tier 0 SECURED, and the command-link port as given. -/
def linkHall (p : LinkPort) : State := { hall (standing .secured) with clp := p }

/-- The port with a full reply list and the given held frames. -/
def fullPort (hold : List Frame) : LinkPort := { LinkPort.reset with replies := List.replicate 8 oneReply, hold := hold }

/-- A frame of an unknown KIND. -/
def strangeFrame : Frame := ⟨1, 0x3D, []⟩

/-- A port that sends the first of its replies. -/
def sendingPort (replies : List Reply) (restart : Restart) (hold : List Frame) : LinkPort :=
  { LinkPort.reset with replies := replies, tx := .reply, restart := restart, hold := hold }

/-- A port that sends the first of two reports. -/
def reportingPort : LinkPort :=
  { LinkPort.reset with reports := [.tierState 0 .ready, .tierState 0 .securing], tx := .report }

/-- A hall with a show-locked tier 0 and every lock on, the KEY input inactive. -/
def lockedHall : State := { hall (standing .secured) with fsu := ⟨0, none, .notStarted, 1, true, true, true, false⟩ }

/-- A hall in another phase. -/
def phaseHall (p : Phase) : State := { hall (standing .secured) with phase := p }

/-- A hall whose NVS writes slot 3, or runs another operation. -/
def busyStore (op : StoreOp) : State := { hall (standing .secured) with nvs := ⟨Store.blank, some op, 0⟩ }

/-- A layout whose only entry is tier 0 at home. -/
def homeLayout : Layout where
  name := Vector.replicate 16 0x41
  endSecure := false
  entries := (Vector.replicate 12 ⟨false, 0, 0, 0, 0⟩).set 0 ⟨true, 0, home.slew, home.tilt, 0⟩

/-- A hall whose slot 3 holds something. -/
def slotHall (x : Slot) : State :=
  { hall (standing .secured) with nvs := ⟨{ Store.blank with slots := Store.blank.slots.set 3 x }, none, 0⟩ }

/-- A hall with entries in the queue. -/
def queueHall (st : TierState) (q : List Entry) : State := { hall (standing st) with aa := ⟨500, q, [], 0⟩ }

/-- A hall with one scan due. -/
def scanHall (st : TierState) (q : List Entry) : State := { hall (standing st) with aa := ⟨500, q, [], 1⟩ }

/-- The TEST entry of tier 0. -/
def testEntry0 : Entry := ⟨.test, 0, [], none, none, none, none, false, .link, 0, .none⟩

/-- The MOVE of tier 0 to a slew position. -/
def moveTo (x : Slew) : MoveArgs := ⟨some x, none, false, true, 0⟩

/-- The MOVE of tier 0 with no target. -/
def moveNowhere (auto : Bool) : MoveArgs := ⟨none, none, auto, true, 0⟩

/-- A hall of tiers 0 and 1, both READY, tier 1 standing just beyond tier 0 in the CW sense. -/
def gangHall : State :=
  let s := hall (standing .ready)
  { s with
    site := { s.site with installed := 3 }
    tiers := s.tiers.set 1 { standing .ready with cmd := some ⟨0x530000, 0⟩, act := some ⟨0x530000, 0⟩ }
    fm := (s.fm.mark 0 ⟨79, 3⟩).mark 1 ⟨82, 3⟩ }

/-- A hall whose tier 0 has one waypoint set. -/
def routeHall : State := hall { standing .ready with route := (Vector.replicate 8 none).set 5 (some ⟨0x640000, 0, .cw⟩) }

/-- A tier FAULTED with an ended DRIVE-TRIP, and one whose DRIVE-TRIP is still reported. -/
def faultedHall (reported : BitVec 4) (b : Brake) : State :=
  (hall { standing .faulted with fault := ⟨1, some ⟨.driveTrip, .ready, home⟩⟩ }).modLink 0 fun l =>
    { l with reported := reported, last := some (feedback b) }

/-- A hall in fail-safe. -/
def failsafeHall : State := { hall (standing .secured) with fsu := ⟨0, some .forced, .notStarted, 0, false, false, false, true⟩ }

/-- A hall with device faults. -/
def deviceHall (k : KindSet) : State :=
  { hall (standing .secured) with fsu := ⟨k, none, .running 50, 0, false, false, false, true⟩ }

/-- A hall with no tier installed. -/
def emptyHall : State := { hall (standing .secured) with site := Site.default }

/-- A SITE-SET record that installs tiers 0 and 2. -/
def siteMsg : SiteMsg := ⟨5, 3, 16, 500, 0, 2, 0⟩

/-- A zone record that bars cells 0 to 15 to both classes. -/
def zoneMsg (classes : Byte) : ZoneMsg := ⟨true, false, 0, 0x0F, classes, 1, 1⟩

/-- Another tier on the floor where tier 0 would be placed. -/
def blockedHall (s : State) : State := { s with fm := s.fm.mark 3 ⟨80, 1⟩ }

/-- A setpoint record of tier 0. -/
def setpoint (t : Tier) : SetpointRecord := ⟨t, home.slew, 0, false, .normal, 0⟩

/-- A hall with records in the transmit list. -/
def sendingHall (st : TierState) (l : List SetpointRecord) : State :=
  { hall (standing st) with dlp := { State.reset.dlp with txList := l } }

/-- A tier with a brake timer running. -/
def timedTier (st : TierState) (b : BrakeTimer) : TierRec := { standing st with brakeTimer := b }

/-- A tier in a brake test with the given last slip. -/
def testingHall (slip : Option Nat) : State :=
  { hall { standing .testing with testTimer := some 10, test := some ⟨10, 10, 300, slip, none⟩ } with
    aa := ⟨500, [], [⟨.test, 0, [], none, 30, none, false⟩], 0⟩ }

/-- A moving hall whose zone 0 covers the ring with input TRIP0, and items owed to the trip inputs. -/
def tripHall (due : List TripItem) : State :=
  let s := movingHall .none
  { s with zu := ⟨s.zu.zones.set 0 (ZoneRec.default 0), true, (Vector.replicate 6 false).set 0 true, due⟩ }

/-- A hall whose converter runs, with channels waiting. -/
def loadHall (c : Option Channel) (l : List Channel) : State :=
  { queueHall .secured [{ entry with sample := .pending }] with lc := ⟨Vector.replicate 12 .none, c, l⟩ }

/-- A port with a framer that awaits the length byte. -/
def lengthPort : LinkPort := { LinkPort.reset with framer := .length }

/-- A port with a RESTART under way. -/
def restartPort (r : Restart) : LinkPort := { LinkPort.reset with restart := r }

/-- The part in start-up with one input found ACTIVE. -/
def startUpHall : State := { State.reset with zu := { State.reset.zu with levels := (Vector.replicate 6 false).set 2 true } }

/-- Tier 0 PAUSED in its move. -/
def pausedHall : State := hall { movingTier .pause with state := .paused }

/-- A hall with a full queue that does not name tier 0. -/
def fullQueue (st : TierState) : State := queueHall st (List.replicate 8 { entry with tier := 1 })

/-- A moving hall with a cell ahead of the claim that tier 3 holds. -/
def aheadHall : State :=
  let s := movingHall .none
  { s with fm := s.fm.mark 3 ⟨110, 1⟩ }

/-- The entry of a gang move of gangHall that one tier leads. -/
def gangEntry (leader other : Tier) : Entry :=
  { moveEntryOf gangHall leader (moveTo 0x640000) .cw with kind := .gangMove, members := [other], targetTilt := none }

/-- Tier 0 on a leg of a route walk. -/
def legHall : State := hall { movingTier .none with move := some { slewMove with origin := .route } }

/-- The entry of the first leg of a walk from waypoint 5 of routeHall. -/
def legEntry (c : MClass) (auto : Bool) : Entry :=
  { entry with kind := .leg, cls := some c, auto := auto, origin := .route }

/-- A stalled conversion with tier 0 PENDING. -/
def stalledHall : State :=
  { hall (standing .ready) with cu :=
      ⟨.stalled, some 3, some homeLayout, 2, 1, 0, (Vector.replicate 12 ⟨.out, .none, false⟩).set 0 ⟨.waiting, .pending, true⟩⟩ }

/-- The locked hall with the KEY input active. -/
def keyHall : State := { lockedHall with fsu := { lockedHall.fsu with key := true } }

/-- A hall that has taken its SITE-SET. -/
def onceHall : State := { hall (standing .secured) with siteSetTaken := true }

/-- A profile whose tare is below the least allowed. -/
def lightProf : ProfileData := { prof with tare := 99 }

/-- A profile with the given slew maximum. -/
def fastProf (n : Nat) : ProfileData := { prof with slewMax := n }

/-- A hall with CONFIG-PROFILES set, its tier UNSYNCED. -/
def configHall : State := { hall (standing .unsynced) with fsu := (deviceHall 0x100).fsu }

/-- A hall with slots 0 to 3 protected. -/
def protectedHall : State := { hall (standing .secured) with nvs := ⟨Store.blank, none, 4⟩ }

/-- The grant of the move of movingHall. -/
def moveGrant : Grant := ⟨.move, 0, [], some .convert, 60, some 150, false⟩

/-- A feedback of tier 1, which is not installed. -/
def strangeFeedback : Feedback := { feedback .set with tier := 1 }

/-- A feedback with every field at or near the end of its range. -/
def widestFeedback : Feedback := { feedback .between with tier := 11, slip := 65535, tilt := 32767, faults := 9, slew := 0xABCDEF }

/-- A hall whose profiles admit no tilt, and a feedback beyond them. -/
def lowHall : State := { hall (standing .unsynced) with profiles := Vector.replicate 12 ⟨true, { prof with tiltMax := 0 }⟩ }
def tiltedFeedback : Feedback := { feedback .set with tilt := 5 }

/-- A hall that awaits the feedback of a tier in the given record. -/
def awaiting (r : TierRec) : State := answering (hall r)

/-- A hall whose feedback timer for tier 0 runs. -/
def linkTimerHall : State := (hall (standing .secured)).modLink 0 fun l => { l with timer := true }

/-- Tier 0 settling, with or without secure pending. -/
def settlingHall (pending : Bool) : State := hall { standing .settling with settleTimer := some 30, securePending := pending }

/-- The test record of testingHall. -/
def testRec (slip : Option Nat) : TestRec := ⟨10, 10, 300, slip, none⟩

/-- A hall with a TEST entry that its budget cannot hold. -/
def tightHall : State := { scanHall .secured [testEntry0] with aa := ⟨2, [testEntry0], [], 1⟩ }

/-- A hall whose tier 0 has a fresh sample. -/
def sampledHall : State :=
  { hall (standing .secured) with lc := ⟨(Vector.replicate 12 Sample.none).set 0 (Sample.valid 64 64 true), none, []⟩ }

/-- A slew generator at a speed of 100. -/
def gen (rem : Nat) : SlewGen := ⟨100, rem, false, false, 0, false⟩

/-- A walk from waypoint 6. -/
def walkFrom (r : Run) (leg : Nat) : WalkRec := ⟨true, 6, r, .convert, false, leg, leg, false, none⟩

/-- The arc that a footprint at home covers. -/
def homeArc : Arc := ⟨79, 3⟩

/-- A waypoint as ROUTE-PUT carries it, and the one of routeHall. -/
def shortWaypoint : WaypointMsg := ⟨2, 77, 9⟩
def routeWaypoint : Waypoint := ⟨0x640000, 0, .cw⟩

/-- The record that a standing tier 0 sends. -/
def homeRecord (release : Bool) (m : Mode) (torque : Nat) : SetpointRecord := ⟨0, home.slew, 0, release, m, torque⟩

/-- A channel of the converter. -/
def channel (t : Tier) (link arbiter : Bool) : Channel := ⟨t, link, arbiter⟩

/-! ### States for the wider statements -/

/-- A hall with the given watchdog setting and fail-safe. -/
def watchdogHall (w : WatchdogSetting) (f : Option Cause) : State :=
  { hall (standing .secured) with
    site := { Site.default with installed := 1, watchdog := w }
    fsu := ⟨0, f, .notStarted, 0, false, false, false, true⟩ }

/-- The slew move of the gang of tiers 1 and 0, and the gang PAUSED in it with the given tiers show-locked. -/
def gangSlew : MoveRec := { slewMove with leader := 1, members := [0] }
def pausedGang (locked : BitVec 12) : State :=
  let r := { standing .paused with move := some gangSlew }
  { gangHall with
    tiers := (gangHall.tiers.set 0 r).set 1 { r with cmd := some ⟨0x530000, 0⟩, act := some ⟨0x530000, 0⟩ }
    fsu := { gangHall.fsu with showLock := locked } }

/-- The slew move of tier 0 and its claim record, CCW. -/
def ccwMove : MoveRec := { slewMove with dir := .ccw, targetSlew := 0x3C0000 }
def ccwClaim : ClaimRec := formClaim .ccw home.slew 0x140000 prof 0

/-- Tier 0 moving CCW with its claim. -/
def ccwHall : State :=
  let s := hall { movingTier .none with move := some ccwMove }
  { s with fm := s.fm.grant 0 ccwClaim }

/-- The layout whose only entry takes tier 0 CW to cell 100, and a hall that holds it in slot 3. -/
def farLayout : Layout := { homeLayout with entries := homeLayout.entries.set 0 ⟨true, 0, 0x640000, 0, 0⟩ }
def farHall (r : TierRec) (q : List Entry) : State :=
  { hall r with nvs := (slotHall (.written farLayout)).nvs, aa := ⟨500, q, [], 0⟩ }

/-- The MOVE of tier 0 to cell 100 with a tilt target, a brake-weak tier, and the entry of farLayout. -/
def tiltedTo : MoveArgs := { moveTo 0x640000 with tilt := some 9 }
def weakTier : TierRec := { standing .secured with brakeWeak := true }
def farEntry : LayoutEntry := ⟨true, 0, 0x640000, 0, 0⟩

/-- The conversion records of a WAITING and of a DROPPED tier, and a full queue that does not name tier 0. -/
def queuedConv : ConvTier := ⟨.waiting, .queued, false⟩
def pendingConv : ConvTier := ⟨.waiting, .pending, true⟩
def droppedConv : ConvTier := ⟨.dropped, .none, false⟩
def fullList : List Entry := List.replicate 8 { entry with tier := 1 }

/-- The conversion entry of tier 0 in farHall. -/
def convEntry : Entry := { entry with cls := some .convert, origin := .conversion }

/-- The conversion records when tier 0 alone is in the conversion. -/
def oneConv (y : ConvTier) : Vector ConvTier 12 := (Vector.replicate 12 ⟨.out, .none, false⟩).set 0 y

/-- A running conversion with tier 0 in it, in the given record and queue. -/
def convHall (r : TierRec) (q : List Entry) (y : ConvTier) : State :=
  { hall r with cu := ⟨.running, some 3, some farLayout, 1, 0, 0, oneConv y⟩, aa := ⟨500, q, [], 0⟩ }

/-- Tier 0 PAUSED with its claim and grant. -/
def pausedFloor : State := (movingHall .pause).modTier 0 fun r => { r with state := .paused }

/-- Tier 0 FAULTED with MAP-CONFLICT. -/
def conflictHall : State :=
  (hall { standing .faulted with fault := ⟨0x80, some ⟨.mapConflict, .ready, home⟩⟩ }).modLink 0 fun l =>
    { l with last := some (feedback .set) }

/-- Tier 0 SECURED on the floor, with the given queue. -/
def floorHall (q : List Entry) : State := { queueHall .secured q with fm := (hall (standing .secured)).fm.mark 0 homeArc }

/-- A profile with other extents, and one with another tilt maximum. -/
def wideTier (n : Nat) : ProfileData := { prof with extL := Vector.replicate 4 n, extR := Vector.replicate 4 n }
def lowProf (n : Nat) : ProfileData := { prof with tiltMax := n }

/-- Tier 0 SECURED with its deck raised a little. -/
def raisedHall : State := hall { standing .secured with cmd := some ⟨home.slew, 5⟩ }

/-- Two installed tiers with one rank, and an absent entry with a direction outside its encoding. -/
def twinLayout : Layout := { homeLayout with entries := homeLayout.entries.set 1 ⟨true, 0, 0x530000, 0, 0⟩ }
def strangeLayout : Layout := { homeLayout with entries := homeLayout.entries.set 5 ⟨false, 3, 0, 0, 0⟩ }

/-- Tier 0 latched in its slew move. -/
def latchedMove : MoveRec := { slewMove with slew := { slewMove.slew with latch := true } }
def latchedHall : State := (movingHall .none).modTier 0 fun r => { r with move := some latchedMove }

/-- The slew move of tier 0 with 10 ring units to go, and the tier in its last interval; it pauses short of its target when that
lies at cell 110. -/
def lastMove (target : Slew) : MoveRec :=
  { slewMove with targetSlew := target, slew := ⟨20, 10, true, false, 0x13FFF6, false⟩ }
def lastHall (target : Slew) (q : StopReq) : State :=
  (movingHall q).modTier 0 fun r => { r with cmd := some ⟨0x63FFF6, 0⟩, move := some (lastMove target) }

/-- The moving tier three cells on, its feedback awaited. -/
def onMove : MoveRec := { slewMove with slew := { slewMove.slew with progress := 0x30000 } }
def onHall (st : TierState) (q : StopReq) : State :=
  ((movingHall q).modTier 0 fun r => { r with state := st, cmd := some ⟨0x530000, 0⟩, move := some onMove }).modLink 0 fun l =>
    { l with latestSent := some false, latestRec := some ⟨0x530000, 0, .normal⟩ }
def onFeedback (b : Brake) : Feedback := { feedback b with slew := 0x530000 }

/-- A tier in a brake test, without a slip yet. -/
def testTier : TierRec := { standing .testing with test := some ⟨10, 10, 300, none, none⟩ }

/-- A hall with another tier on the floor at cell 100. -/
def blockedAt (s : State) : State := { s with fm := s.fm.mark 3 ⟨100, 1⟩ }

/-- Tier 0 in SECURING under a quick stop, its feedback awaited. -/
def securingQuick : State := answering ((movingHall .quick).modTier 0 fun r =>
  { r with state := .securing, brakeTimer := .secureWait 255 })

/-- A feedback far from its record, and one with drive faults. -/
def farFeedback : Feedback := { feedback .released with slew := 0x640000 }
def badFeedback (f : BitVec 4) : Feedback := { feedback .released with faults := f }
def wornFeedback : Feedback := { feedback .set with faults := 2 }

/-- A hall whose tiers have a settle time of 0. -/
def settleless (s : State) : State := { s with profiles := Vector.replicate 12 ⟨true, { prof with settleTime := 0 }⟩ }

/-- Tier 0 PAUSED in the zone of TRIP input 0, whose application waits. -/
def tripPaused : State := { pausedFloor with zu := (tripHall [.application 0]).zu }

/-- Halls in which a CONVERT of slot 3 is refused. -/
def runningConv : State := let s := slotHall (.written homeLayout); { s with cu := { s.cu with state := .running } }
def storeFault : State := let s := slotHall .bad; { s with fsu := { s.fsu with device := 0x400 } }
def homeWith (st : TierState) : State := farHall (standing st) []
def homeShown : State := let s := homeWith .ready; { s with fsu := { s.fsu with showLock := 1 } }

/-- A scan of a MAINT move with a budget of 1. -/
def poorScan : State := let s := scanHall .ready [entry]; { s with aa := { s.aa with budget := 1 } }

/-- An entry of tier 1 that waits, and the hall with it ahead of the TEST entry. -/
def waitingEntry (n : Nat) : Entry := { entry with tier := 1, bypass := n }
def bypassHall (n : Nat) : State := scanHall .secured [waitingEntry n, testEntry0]

/-- The CONVERT entry of tier 0, and a scan of it with the sample of a load. -/
def convMove : Entry := { entry with cls := some .convert, targetTilt := some 300 }
def convScan (x : Sample) (budget : Nat) : State :=
  { scanHall .ready [convMove] with
    profiles := Vector.replicate 12 ⟨true, { prof with tare := 2000 }⟩
    aa := ⟨budget, [convMove], [], 1⟩
    lc := ⟨(Vector.replicate 12 Sample.none).set 0 x, none, []⟩ }

/-- The claim of that entry. -/
def convClaim : ClaimRec := formClaim .cw home.slew (distance .cw home.slew 0x640000) prof (moveBand 0 300)

/-- A tilt-only MAINT entry, and its claim. -/
def tiltMove : Entry := { entry with targetSlew := some home.slew, targetTilt := some 300 }
def tiltClaim : ClaimRec := formClaim .cw home.slew 0 prof (moveBand 0 300)

/-- The gang entry of gangHall that tier 1 leads, a scan of it, and its claim. -/
def gangScan : State := { gangHall with aa := ⟨500, [gangEntry 1 0], [], 1⟩ }
def gangClaim1 : ClaimRec := gangScan.gangClaim .cw 1 [0] 0x640000

/-- An entry once round the ring, and one that waits for its sample. -/
def roundEntry : Entry := { entry with targetSlew := some 0x4FFFFF }
def pendingMove : Entry := { convMove with sample := .pending }

/-- A scan of an entry under a zone of cells 80 to 95 that bars it, or with input TRIP0 ACTIVE. -/
def zoneScan (z : ZoneRec) : State :=
  let s := scanHall .ready [entry]
  { s with zu := { s.zu with zones := s.zu.zones.set 0 z, levels := s.zu.levels.set 0 true } }

/-- A scan with an invalid zone table, and one of a tier with a LOAD-RANGE restriction. -/
def invalidScan : State :=
  let s := convScan .none 500
  { s with zu := { s.zu with valid := false } }
def rangeScan : State := (convScan .none 500).modTier 0 fun r => { r with loadRange := true }

/-- A scan of an entry of a show-locked or of a FAULTED tier. -/
def showScan : State := { scanHall .ready [entry] with fsu := (pausedGang 1).fsu }
def scanFaulted : State := { scanHall .faulted [entry] with fsu := (hall (standing .ready)).fsu }

/-- A scan under a zone of cells 80 to 95 that bars them, and under one whose input is ACTIVE. -/
def barScan : State := zoneScan ⟨true, 80, 0x0F, .both, .bar, false, none⟩
def tripScan : State := zoneScan ⟨true, 80, 0x0F, .both, .creep, false, some 0⟩

/-- A scan of an entry that waits for its sample. -/
def pendingScan : State :=
  let s := convScan .none 500
  { s with aa := ⟨500, [pendingMove], [], 1⟩ }

/-- A hall whose NVS saves the settings. -/
def savingHall : State := busyStore (.save Site.default Profile.defaults none)

/-- The conversion record of a MOVING tier. -/
def movingConv : ConvTier := ⟨.moving, .none, false⟩

/-- SITE-SET records with a creep of 0, and with no tier. -/
def zeroCreep : SiteMsg := { siteMsg with creep := 0 }
def emptySite : SiteMsg := { siteMsg with installed := 0 }

/-! ### Ill-formed commands that WellFormed refuses -/

theorem test_wf_frame_short : Instr.wf (.validFrame [0xA5, 1, 7, 1, 0, 0]) = false := by decide
theorem test_wf_frame_start : Instr.wf (.validFrame [0x5B, 0, 7, 1, 0, 0]) = false := by decide
theorem test_wf_feedback_short : Instr.wf (.feedbackRecord [0x5B, 0]) = false := by decide
theorem test_wf_move_tilt : Instr.wf (.move 1 0 ⟨none, some 65536, false, true, 0⟩) = false := by decide
theorem test_wf_gang_tilt : Instr.wf (.gangMove 1 2 0 1 0 0 ⟨none, some 65536, false, true, 0⟩) = false := by decide
theorem test_wf_waypoint_tilt : Instr.wf (.routePut 1 0 0 (some ⟨0, 0, 65536⟩)) = false := by decide
theorem test_wf_budget : Instr.wf (.setBudget 1 65536) = false := by decide
theorem test_wf_clear_all : Instr.wf (.clearFaults 1 0xFF) = false := by decide
theorem test_wf_site_budget : Instr.wf (.siteSet 1 { siteMsg with budget := 65536 }) = false := by decide
theorem test_wf_profile_field : Instr.wf (.profilePut 1 0 { prof with settleTime := 256 }) = false := by decide
theorem test_wf_layout_tilt :
    Instr.wf (.layoutWrite 1 0 { homeLayout with entries := Vector.replicate 12 ⟨true, 0, 0, 65536, 0⟩ }) = false := by
  decide +kernel

/-! ### The spec's own examples -/

/-- The check value of the bytes 31h to 39h is 29B1h (R178). -/
theorem test_crc : crc [0x31, 0x32, 0x33, 0x34, 0x35, 0x36, 0x37, 0x38, 0x39] = 0x29B1 := by decide +kernel

/-- Rows 2, 4 and 5 of the examples of direction resolution (chapter 1). -/
theorem test_short :
    resolveDir .short 16000000 (some 8000000) = .ccw ∧ distance .ccw 16000000 8000000 = 8000000 ∧
      resolveDir .short 0 (some 8388609) = .ccw ∧ distance .ccw 0 8388609 = 8388607 ∧
      resolveDir .short 4194304 (some 4194304) = .cw := by decide +kernel

/-- The extents of the examples of footprints and claims (chapters 1 and 3). -/
def wideProf : ProfileData := { prof with extL := #v[3, 1, 5, 1], extR := #v[4, 1, 6, 1] }

/-- The two footprints of chapter 1, both across the wrap. -/
theorem test_footprints :
    footprint wideProf 16700000 (tiltBand 4000) = ⟨251, 8⟩ ∧ footprint wideProf 16700000 (tiltBand 18000) = ⟨249, 12⟩ := by
  decide +kernel

/-- The CW and the CCW claim of chapter 3's first worked example: f, o and e. -/
theorem test_claims :
    formClaim .cw 16700000 227216 wideProf 0 = ⟨.cw, 16700000, 53856, 3, 4, 251, 0, 11⟩ ∧
      formClaim .ccw 16700000 150000 wideProf 0 = ⟨.ccw, 16700000, 11679, 3, 4, 2, 0, 9⟩ := by decide +kernel

/-- The table of masses (R17). -/
theorem test_mass : [massOf 1150 230, massOf 1800 0, massOf 100 1, massOf 4000 2500] = [14, 18, 2, 63] := by decide

/-- The table of braking distances for a = 20 (R78). -/
theorem test_braking : [10, 20, 30, 40, 50, 2000].map (braking 20) = [0, 0, 7, 20, 37, 99000] := by decide

/-- Intervals 10, 11 and 12 of the full move (chapter 5): at the cap, the latch set, and latched. -/
theorem test_full_move :
    (SlewGen.step ⟨100, 300, false, false, 0, false⟩ 20 100 = ⟨100, 200, false, false, 100, false⟩) ∧
      (SlewGen.step ⟨100, 200, false, false, 0, false⟩ 20 100 = ⟨80, 120, true, false, 80, false⟩) ∧
      SlewGen.step ⟨80, 120, true, false, 0, false⟩ 20 100 = ⟨60, 60, true, false, 60, false⟩ := by decide

/-- The two rows of the look-ahead example (chapter 4). -/
theorem test_look_ahead :
    (lookAhead { prof with extR := Vector.replicate 4 3 } .cw 0 8066000 20 2000 = ⟨126, 2⟩) ∧
      lookAhead { prof with extR := Vector.replicate 4 3 } .cw 0 8110000 20 2000 = ⟨126, 3⟩ := by decide +kernel

/-- The third and the fifth row of the examples of matching (chapter 4). -/
theorem test_zone_cells :
    ([200, 201, 216, 217, 202, 218].map (ZoneRec.matchesCell { ZoneRec.default 0 with base := 200, mask := 17 }) =
        [true, true, true, true, false, false]) ∧
      [7, 71, 135, 199, 8, 72].map (ZoneRec.matchesCell { ZoneRec.default 0 with base := 7, mask := 192 }) =
        [true, true, true, true, false, false] := by decide +kernel

/-- The first row of the examples of leg order: from 5 with a run of 4 the waypoints are 5, 6, 7, 4 (R133). -/
theorem test_leg_order :
    [0, 1, 2, 3].map (fun k => (WalkRec.waypoint ⟨true, 5, .four, .convert, false, k, k, false, none⟩).val) = [5, 6, 7, 4] := by
  decide

/-- Channel 5 of the worked example of merged requests: counts 1400 at a load scale of 16 are a load of 350 (R140). -/
theorem test_load : Sample.ofCounts { prof with loadScale := 16 } 1400 = .valid 1400 350 true := by decide

/-! ### One step of a command -/

/-- RELEASE of a SECURED tier (the first row of chapter 2's worked sequence). -/
theorem test_release :
    ((after (exec (.release 7 0) (hall (standing .secured)))).tier 0).brakeTimer = .releaseWait 255 ∧
      (after (exec (.release 7 0) (hall (standing .secured)))).clp.replies = [⟨7, 0x81, .ok, []⟩] := by decide +kernel

/-- A QUERY-MAP across the wrap answers with cells in CW order. -/
theorem test_query_map :
    (after (exec (.queryMap 7 255 2) (hall (standing .ready)))).clp.replies = [⟨7, 0xBA, .ok, [255, 2, 255, 0, 0, 0]⟩] := by
  decide +kernel

/-- A trip application quick-stops the moving tier whose claim it touches, and keeps its claim (chapter 4's worked example). -/
theorem test_trip :
    ((after (exec (.tripApplication 0) (tripHall [.application 0]))).tier 0).stop = .quick ∧
      (after (exec (.tripApplication 0) (tripHall [.application 0]))).fm = (tripHall [.application 0]).fm := by decide +kernel

/-- At the expiry the last slip of 340 is above the limit of 300: FAIL, brake-weak set (chapter 8's worked example). -/
theorem test_brake_fail :
    ((after (exec (.testTimerExpiry 0) (testingHall (some 340)))).tier 0).brakeWeak = true ∧
      ((after (exec (.testTimerExpiry 0) (testingHall (some 340)))).tier 0).state = .secured := by decide +kernel

/-- The front of the queue is carried out, and the rest waits. -/
theorem test_step_front :
    step ((hall (standing .secured)).withPending [.keyChange false, .admissionScan]) =
      exec (.keyChange false) ((hall (standing .secured)).withPending [.admissionScan]) := rfl

/-! ### Witnesses: for each statement, states and operands that meet all the hypotheses of each of its clauses. A hypothesis that
several clauses of one theorem share stands once, and one that only names a value is met by that value. -/

theorem witness_StepRunsFront :
    State.reset.pending = [] := by decide +kernel

theorem witness_RoundTrips :
    (Request.move 0 { slew := some 5, tilt := some 3, auto := true, maint := false, dir := 2 }).wf = true ∧
    (widestFeedback.tilt < 32768 ∧
      widestFeedback.slip < 65536) ∧
    16 ≤ BitVec.toNat (([0, 0, 0, 0, 0, 0, 0, 16, 0, 0] : List Byte).getD 7 0) := by decide +kernel

theorem witness_FrameActsAsRequest :
    ((Instr.release 7 0).carried = some (7, Request.release 0) ∧
      (Instr.release 7 0).wf = true ∧
      (watchdogHall .off none).clp.framer = .hunt ∧
      (watchdogHall .off none).site.watchdog = .off) ∧
    ((watchdogHall (.timed 200) none).clp.framer = .hunt ∧
      (watchdogHall (.timed 200) none).TakesFrame ∧
      (watchdogHall (.timed 200) none).site.watchdog = .timed 200) ∧
    ((watchdogHall .immediate none).clp.framer = .hunt ∧
      (watchdogHall .immediate none).TakesFrame ∧
      (watchdogHall .immediate none).site.watchdog = .immediate ∧
      (watchdogHall .immediate none).fsu.failsafe = none) ∧
    ((watchdogHall .immediate (some .forced)).clp.framer = .hunt ∧
      (watchdogHall .immediate (some .forced)).TakesFrame ∧
      (watchdogHall .immediate (some .forced)).site.watchdog = .immediate ∧
      (watchdogHall .immediate (some .forced)).fsu.failsafe ≠ none) ∧
    ((linkHall (restartPort .waiting)).clp.framer = .hunt ∧
      ¬(linkHall (restartPort .waiting)).TakesFrame) := by decide +kernel

theorem witness_FrameOutcomes_1 :
    ((hall (standing .secured)).phase = .running ∧
      (hall (standing .secured)).clp.restart = .none ∧
      (hall (standing .secured)).clp.framer = .hunt ∧
      [1].length ≤ 248 ∧
      (hall (standing .secured)).clp.replies.length < 8 ∧
      catalogueLength 65 = none) ∧
    (([] : List Byte).length ≤ 248 ∧
      catalogueLength 1 = some 1 ∧
      ([] : List Byte).length ≠ 1) ∧
    ((linkHall (fullPort [])).phase = .running ∧
      (linkHall (fullPort [])).clp.restart = .none ∧
      (linkHall (fullPort [])).clp.framer = .hunt ∧
      [0].length ≤ 248 ∧
      8 ≤ (linkHall (fullPort [])).clp.replies.length ∧
      (linkHall (fullPort [])).clp.hold.length < 4) := by decide +kernel

theorem witness_FrameOutcomes_2 :
    ((linkHall (fullPort (List.replicate 4 strangeFrame))).phase = .running ∧
      (linkHall (fullPort (List.replicate 4 strangeFrame))).clp.restart = .none ∧
      (linkHall (fullPort (List.replicate 4 strangeFrame))).clp.framer = .hunt ∧
      [0].length ≤ 248 ∧
      8 ≤ (linkHall (fullPort (List.replicate 4 strangeFrame))).clp.replies.length ∧
      4 ≤ (linkHall (fullPort (List.replicate 4 strangeFrame))).clp.hold.length) ∧
    ((hall (standing .secured)).phase = .running ∧
      (hall (standing .secured)).clp.framer = .hunt ∧
      (1#8).toNat = [0].length ∧
      setBytes (crc [1, 7, 1, 0]) ≠ [0, 0]) ∧
    ((linkHall lengthPort).phase = .running ∧
      (linkHall lengthPort).clp.framer = .length) ∧
    startUpHall.phase = .startUp := by decide +kernel

theorem witness_TransmitterGoesOn_1 :
    ((linkHall (sendingPort [oneReply, oneReply] .waiting [])).phase = .running ∧
      (linkHall (sendingPort [oneReply, oneReply] .waiting [])).clp.tx = .reply ∧
      (linkHall (sendingPort [oneReply, oneReply] .waiting [])).clp.replies = [oneReply, oneReply] ∧
      (linkHall (sendingPort [oneReply, oneReply] .waiting [])).clp.hold = [] ∧
      ((linkHall (sendingPort [oneReply, oneReply] .waiting [])).clp.restart = .waiting →
         [oneReply] ≠ [])) ∧
    ((linkHall (sendingPort [oneReply] .waiting [])).phase = .running ∧
      (linkHall (sendingPort [oneReply] .waiting [])).clp.tx = .reply ∧
      (linkHall (sendingPort [oneReply] .waiting [])).clp.replies = [oneReply] ∧
      (linkHall (sendingPort [oneReply] .waiting [])).clp.restart = .waiting) ∧
    ((linkHall (sendingPort (List.replicate 8 oneReply) .none [strangeFrame])).phase = .running ∧
      (linkHall (sendingPort (List.replicate 8 oneReply) .none [strangeFrame])).clp.tx = .reply ∧
      ((linkHall (sendingPort (List.replicate 8 oneReply) .none [strangeFrame])).clp.replies =
         oneReply :: List.replicate 7 oneReply) ∧
      ((linkHall (sendingPort (List.replicate 8 oneReply) .none [strangeFrame])).clp.restart =
         .none) ∧
      (List.replicate 7 oneReply).length < 8 ∧
      ((linkHall (sendingPort (List.replicate 8 oneReply) .none [strangeFrame])).clp.hold =
         [strangeFrame]) ∧
      catalogueLength strangeFrame.kind = none ∧
      BitVec.toNat strangeFrame.kind < 64) := by decide +kernel

theorem witness_TransmitterGoesOn_2 :
    (linkHall reportingPort).phase = .running ∧
    (linkHall reportingPort).clp.tx = .report := by decide +kernel

theorem witness_LinkBoundsKept : State.reset.LinkBounds ∧ step State.reset = .next State.reset := ⟨by decide, rfl⟩

theorem witness_ArbiterBoundsKept :
    ((scanHall .ready [entry]).withPending [.admissionScan]).ArbiterBounds ∧
    step ((scanHall .ready [entry]).withPending [.admissionScan]) =
      .next (after (step ((scanHall .ready [entry]).withPending [.admissionScan]))) := ⟨by decide +kernel, rfl⟩

theorem witness_ClaimsRecordedKept :
    ((movingHall .none).withPending [.setpointInterval 0]).ClaimsRecorded ∧
    step ((movingHall .none).withPending [.setpointInterval 0]) =
      .next (after (step ((movingHall .none).withPending [.setpointInterval 0]))) := ⟨by decide +kernel, rfl⟩

theorem witness_LocksKept :
    lockedHall.phase = .running ∧ lockedHall.fsu.key = false ∧ Resets (.keyChange true) = false ∧
      lockedHall.fsu.showLock.getLsbD 0 = true ∧ lockedHall.fsu.profilesLocked = true ∧ lockedHall.fsu.zonesLocked = true ∧
      lockedHall.fsu.layoutsLocked = true ∧
      exec (.keyChange true) lockedHall = .next (after (exec (.keyChange true) lockedHall)) :=
  ⟨rfl, rfl, rfl, by decide, rfl, rfl, rfl, rfl⟩

theorem witness_BrakeWeakKept :
    lockedHall.phase = .running ∧ Resets (.keyChange true) = false ∧ (∀ t, Instr.keyChange true ≠ .testTimerExpiry t) ∧
      exec (.keyChange true) lockedHall = .next (after (exec (.keyChange true) lockedHall)) :=
  ⟨rfl, rfl, by decide, rfl⟩

theorem witness_StartUpBegins :
    ((phaseHall .off).nvs.op = none ∧
      (phaseHall .off).pins.resetLow = false) ∧
    ((phaseHall .held).phase = .held) ∧
    ((linkHall (restartPort .due)).phase = .running ∧
      (linkHall (restartPort .due)).clp.restart = .due ∧
      (linkHall (restartPort .due)).nvs.op = none) := by decide +kernel

theorem witness_ResetHolds_1 :
    ((hall (standing .ready)).nvs.op = none ∧ (hall (standing .ready)).phase ≠ .off) ∧
      (Instr.lossOfPower = .lossOfPower ∨ Instr.lossOfPower = .resetLineLow) ∧
      (busyStore (.erase 3)).phase ≠ .off ∧
      ((busyStore (.erase 3)).nvs.op = some (.erase 3) ∧ Slot.blank = .blank ∨
        ∃ l, (busyStore (.erase 3)).nvs.op = some (.write 3 l) ∧ Slot.blank = .written l) :=
  ⟨by decide, .inl rfl, by decide, .inl ⟨rfl, rfl⟩⟩

theorem witness_ResetHolds_2 :
    (Instr.resetLineLow = .lossOfPower ∨ Instr.resetLineLow = .resetLineLow) ∧ savingHall.phase ≠ .off ∧
      savingHall.nvs.op = some (.save Site.default Profile.defaults none) := by decide +kernel

theorem witness_StartUpCompletes :
    startUpHall.phase = .startUp ∧
    startUpHall.Room 8 := by decide +kernel

theorem witness_Release_1 :
    ((hall (standing .secured)).Handles ∧
      (hall (standing .secured)).Room 1 ∧
      (hall (standing .secured)).Names 0 0 ∧
      (hall (standing .secured)).Unbarred 0 ∧
      ((hall (standing .secured)).profiles.get 0).valid = true ∧
      ((hall (standing .secured)).tier 0).brakeWeak = false ∧
      ((hall (standing .secured)).tier 0).state = .secured) ∧
    tierOf 99 = none := by decide +kernel

theorem witness_Release_2 :
    ((hall (standing TierState.testing)).Handles ∧
      tierOf 0 = some 0 ∧
      (Code.busy =
        if (hall (standing TierState.testing)).installed 0 = false then Code.noTier
        else
          if (hall (standing TierState.testing)).fsu.failsafe ≠ none then Code.failsafe
          else
            if
                (((hall (standing TierState.testing)).gangOf 0).any fun u =>
                    BitVec.getLsbD (hall (standing TierState.testing)).fsu.showLock ↑u) =
                  true then
              Code.showLocked
            else
              if ((hall (standing TierState.testing)).profiles.get 0).valid = false then Code.profile
              else
                if ((hall (standing TierState.testing)).tier 0).brakeWeak = true then Code.brake
                else
                  match ((hall (standing TierState.testing)).tier 0).state with
                  | TierState.unsynced => Code.state
                  | TierState.faulted => Code.state
                  | TierState.securing => Code.busy
                  | TierState.testing => Code.busy
                  | x => Code.ok) ∧
      (Code.busy ≠ Code.ok ∨ ((hall (standing TierState.testing)).tier 0).state ≠ TierState.secured)) ∧
    ((pausedGang 2).Handles ∧
      (Code.showLocked =
        if (pausedGang 2).installed 0 = false then Code.noTier
        else
          if (pausedGang 2).fsu.failsafe ≠ none then Code.failsafe
          else
            if (((pausedGang 2).gangOf 0).any fun u => (pausedGang 2).fsu.showLock.getLsbD u) = true then
              Code.showLocked
            else
              if ((pausedGang 2).profiles.get 0).valid = false then Code.profile
              else
                if ((pausedGang 2).tier 0).brakeWeak = true then Code.brake
                else
                  match ((pausedGang 2).tier 0).state with
                  | TierState.unsynced => Code.state
                  | TierState.faulted => Code.state
                  | TierState.securing => Code.busy
                  | TierState.testing => Code.busy
                  | x => Code.ok) ∧
      (Code.showLocked ≠ Code.ok ∨ ((pausedGang 2).tier 0).state ≠ TierState.secured)) := by decide +kernel

theorem witness_LegalityTable_1 :
    ((hall (standing .secured)).Handles ∧
      (hall (standing .secured)).Names 0 0 ∧
      (hall (standing .secured)).fsu.failsafe = none ∧
      ((((hall (standing .secured)).gangOf 0).any fun u =>
           BitVec.getLsbD (hall (standing .secured)).fsu.showLock ↑u) =
         false) ∧
      (((hall (standing .secured)).tier 0).state ∈
         [.unsynced, .secured, .securing, .testing, .faulted])) ∧
    ((hall (standing .securing)).Handles ∧
      (hall (standing .securing)).Names 0 0 ∧
      (hall (standing .securing)).fsu.failsafe = none ∧
      ((((hall (standing .securing)).gangOf 0).any fun u =>
           BitVec.getLsbD (hall (standing .securing)).fsu.showLock ↑u) =
         false) ∧
      ((hall (standing .securing)).tier 0).walk.active = false ∧
      (((hall (standing .securing)).tier 0).state ∈
         [.unsynced, .securing, .faulted])) ∧
    ((hall (standing .ready)).Handles ∧
      (hall (standing .ready)).Names 0 0 ∧
      (hall (standing .ready)).fsu.failsafe = none ∧
      ((((hall (standing .ready)).gangOf 0).any fun u =>
           BitVec.getLsbD (hall (standing .ready)).fsu.showLock ↑u) =
         false) ∧
      (((hall (standing .ready)).tier 0).state ∈
         [.unsynced, .secured, .releasing, .ready, .settling,
           .securing, .faulted])) := by decide +kernel

theorem witness_LegalityTable_2 :
    ((hall (standing .paused)).Handles ∧
      (hall (standing .paused)).Names 0 0 ∧
      (hall (standing .paused)).fsu.failsafe = none ∧
      ((((hall (standing .paused)).gangOf 0).any fun u =>
           BitVec.getLsbD (hall (standing .paused)).fsu.showLock ↑u) =
         false) ∧
      ((hall (standing .paused)).tier 0).state = .paused) ∧
    ((hall (movingTier .none)).Handles ∧
      (hall (movingTier .none)).Names 0 0 ∧
      (hall (movingTier .none)).fsu.failsafe = none ∧
      ((((hall (movingTier .none)).gangOf 0).any fun u =>
           BitVec.getLsbD (hall (movingTier .none)).fsu.showLock ↑u) =
         false) ∧
      ((hall (movingTier .none)).tier 0).state = .moving) ∧
    ((hall (standing .testing)).Handles ∧
      (hall (standing .testing)).Names 0 0 ∧
      (hall (standing .testing)).fsu.failsafe = none ∧
      ((((hall (standing .testing)).gangOf 0).any fun u =>
           BitVec.getLsbD (hall (standing .testing)).fsu.showLock ↑u) =
         false) ∧
      ((hall (standing .testing)).tier 0).state = .testing) := by decide +kernel

theorem witness_LegalityTable_3 :
    ((hall (standing .secured)).Handles ∧
      (hall (standing .secured)).Names 0 0 ∧
      (hall (standing .secured)).fsu.failsafe = none ∧
      ((((hall (standing .secured)).gangOf 0).any fun u =>
           BitVec.getLsbD (hall (standing .secured)).fsu.showLock ↑u) =
         false) ∧
      moveLegal (moveTo 0) = true ∧
      (((hall (standing .secured)).tier 0).state ∈
         [.unsynced, .secured, .paused, .securing, .faulted])) ∧
    ((hall (standing .testing)).Handles ∧
      (hall (standing .testing)).Names 0 0 ∧
      (hall (standing .testing)).fsu.failsafe = none ∧
      ((((hall (standing .testing)).gangOf 0).any fun u =>
           BitVec.getLsbD (hall (standing .testing)).fsu.showLock ↑u) =
         false) ∧
      ((hall (standing .testing)).tier 0).state = .testing) ∧
    ((hall (movingTier .none)).Handles ∧
      (hall (movingTier .none)).Names 0 0 ∧
      (hall (movingTier .none)).fsu.failsafe = none ∧
      ((((hall (movingTier .none)).gangOf 0).any fun u =>
           BitVec.getLsbD (hall (movingTier .none)).fsu.showLock ↑u) =
         false) ∧
      (((hall (movingTier .none)).tier 0).state ∈
         [.unsynced, .secured, .moving, .paused, .securing,
           .faulted])) := by decide +kernel

theorem witness_LegalityTable_4 :
    ((hall (standing .ready)).Handles ∧
      (hall (standing .ready)).Names 0 0 ∧
      (hall (standing .ready)).fsu.failsafe = none ∧
      ((((hall (standing .ready)).gangOf 0).any fun u =>
           BitVec.getLsbD (hall (standing .ready)).fsu.showLock ↑u) =
         false) ∧
      (((hall (standing .ready)).tier 0).state ∈
         [.unsynced, .releasing, .ready, .moving, .paused,
           .settling, .securing, .faulted])) ∧
    ((hall (standing .testing)).Handles ∧
      (hall (standing .testing)).Names 0 0 ∧
      (hall (standing .testing)).fsu.failsafe = none ∧
      ((((hall (standing .testing)).gangOf 0).any fun u =>
           BitVec.getLsbD (hall (standing .testing)).fsu.showLock ↑u) =
         false) ∧
      ((hall (standing .testing)).tier 0).state = .testing) ∧
    (((hall (standing .ready)).tier 0).state ≠ .faulted) := by decide +kernel

theorem witness_LegalityTable_5 :
    ((hall (standing .settling)).Handles ∧
      (hall (standing .settling)).Names 0 0 ∧
      (hall (standing .settling)).fsu.failsafe = none ∧
      ((((hall (standing .settling)).gangOf 0).any fun u =>
          BitVec.getLsbD (hall (standing .settling)).fsu.showLock ↑u) =
        false) ∧
      ((hall (standing .settling)).tier 0).walk.active = false ∧
      (((hall (standing .settling)).tier 0).state ∈
        [.secured, .releasing, .ready, .settling]) ∧
      (hall (standing .settling)).entryOf 0 = none) ∧
    ((hall (standing .testing)).Handles ∧
      (hall (standing .testing)).Names 0 0 ∧
      (hall (standing .testing)).fsu.failsafe = none ∧
      ((((hall (standing .testing)).gangOf 0).any fun u =>
          BitVec.getLsbD (hall (standing .testing)).fsu.showLock ↑u) =
        false) ∧
      ((hall (standing .testing)).tier 0).state = .testing) := by decide +kernel

theorem witness_Secure_1 :
    ((hall (standing .ready)).Handles ∧
      (hall (standing .ready)).Room 2 ∧
      (hall (standing .ready)).Names 0 0 ∧
      (hall (standing .ready)).entryOf 0 = none ∧
      (((hall (standing .ready)).tier 0).state = .ready ∨
         ((hall (standing .ready)).tier 0).state = .releasing)) ∧
    ((queueHall .releasing [entry]).Handles ∧
      (queueHall .releasing [entry]).Room 2 ∧
      (queueHall .releasing [entry]).Names 0 0 ∧
      (queueHall .releasing [entry]).entryOf 0 = some entry ∧
      entry.origin = .link ∧
      (((queueHall .releasing [entry]).tier 0).state = .ready ∨
         ((queueHall .releasing [entry]).tier 0).state = .releasing)) ∧
    ((hall (standing .settling)).Handles ∧
      (hall (standing .settling)).Room 2 ∧
      (hall (standing .settling)).Names 0 0 ∧
      (hall (standing .settling)).entryOf 0 = none ∧
      ((hall (standing .settling)).tier 0).state = .settling) := by decide +kernel

theorem witness_Secure_2 :
    gangHall.Handles ∧
    gangHall.Room 12 ∧
    gangHall.aa.queue = [] ∧
    (∀ (t : Tier), gangHall.installed t = true → (gangHall.tier t).state = .ready) := by decide +kernel

theorem witness_HaltAndPause_1 :
    ((movingHall .none).Handles ∧
      (movingHall .none).Names 0 0 ∧
      (movingHall .none).Single 0 slewMove ∧
      ((movingHall .none).tier 0).state = .moving ∧
      ((movingHall .none).tier 0).stop = .none ∧
      slewMove.slew.finished = false ∧
      0 < slewMove.slew.rem ∧
      0 < braking ((movingHall .none).prof 0).slewAcc slewMove.slew.speed) ∧
    (slewMove.auto = false) ∧
    ((movingHall .pause).Handles ∧
      (∀ (t : Tier),
         (movingHall .pause).installed t = true →
           ((movingHall .pause).tier t).state = .moving ∧
             ((movingHall .pause).tier t).stop = .pause ∧
               ((movingHall .pause).tier t).walk.active = false ∧
                 ∃ m, (movingHall .pause).Single t m)) := by decide +kernel

theorem witness_HaltAndPause_2 :
    ((queueHall .ready [entry]).Handles ∧
      (queueHall .ready [entry]).Room 1 ∧
      (queueHall .ready [entry]).Names 0 0 ∧
      (((queueHall .ready [entry]).tier 0).state ∈
        [.secured, .releasing, .ready, .settling]) ∧
      (queueHall .ready [entry]).entryOf 0 = some entry ∧
      entry.origin = .link) ∧
    ((queueHall .secured [waitingEntry 8, testEntry0]).Handles ∧
      (queueHall .secured [waitingEntry 8, testEntry0]).Room 1 ∧
      (queueHall .secured [waitingEntry 8, testEntry0]).Names 0 0 ∧
      (((queueHall .secured [waitingEntry 8, testEntry0]).tier 0).state ∈
        [.secured, .releasing, .ready, .settling]) ∧
      (queueHall .secured [waitingEntry 8, testEntry0]).entryOf 0 = some testEntry0 ∧
      testEntry0.origin = .link) := by decide +kernel

theorem witness_ResumePaused :
    (pausedHall.Handles ∧
      pausedHall.Room 1 ∧
      pausedHall.Names 0 0 ∧
      pausedHall.Unbarred 0 ∧
      pausedHall.Single 0 slewMove ∧
      (pausedHall.tier 0).state = .paused) ∧
    ((pausedGang 0).Handles ∧
      (pausedGang 0).Room 2 ∧
      (pausedGang 0).Names 0 0 ∧
      (0 = 1 ∨ 0 = 0) ∧
      1 ≠ 0 ∧
      (pausedGang 0).Unbarred 1 ∧
      (pausedGang 0).Unbarred 0 ∧
      ((pausedGang 0).tier 1).state = .paused ∧
      ((pausedGang 0).tier 0).state = .paused ∧
      ((pausedGang 0).tier 1).move = some gangSlew ∧
      ((pausedGang 0).tier 0).move = some gangSlew ∧
      gangSlew.leader = 1 ∧
      gangSlew.members = [0] ∧
      gangSlew.targetTilt = ((pausedGang 0).cmdPos 1).tilt ∧
      gangSlew.targetTilt = ((pausedGang 0).cmdPos 0).tilt ∧
      0x110000 = distance gangSlew.dir ((pausedGang 0).cmdPos 1).slew gangSlew.targetSlew) := by decide +kernel

theorem witness_EntriesOffered_1 :
    ((queueHall .ready [entry]).Handles ∧
      (queueHall .ready [entry]).Names 0 0 ∧
      (queueHall .ready [entry]).Unbarred 0 ∧
      (((queueHall .ready [entry]).tier 0).state ∈
         [.releasing, .ready, .settling]) ∧
      moveLegal (moveTo 0) = true ∧
      dirOfCode (BitVec.toNat (moveTo 0).dir) = some .cw ∧
      (zeroAt (moveTo 0) ((queueHall .ready [entry]).prof 0)
           ((queueHall .ready [entry]).cmdPos 0) =
         false) ∧
      (queueHall .ready [entry]).entryOf 0 ≠ none) ∧
    ((fullQueue .ready).Handles ∧
      (fullQueue .ready).Names 0 0 ∧
      (fullQueue .ready).Unbarred 0 ∧
      ((fullQueue .ready).tier 0).state ∈ [.releasing, .ready, .settling] ∧
      zeroAt (moveTo 0) ((fullQueue .ready).prof 0) ((fullQueue .ready).cmdPos 0) = false ∧
      (fullQueue .ready).entryOf 0 = none ∧
      8 ≤ (fullQueue .ready).aa.queue.length) := by decide +kernel

theorem witness_EntriesOffered_2 :
    ((hall (standing .ready)).Handles ∧
      (hall (standing .ready)).Names 0 0 ∧
      (hall (standing .ready)).Unbarred 0 ∧
      (((hall (standing .ready)).tier 0).state ∈
         [.releasing, .ready, .settling]) ∧
      moveLegal (moveTo 5177344) = true ∧
      dirOfCode (BitVec.toNat (moveTo 5177344).dir) = some .cw ∧
      (zeroAt (moveTo 5177344) ((hall (standing .ready)).prof 0)
           ((hall (standing .ready)).cmdPos 0) =
         false) ∧
      (hall (standing .ready)).entryOf 0 = none ∧
      (hall (standing .ready)).aa.queue.length < 8 ∧
      ((hall (standing .ready)).entryFits
           (moveEntryOf (hall (standing .ready)) 0 (moveTo 5177344) .cw) =
         false)) ∧
    (moveLegal (moveTo 6553600) = true ∧
      dirOfCode (BitVec.toNat (moveTo 6553600).dir) = some .cw ∧
      (zeroAt (moveTo 6553600) ((hall (standing .ready)).prof 0)
           ((hall (standing .ready)).cmdPos 0) =
         false) ∧
      ((hall (standing .ready)).entryFits
           (moveEntryOf (hall (standing .ready)) 0 (moveTo 6553600) .cw) =
         true)) ∧
    (failsafeHall.Handles ∧
      failsafeHall.Names 0 0 ∧
      (failsafeHall.tier 0).state = .secured ∧
      failsafeHall.fsu.failsafe ≠ none) := by decide +kernel

theorem witness_EntriesOffered_3 :
    ((queueHall .secured [testEntry0]).Handles ∧
      (queueHall .secured [testEntry0]).Names 0 0 ∧
      ((queueHall .secured [testEntry0]).tier 0).state = .secured ∧
      (queueHall .secured [testEntry0]).fsu.failsafe = none ∧
      (queueHall .secured [testEntry0]).entryOf 0 ≠ none) ∧
    ((fullQueue .secured).Handles ∧
      (fullQueue .secured).Names 0 0 ∧
      ((fullQueue .secured).tier 0).state = .secured ∧
      (fullQueue .secured).fsu.failsafe = none ∧
      (fullQueue .secured).entryOf 0 = none ∧
      8 ≤ (fullQueue .secured).aa.queue.length) ∧
    ((hall (standing .secured)).Handles ∧
      (hall (standing .secured)).Names 0 0 ∧
      ((hall (standing .secured)).tier 0).state = .secured ∧
      (hall (standing .secured)).fsu.failsafe = none ∧
      (hall (standing .secured)).entryOf 0 = none ∧
      (hall (standing .secured)).aa.queue.length < 8) := by decide +kernel

theorem witness_EntriesOffered_4 :
    ((hall (standing .ready)).Handles ∧
      (hall (standing .ready)).Room 2 ∧
      (hall (standing .ready)).Names 0 0 ∧
      (hall (standing .ready)).Unbarred 0 ∧
      moveLegal (moveNowhere false) = true ∧
      ((moveNowhere false).slew = none ∨ (moveNowhere false).slew = some ((hall (standing .ready)).cmdPos 0).slew) ∧
      ((moveNowhere false).tilt = none ∨
        Option.map (fun x => min x ((hall (standing .ready)).prof 0).tiltMax) (moveNowhere false).tilt =
          some ((hall (standing .ready)).cmdPos 0).tilt) ∧
      (moveNowhere false).auto = false ∧
      ((hall (standing .ready)).tier 0).state ∈ [.releasing, .ready, .settling]) ∧
    ((hall (standing .releasing)).Handles ∧
      (hall (standing .releasing)).Room 2 ∧
      (hall (standing .releasing)).Names 0 0 ∧
      (hall (standing .releasing)).Unbarred 0 ∧
      moveLegal (moveNowhere true) = true ∧
      ((moveNowhere true).slew = none ∨ (moveNowhere true).slew = some ((hall (standing .releasing)).cmdPos 0).slew) ∧
      ((moveNowhere true).tilt = none ∨
        Option.map (fun x => min x ((hall (standing .releasing)).prof 0).tiltMax) (moveNowhere true).tilt =
          some ((hall (standing .releasing)).cmdPos 0).tilt) ∧
      (moveNowhere true).auto = true ∧
      ((hall (standing .releasing)).tier 0).state ∈ [.releasing, .ready]) := by decide +kernel

theorem witness_EntriesOffered_5 :
    (hall (standing .settling)).Handles ∧
    (hall (standing .settling)).Room 2 ∧
    (hall (standing .settling)).Names 0 0 ∧
    (hall (standing .settling)).Unbarred 0 ∧
    moveLegal (moveNowhere true) = true ∧
    ((moveNowhere true).slew = none ∨ (moveNowhere true).slew = some ((hall (standing .settling)).cmdPos 0).slew) ∧
    ((moveNowhere true).tilt = none ∨
      Option.map (fun x => min x ((hall (standing .settling)).prof 0).tiltMax) (moveNowhere true).tilt =
        some ((hall (standing .settling)).cmdPos 0).tilt) ∧
    (moveNowhere true).auto = true ∧
    ((hall (standing .settling)).tier 0).state = .settling := by decide +kernel

theorem witness_Retarget_1 :
    ((movingHall (.halt .halted)).Handles ∧
      (movingHall (.halt .halted)).Names 0 0 ∧
      (movingHall (.halt .halted)).Unbarred 0 ∧
      (movingHall (.halt .halted)).Single 0 slewMove ∧
      ((movingHall (.halt .halted)).tier 0).state = .moving ∧
      moveLegal (moveTo 0x640000) = true ∧
      (slewMove.auto = true ∨
        ((movingHall (.halt .halted)).tier 0).stop ≠ .none ∨ slewMove.origin ≠ .link)) ∧
    ((movingHall .none).Handles ∧
      (movingHall .none).Names 0 0 ∧
      (movingHall .none).Unbarred 0 ∧
      (movingHall .none).Single 0 slewMove ∧
      ((movingHall .none).tier 0).state = .moving ∧
      moveLegal (moveTo 0x4FFFFF) = true ∧
      slewMove.auto = false ∧
      ((movingHall .none).tier 0).stop = .none ∧
      slewMove.origin = .link ∧
      (moveTo 0x4FFFFF).slew = some 0x4FFFFF ∧
      (slewMove.dir = .cw ∧ 8388608 < BitVec.toNat (0x4FFFFF - ((movingHall .none).cmdPos 0).slew) ∨
        slewMove.dir = .ccw ∧
          1 ≤ BitVec.toNat (0x4FFFFF - ((movingHall .none).cmdPos 0).slew) ∧
            BitVec.toNat (0x4FFFFF - ((movingHall .none).cmdPos 0).slew) ≤ 8388608)) ∧
    (ccwHall.Handles ∧
      ccwHall.Names 0 0 ∧
      ccwHall.Unbarred 0 ∧
      ccwHall.Single 0 ccwMove ∧
      (ccwHall.tier 0).state = .moving ∧
      moveLegal (moveTo 0x500001) = true ∧
      ccwMove.auto = false ∧
      (ccwHall.tier 0).stop = .none ∧
      ccwMove.origin = .link ∧
      (moveTo 0x500001).slew = some 0x500001 ∧
      (ccwMove.dir = .cw ∧ 8388608 < BitVec.toNat (0x500001 - (ccwHall.cmdPos 0).slew) ∨
        ccwMove.dir = .ccw ∧
          1 ≤ BitVec.toNat (0x500001 - (ccwHall.cmdPos 0).slew) ∧
            BitVec.toNat (0x500001 - (ccwHall.cmdPos 0).slew) ≤ 8388608)) := by decide +kernel

theorem witness_Retarget_2 :
    (movingHall .none).Handles ∧
    (movingHall .none).Names 0 0 ∧
    (movingHall .none).Unbarred 0 ∧
    (movingHall .none).Single 0 slewMove ∧
    ((movingHall .none).tier 0).state = .moving ∧
    ((movingHall .none).tier 0).stop = .none ∧
    slewMove.auto = false ∧
    slewMove.origin = .link ∧
    (movingHall .none).claim 0 = some slewClaim ∧
    moveLegal tiltedTo = true ∧
    home.slew = ((movingHall .none).cmdPos 0).slew ∧
    (tiltedTo.slew = none ∧ 0x640000 = slewMove.targetSlew ∧ 0x140000 = slewMove.slew.rem ∨
      tiltedTo.slew = some 0x640000 ∧
          slewMove.dir = .cw ∧
            BitVec.toNat (0x640000 - home.slew) ≤ 8388608 ∧ 0x140000 = BitVec.toNat (0x640000 - home.slew) ∨
        tiltedTo.slew = some 0x640000 ∧
          slewMove.dir = .ccw ∧
            BitVec.toNat (home.slew - 0x640000) < 8388608 ∧ 0x140000 = BitVec.toNat (home.slew - 0x640000)) ∧
    22 = (slewClaim.offset + slewMove.slew.progress + 0x140000) / 65536 + slewClaim.lm + slewClaim.rm ∧
    tiltedTo.tilt = some 9 ∧
    min 9 ((movingHall .none).prof 0).tiltMax ≠ slewMove.targetTilt := by decide +kernel

theorem witness_Retarget_3 :
    (movingHall .none).Handles ∧
    (movingHall .none).Names 0 0 ∧
    (movingHall .none).Unbarred 0 ∧
    (movingHall .none).Single 0 slewMove ∧
    ((movingHall .none).tier 0).state = .moving ∧
    ((movingHall .none).tier 0).stop = .none ∧
    slewMove.auto = false ∧
    slewMove.origin = .link ∧
    (movingHall .none).claim 0 = some slewClaim ∧
    moveLegal (moveTo 0x500001) = true ∧
    home.slew = ((movingHall .none).cmdPos 0).slew ∧
    ((moveTo 0x500001).slew = none ∧ 0x500001 = slewMove.targetSlew ∧ 1 = slewMove.slew.rem ∨
      (moveTo 0x500001).slew = some 0x500001 ∧
          slewMove.dir = .cw ∧ BitVec.toNat (0x500001 - home.slew) ≤ 8388608 ∧ 1 = BitVec.toNat (0x500001 - home.slew) ∨
        (moveTo 0x500001).slew = some 0x500001 ∧
          slewMove.dir = .ccw ∧ BitVec.toNat (home.slew - 0x500001) < 8388608 ∧ 1 = BitVec.toNat (home.slew - 0x500001)) ∧
    2 = (slewClaim.offset + slewMove.slew.progress + 1) / 65536 + slewClaim.lm + slewClaim.rm ∧
    (∀ (y : Nat), (moveTo 0x500001).tilt = some y → min y ((movingHall .none).prof 0).tiltMax = slewMove.targetTilt) ∧
    1 < braking ((movingHall .none).prof 0).slewAcc slewMove.slew.speed := by decide +kernel

theorem witness_Retarget_4 :
    aheadHall.Handles ∧
    aheadHall.Names 0 0 ∧
    aheadHall.Unbarred 0 ∧
    aheadHall.Single 0 slewMove ∧
    (aheadHall.tier 0).state = .moving ∧
    (aheadHall.tier 0).stop = .none ∧
    slewMove.auto = false ∧
    slewMove.origin = .link ∧
    aheadHall.claim 0 = some slewClaim ∧
    moveLegal (moveTo 0x780000) = true ∧
    home.slew = (aheadHall.cmdPos 0).slew ∧
    ((moveTo 0x780000).slew = none ∧ 0x780000 = slewMove.targetSlew ∧ 0x280000 = slewMove.slew.rem ∨
      (moveTo 0x780000).slew = some 0x780000 ∧
          slewMove.dir = .cw ∧
            BitVec.toNat (0x780000 - home.slew) ≤ 8388608 ∧ 0x280000 = BitVec.toNat (0x780000 - home.slew) ∨
        (moveTo 0x780000).slew = some 0x780000 ∧
          slewMove.dir = .ccw ∧
            BitVec.toNat (home.slew - 0x780000) < 8388608 ∧ 0x280000 = BitVec.toNat (home.slew - 0x780000)) ∧
    42 = (slewClaim.offset + slewMove.slew.progress + 0x280000) / 65536 + slewClaim.lm + slewClaim.rm ∧
    (∀ (y : Nat), (moveTo 0x780000).tilt = some y → min y (aheadHall.prof 0).tiltMax = slewMove.targetTilt) ∧
    braking (aheadHall.prof 0).slewAcc slewMove.slew.speed ≤ 0x280000 ∧
    (256 < 42 + 1 - slewClaim.release ∨
      aheadHall.mapConflict = true ∨
        (∃ g ∈ (stepArc slewClaim.dir slewClaim.origin (slewClaim.finish + 1) (42 + 1)).cells,
            aheadHall.fm.at g ≠ .free) ∨
          aheadHall.zoneDecision slewMove.cls (stepArc slewClaim.dir slewClaim.origin slewClaim.release (42 + 1))
              (decide (slewMove.band ≠ 0)) [footprint (aheadHall.prof 0) 0x780000 (tiltBand slewMove.targetTilt)] ≠
            .pass) := by decide +kernel

theorem witness_Retarget_5 :
    (movingHall .none).Handles ∧
    (movingHall .none).Names 0 0 ∧
    (movingHall .none).Unbarred 0 ∧
    (movingHall .none).Single 0 slewMove ∧
    ((movingHall .none).tier 0).state = .moving ∧
    ((movingHall .none).tier 0).stop = .none ∧
    slewMove.auto = false ∧
    slewMove.origin = .link ∧
    (movingHall .none).claim 0 = some slewClaim ∧
    moveLegal (moveTo 0x780000) = true ∧
    home.slew = ((movingHall .none).cmdPos 0).slew ∧
    ((moveTo 0x780000).slew = none ∧ 0x780000 = slewMove.targetSlew ∧ 0x280000 = slewMove.slew.rem ∨
      (moveTo 0x780000).slew = some 0x780000 ∧
          slewMove.dir = .cw ∧
            BitVec.toNat (0x780000 - home.slew) ≤ 8388608 ∧ 0x280000 = BitVec.toNat (0x780000 - home.slew) ∨
        (moveTo 0x780000).slew = some 0x780000 ∧
          slewMove.dir = .ccw ∧
            BitVec.toNat (home.slew - 0x780000) < 8388608 ∧ 0x280000 = BitVec.toNat (home.slew - 0x780000)) ∧
    42 = (slewClaim.offset + slewMove.slew.progress + 0x280000) / 65536 + slewClaim.lm + slewClaim.rm ∧
    (∀ (y : Nat), (moveTo 0x780000).tilt = some y → min y ((movingHall .none).prof 0).tiltMax = slewMove.targetTilt) ∧
    braking ((movingHall .none).prof 0).slewAcc slewMove.slew.speed ≤ 0x280000 ∧
    42 + 1 - slewClaim.release ≤ 256 ∧
    (movingHall .none).mapConflict = false ∧
    (∀ g ∈ (stepArc slewClaim.dir slewClaim.origin (slewClaim.finish + 1) (42 + 1)).cells,
      (movingHall .none).fm.at g = .free) ∧
    ((movingHall .none).zoneDecision slewMove.cls (stepArc slewClaim.dir slewClaim.origin slewClaim.release (42 + 1))
        (decide (slewMove.band ≠ 0)) [footprint ((movingHall .none).prof 0) 0x780000 (tiltBand slewMove.targetTilt)] =
      .pass) := by decide +kernel

theorem witness_Retarget_6 :
    (movingHall .none).Handles ∧
    (movingHall .none).Names 0 0 ∧
    (movingHall .none).Unbarred 0 ∧
    (movingHall .none).Single 0 slewMove ∧
    ((movingHall .none).tier 0).state = .moving ∧
    ((movingHall .none).tier 0).stop = .none ∧
    slewMove.auto = false ∧
    slewMove.origin = .link ∧
    (movingHall .none).claim 0 = some slewClaim ∧
    moveLegal (moveNowhere false) = true ∧
    home.slew = ((movingHall .none).cmdPos 0).slew ∧
    ((moveNowhere false).slew = none ∧ 0x640000 = slewMove.targetSlew ∧ 0x140000 = slewMove.slew.rem ∨
      (moveNowhere false).slew = some 0x640000 ∧
          slewMove.dir = .cw ∧
            BitVec.toNat (0x640000 - home.slew) ≤ 8388608 ∧ 0x140000 = BitVec.toNat (0x640000 - home.slew) ∨
        (moveNowhere false).slew = some 0x640000 ∧
          slewMove.dir = .ccw ∧
            BitVec.toNat (home.slew - 0x640000) < 8388608 ∧ 0x140000 = BitVec.toNat (home.slew - 0x640000)) ∧
    22 = (slewClaim.offset + slewMove.slew.progress + 0x140000) / 65536 + slewClaim.lm + slewClaim.rm ∧
    (∀ (y : Nat), (moveNowhere false).tilt = some y → min y ((movingHall .none).prof 0).tiltMax = slewMove.targetTilt) ∧
    braking ((movingHall .none).prof 0).slewAcc slewMove.slew.speed ≤ 0x140000 ∧
    22 + 1 - slewClaim.release ≤ 256 ∧
    (movingHall .none).mapConflict = false ∧
    (∀ g ∈ (stepArc slewClaim.dir slewClaim.origin (slewClaim.finish + 1) (22 + 1)).cells,
      (movingHall .none).fm.at g = .free) ∧
    ((movingHall .none).zoneDecision slewMove.cls (stepArc slewClaim.dir slewClaim.origin slewClaim.release (22 + 1))
        (decide (slewMove.band ≠ 0)) [footprint ((movingHall .none).prof 0) 0x640000 (tiltBand slewMove.targetTilt)] =
      .pass) := by decide +kernel

theorem witness_Retarget_7 :
    ccwHall.Handles ∧
    ccwHall.Names 0 0 ∧
    ccwHall.Unbarred 0 ∧
    ccwHall.Single 0 ccwMove ∧
    (ccwHall.tier 0).state = .moving ∧
    (ccwHall.tier 0).stop = .none ∧
    ccwMove.auto = false ∧
    ccwMove.origin = .link ∧
    ccwHall.claim 0 = some ccwClaim ∧
    moveLegal (moveTo 0x280000) = true ∧
    home.slew = (ccwHall.cmdPos 0).slew ∧
    ((moveTo 0x280000).slew = none ∧ 0x280000 = ccwMove.targetSlew ∧ 0x280000 = ccwMove.slew.rem ∨
      (moveTo 0x280000).slew = some 0x280000 ∧
          ccwMove.dir = .cw ∧
            BitVec.toNat (0x280000 - home.slew) ≤ 8388608 ∧ 0x280000 = BitVec.toNat (0x280000 - home.slew) ∨
        (moveTo 0x280000).slew = some 0x280000 ∧
          ccwMove.dir = .ccw ∧
            BitVec.toNat (home.slew - 0x280000) < 8388608 ∧ 0x280000 = BitVec.toNat (home.slew - 0x280000)) ∧
    42 = (ccwClaim.offset + ccwMove.slew.progress + 0x280000) / 65536 + ccwClaim.lm + ccwClaim.rm ∧
    (∀ (y : Nat), (moveTo 0x280000).tilt = some y → min y (ccwHall.prof 0).tiltMax = ccwMove.targetTilt) ∧
    braking (ccwHall.prof 0).slewAcc ccwMove.slew.speed ≤ 0x280000 ∧
    42 + 1 - ccwClaim.release ≤ 256 ∧
    ccwHall.mapConflict = false ∧
    (∀ g ∈ (stepArc ccwClaim.dir ccwClaim.origin (ccwClaim.finish + 1) (42 + 1)).cells, ccwHall.fm.at g = .free) ∧
    (ccwHall.zoneDecision ccwMove.cls (stepArc ccwClaim.dir ccwClaim.origin ccwClaim.release (42 + 1))
        (decide (ccwMove.band ≠ 0)) [footprint (ccwHall.prof 0) 0x280000 (tiltBand ccwMove.targetTilt)] =
      .pass) := by decide +kernel

theorem witness_GangMoveOffered_1 :
    gangHall.Handles ∧
    gangHall.Names 0 0 ∧
    gangHall.Names 0 0 ∧
    gangHall.Unbarred 0 ∧
    gangHall.Unbarred 0 ∧
    (gangHall.tier 0).state = .ready ∧
    (gangHall.tier 0).state = .ready ∧
    moveLegal (moveTo 6553600) = true ∧
    dirOfCode (BitVec.toNat (moveTo 6553600).dir) = some .cw ∧
    (moveTo 6553600).tilt = none ∧
    zeroAt (moveTo 6553600) (gangHall.prof 0) (gangHall.cmdPos 0) = false ∧
    (gangEntry 0 0 =
       { moveEntryOf gangHall 0 (moveTo 6553600) .cw with kind := .gangMove, members := [0], targetTilt := none }) ∧
    (0 = 0 ∨
       gangHall.contiguous (resolveDir .cw (gangHall.cmdPos 0).slew (moveTo 6553600).slew) 0 [0] =
         false) := by decide +kernel

theorem witness_GangMoveOffered_2 :
    gangHall.Handles ∧
    gangHall.Names 1 1 ∧
    gangHall.Names 0 0 ∧
    gangHall.Unbarred 1 ∧
    gangHall.Unbarred 0 ∧
    (gangHall.tier 1).state = .ready ∧
    (gangHall.tier 0).state = .ready ∧
    moveLegal (moveTo 6553600) = true ∧
    dirOfCode (BitVec.toNat (moveTo 6553600).dir) = some .cw ∧
    (moveTo 6553600).tilt = none ∧
    zeroAt (moveTo 6553600) (gangHall.prof 1) (gangHall.cmdPos 1) = false ∧
    (gangEntry 1 0 =
       { moveEntryOf gangHall 1 (moveTo 6553600) .cw with kind := .gangMove, members := [0], targetTilt := none }) ∧
    1 ≠ 0 ∧
    gangHall.contiguous (resolveDir .cw (gangHall.cmdPos 1).slew (moveTo 6553600).slew) 1 [0] = true ∧
    gangHall.entryOf 1 = none ∧
    gangHall.entryOf 0 = none ∧
    gangHall.aa.queue.length < 8 ∧
    gangHall.entryFits (gangEntry 1 0) = true := by decide +kernel

theorem witness_Routes_1 :
    (legHall.Handles ∧
      legHall.Names 0 0 ∧
      (5#8).toNat = (5 : Fin 8).val ∧
      legHall.onLeg 0 = true) ∧
    (routeHall.Handles ∧
      routeHall.Names 0 0 ∧
      routeHall.onLeg 0 = false) ∧
    (dirOfCode shortWaypoint.dir.toNat = some .short ∧
      shortWaypoint.tilt < 32768) ∧
    (routeHall.Unbarred 0 ∧
      (routeHall.tier 0).state ∈ [.releasing, .ready, .settling] ∧
      (4#8).toNat = (4 : Fin 8).val ∧
      runOfCode 4 = some .four ∧
      (Run.four = .cont → false = true) ∧
      (routeHall.tier 0).route.get 4 = none) := by decide +kernel

theorem witness_Routes_2 :
    (routeHall.Handles ∧
      routeHall.Names 0 0 ∧
      routeHall.Unbarred 0 ∧
      (routeHall.tier 0).state ∈ [.releasing, .ready, .settling] ∧
      (5#8).toNat = (5 : Fin 8).val ∧
      runOfCode 4 = some .four ∧
      (Run.four = .cont → false = true) ∧
      (routeHall.tier 0).route.get 5 = some routeWaypoint ∧
      (legEntry .convert false =
         { kind := .leg, tier := 0, members := [],
           cls := some (if false = true then .maint else .convert),
           targetSlew := some routeWaypoint.slew,
           dir := some (resolveDir routeWaypoint.dir (routeHall.cmdPos 0).slew (some routeWaypoint.slew)),
           targetTilt := some (min routeWaypoint.tilt (routeHall.prof 0).tiltMax),
           auto := decide (Run.four = .one) && true, origin := .route, bypass := 0,
           sample := .none }) ∧
      routeHall.entryOf 0 = none ∧
      routeHall.aa.queue.length < 8 ∧
      routeHall.entryFits (legEntry .convert false) = true) ∧
    (runOfCode 1 = some .one ∧
      (Run.one = .cont → true = true) ∧
      (legEntry .maint true =
         { kind := .leg, tier := 0, members := [],
           cls := some (if true = true then .maint else .convert),
           targetSlew := some routeWaypoint.slew,
           dir := some (resolveDir routeWaypoint.dir (routeHall.cmdPos 0).slew (some routeWaypoint.slew)),
           targetTilt := some (min routeWaypoint.tilt (routeHall.prof 0).tiltMax),
           auto := decide (Run.one = .one) && true, origin := .route, bypass := 0,
           sample := .none }) ∧
      routeHall.entryFits (legEntry .maint true) = true) := by decide +kernel

theorem witness_ConvertTaken_1 :
    (slotHall (.written homeLayout)).Handles ∧
    (slotHall (.written homeLayout)).Room 1 ∧
    slotOf 3 = some 3 ∧
    (slotHall (.written homeLayout)).fsu.failsafe = none ∧
    (slotHall (.written homeLayout)).convActive = false ∧
    (slotHall (.written homeLayout)).nvs.op = none ∧
    (slotHall (.written homeLayout)).slot 3 = .written homeLayout ∧
    homeLayout.endSecure = false ∧
    (∀ (t : Tier),
      (slotHall (.written homeLayout)).installed t = true →
        ((slotHall (.written homeLayout)).tier t).state ≠ .unsynced) ∧
    (∀ (t : Tier),
      (slotHall (.written homeLayout)).installed t = true →
        (layoutEntry homeLayout t).present = true →
          BitVec.getLsbD (slotHall (.written homeLayout)).fsu.showLock t = false ∧
            ((slotHall (.written homeLayout)).tier t).state ≠ .faulted ∧
              (slotHall (.written homeLayout)).cmdPos t =
                { slew := (layoutEntry homeLayout t).slew,
                  tilt := min (layoutEntry homeLayout t).tilt ((slotHall (.written homeLayout)).prof t).tiltMax }) := by decide +kernel

theorem witness_ConvertTaken_2 :
    (farHall (standing .ready) []).Handles ∧
    (farHall (standing .ready) []).Room 2 ∧
    slotOf 3 = some 3 ∧
    (farHall (standing .ready) []).fsu.failsafe = none ∧
    (farHall (standing .ready) []).convActive = false ∧
    (farHall (standing .ready) []).nvs.op = none ∧
    (farHall (standing .ready) []).slot 3 = .written farLayout ∧
    farLayout.endSecure = false ∧
    (∀ (t : Tier),
      (farHall (standing .ready) []).installed t = true →
        ((farHall (standing .ready) []).tier t).state ≠ .unsynced) ∧
    (∀ (t : Tier),
      (farHall (standing .ready) []).installed t = true →
        (layoutEntry farLayout t).present = true →
          BitVec.getLsbD (farHall (standing .ready) []).fsu.showLock t = false ∧
            ((farHall (standing .ready) []).tier t).state ≠ .faulted ∧
              (t ≠ 0 →
                (farHall (standing .ready) []).cmdPos t =
                  { slew := (layoutEntry farLayout t).slew,
                    tilt := min (layoutEntry farLayout t).tilt ((farHall (standing .ready) []).prof t).tiltMax })) ∧
    (farHall (standing .ready) []).installed 0 = true ∧
    layoutEntry farLayout 0 = farEntry ∧
    farEntry.present = true ∧
    ((farHall (standing .ready) []).cmdPos 0 ≠
      { slew := farEntry.slew, tilt := min farEntry.tilt ((farHall (standing .ready) []).prof 0).tiltMax }) ∧
    0 + 1 = ((farHall (standing .ready) []).convTiersOf farLayout).length ∧
    dirOfCode farEntry.dir.toNat = some .cw ∧
    (convEntry =
      { kind := .move, tier := 0, members := [], cls := some .convert, targetSlew := some farEntry.slew,
        dir := some (resolveDir .cw ((farHall (standing .ready) []).cmdPos 0).slew (some farEntry.slew)),
        targetTilt := some (min farEntry.tilt ((farHall (standing .ready) []).prof 0).tiltMax), auto := false,
        origin := .conversion, bypass := 0, sample := .none }) ∧
    (∀ (t : Fin 12),
      (oneConv queuedConv).get t =
        if t = 0 then queuedConv
        else
          if (farHall (standing .ready) []).installed t = true ∧ (layoutEntry farLayout t).present = true then
            { status := .done, entry := .none, releaseWanted := false }
          else { status := .out, entry := .none, releaseWanted := false }) ∧
    ((farHall (standing .ready) []).tier 0).state ≠ .secured ∧
    (farHall (standing .ready) []).entryOf 0 = none ∧
    (farHall (standing .ready) []).aa.queue.length < 8 ∧
    (farHall (standing .ready) []).entryFits convEntry = true ∧
    (queuedConv =
      { status := .waiting, entry := .queued,
        releaseWanted := decide (((farHall (standing .ready) []).tier 0).state = .securing) }) := by decide +kernel

theorem witness_ConvertTaken_3 :
    (farHall (standing .securing) fullList).Handles ∧
    (farHall (standing .securing) fullList).Room 2 ∧
    slotOf 3 = some 3 ∧
    (farHall (standing .securing) fullList).fsu.failsafe = none ∧
    (farHall (standing .securing) fullList).convActive = false ∧
    (farHall (standing .securing) fullList).nvs.op = none ∧
    (farHall (standing .securing) fullList).slot 3 = .written farLayout ∧
    farLayout.endSecure = false ∧
    (∀ (t : Tier),
      (farHall (standing .securing) fullList).installed t = true →
        ((farHall (standing .securing) fullList).tier t).state ≠ .unsynced) ∧
    (∀ (t : Tier),
      (farHall (standing .securing) fullList).installed t = true →
        (layoutEntry farLayout t).present = true →
          BitVec.getLsbD (farHall (standing .securing) fullList).fsu.showLock t = false ∧
            ((farHall (standing .securing) fullList).tier t).state ≠ .faulted ∧
              (t ≠ 0 →
                (farHall (standing .securing) fullList).cmdPos t =
                  { slew := (layoutEntry farLayout t).slew,
                    tilt :=
                      min (layoutEntry farLayout t).tilt
                        ((farHall (standing .securing) fullList).prof t).tiltMax })) ∧
    (farHall (standing .securing) fullList).installed 0 = true ∧
    layoutEntry farLayout 0 = farEntry ∧
    farEntry.present = true ∧
    ((farHall (standing .securing) fullList).cmdPos 0 ≠
      { slew := farEntry.slew, tilt := min farEntry.tilt ((farHall (standing .securing) fullList).prof 0).tiltMax }) ∧
    0 + 1 = ((farHall (standing .securing) fullList).convTiersOf farLayout).length ∧
    dirOfCode farEntry.dir.toNat = some .cw ∧
    (convEntry =
      { kind := .move, tier := 0, members := [], cls := some .convert, targetSlew := some farEntry.slew,
        dir :=
          some (resolveDir .cw ((farHall (standing .securing) fullList).cmdPos 0).slew (some farEntry.slew)),
        targetTilt := some (min farEntry.tilt ((farHall (standing .securing) fullList).prof 0).tiltMax),
        auto := false, origin := .conversion, bypass := 0, sample := .none }) ∧
    (∀ (t : Fin 12),
      (oneConv pendingConv).get t =
        if t = 0 then pendingConv
        else
          if
              (farHall (standing .securing) fullList).installed t = true ∧
                (layoutEntry farLayout t).present = true then
            { status := .done, entry := .none, releaseWanted := false }
          else { status := .out, entry := .none, releaseWanted := false }) ∧
    ((farHall (standing .securing) fullList).tier 0).state ≠ .secured ∧
    (farHall (standing .securing) fullList).entryOf 0 = none ∧
    8 ≤ (farHall (standing .securing) fullList).aa.queue.length ∧
    (pendingConv =
      { status := .waiting, entry := .pending,
        releaseWanted := decide (((farHall (standing .securing) fullList).tier 0).state = .securing) }) := by decide +kernel

theorem witness_ConvertTaken_4 :
    (farHall (standing .secured) []).Handles ∧
    (farHall (standing .secured) []).Room 2 ∧
    slotOf 3 = some 3 ∧
    (farHall (standing .secured) []).fsu.failsafe = none ∧
    (farHall (standing .secured) []).convActive = false ∧
    (farHall (standing .secured) []).nvs.op = none ∧
    (farHall (standing .secured) []).slot 3 = .written farLayout ∧
    farLayout.endSecure = false ∧
    (∀ (t : Tier),
      (farHall (standing .secured) []).installed t = true →
        ((farHall (standing .secured) []).tier t).state ≠ .unsynced) ∧
    (∀ (t : Tier),
      (farHall (standing .secured) []).installed t = true →
        (layoutEntry farLayout t).present = true →
          BitVec.getLsbD (farHall (standing .secured) []).fsu.showLock t = false ∧
            ((farHall (standing .secured) []).tier t).state ≠ .faulted ∧
              (t ≠ 0 →
                (farHall (standing .secured) []).cmdPos t =
                  { slew := (layoutEntry farLayout t).slew,
                    tilt := min (layoutEntry farLayout t).tilt ((farHall (standing .secured) []).prof t).tiltMax })) ∧
    (farHall (standing .secured) []).installed 0 = true ∧
    layoutEntry farLayout 0 = farEntry ∧
    farEntry.present = true ∧
    ((farHall (standing .secured) []).cmdPos 0 ≠
      { slew := farEntry.slew, tilt := min farEntry.tilt ((farHall (standing .secured) []).prof 0).tiltMax }) ∧
    0 + 1 = ((farHall (standing .secured) []).convTiersOf farLayout).length ∧
    dirOfCode farEntry.dir.toNat = some .cw ∧
    (convEntry =
      { kind := .move, tier := 0, members := [], cls := some .convert, targetSlew := some farEntry.slew,
        dir := some (resolveDir .cw ((farHall (standing .secured) []).cmdPos 0).slew (some farEntry.slew)),
        targetTilt := some (min farEntry.tilt ((farHall (standing .secured) []).prof 0).tiltMax), auto := false,
        origin := .conversion, bypass := 0, sample := .none }) ∧
    (∀ (t : Fin 12),
      (oneConv queuedConv).get t =
        if t = 0 then queuedConv
        else
          if (farHall (standing .secured) []).installed t = true ∧ (layoutEntry farLayout t).present = true then
            { status := .done, entry := .none, releaseWanted := false }
          else { status := .out, entry := .none, releaseWanted := false }) ∧
    ((farHall (standing .secured) []).tier 0).state = .secured ∧
    ((farHall (standing .secured) []).profiles.get 0).valid = true ∧
    ((farHall (standing .secured) []).tier 0).brakeWeak = false ∧
    (farHall (standing .secured) []).entryOf 0 = none ∧
    (farHall (standing .secured) []).aa.queue.length < 8 ∧
    (farHall (standing .secured) []).entryFits convEntry = true ∧
    queuedConv = { status := .waiting, entry := .queued, releaseWanted := false } := by decide +kernel

theorem witness_ConvertTaken_5 :
    (farHall weakTier []).Handles ∧
    (farHall weakTier []).Room 2 ∧
    slotOf 3 = some 3 ∧
    (farHall weakTier []).fsu.failsafe = none ∧
    (farHall weakTier []).convActive = false ∧
    (farHall weakTier []).nvs.op = none ∧
    (farHall weakTier []).slot 3 = Slot.written farLayout ∧
    farLayout.endSecure = false ∧
    (∀ (t : Tier), (farHall weakTier []).installed t = true → ((farHall weakTier []).tier t).state ≠ TierState.unsynced) ∧
    (∀ (t : Tier),
      (farHall weakTier []).installed t = true →
        (layoutEntry farLayout t).present = true →
          (farHall weakTier []).fsu.showLock.getLsbD t = false ∧
            ((farHall weakTier []).tier t).state ≠ TierState.faulted ∧
              (t ≠ 0 →
                (farHall weakTier []).cmdPos t =
                  { slew := (layoutEntry farLayout t).slew,
                    tilt := min (layoutEntry farLayout t).tilt ((farHall weakTier []).prof t).tiltMax })) ∧
    (farHall weakTier []).installed 0 = true ∧
    layoutEntry farLayout 0 = farEntry ∧
    farEntry.present = true ∧
    ((farHall weakTier []).cmdPos 0 ≠
      { slew := farEntry.slew, tilt := min farEntry.tilt ((farHall weakTier []).prof 0).tiltMax }) ∧
    0 + 1 = ((farHall weakTier []).convTiersOf farLayout).length ∧
    dirOfCode farEntry.dir.toNat = some DirArg.cw ∧
    (convEntry =
      { kind := EntryKind.move, tier := 0, members := [], cls := some MClass.convert, targetSlew := some farEntry.slew,
        dir := some (resolveDir DirArg.cw ((farHall weakTier []).cmdPos 0).slew (some farEntry.slew)),
        targetTilt := some (min farEntry.tilt ((farHall weakTier []).prof 0).tiltMax), auto := false,
        origin := Origin.conversion, bypass := 0, sample := SampleState.none }) ∧
    (∀ (t : Fin 12),
      (oneConv droppedConv).get t =
        if t = 0 then droppedConv
        else
          if (farHall weakTier []).installed t = true ∧ (layoutEntry farLayout t).present = true then
            { status := ConvStatus.done, entry := ConvEntry.none, releaseWanted := false }
          else { status := ConvStatus.out, entry := ConvEntry.none, releaseWanted := false }) ∧
    ((farHall weakTier []).tier 0).state = TierState.secured ∧
    (Code.brake = if ((farHall weakTier []).profiles.get 0).valid = false then Code.profile else Code.brake) ∧
    (((farHall weakTier []).profiles.get 0).valid = false ∨ ((farHall weakTier []).tier 0).brakeWeak = true) ∧
    droppedConv = { status := ConvStatus.dropped, entry := ConvEntry.none, releaseWanted := false } := by decide +kernel

theorem witness_ConvertTaken_6 :
    ((slotHall .blank).Handles ∧
      slotOf 16 = none) ∧
    (failsafeHall.Handles ∧
      slotOf 3 = some 3 ∧
      failsafeHall.fsu.failsafe ≠ none) ∧
    (runningConv.Handles ∧
      runningConv.fsu.failsafe = none ∧
      (runningConv.convActive = true ∨ runningConv.nvs.op ≠ none)) := by decide +kernel

theorem witness_ConvertTaken_7 :
    ((slotHall .blank).Handles ∧
      slotOf 3 = some 3 ∧
      (slotHall .blank).fsu.failsafe = none ∧
      (slotHall .blank).convActive = false ∧
      (slotHall .blank).nvs.op = none ∧
      ((slotHall .blank).slot 3 = .blank ∨
        (slotHall .blank).slot 3 = .bad ∧ BitVec.getLsbD (slotHall .blank).fsu.device 10 = true)) ∧
    (storeFault.Handles ∧
      storeFault.fsu.failsafe = none ∧
      storeFault.convActive = false ∧
      storeFault.nvs.op = none ∧
      (storeFault.slot 3 = .blank ∨ storeFault.slot 3 = .bad ∧ storeFault.fsu.device.getLsbD 10 = true)) ∧
    ((slotHall .bad).Handles ∧
      (slotHall .bad).fsu.failsafe = none ∧
      (slotHall .bad).convActive = false ∧
      (slotHall .bad).nvs.op = none ∧
      (slotHall .bad).slot 3 = .bad ∧
      BitVec.getLsbD (slotHall .bad).fsu.device 10 = false ∧
      (slotHall .bad).Room 1) := by decide +kernel

theorem witness_ConvertTaken_8 :
    ((homeWith .unsynced).Handles ∧
      slotOf 3 = some 3 ∧
      (homeWith .unsynced).fsu.failsafe = none ∧
      (homeWith .unsynced).convActive = false ∧
      (homeWith .unsynced).nvs.op = none ∧
      (homeWith .unsynced).slot 3 = .written farLayout ∧
      (∃ t,
        (homeWith .unsynced).installed t = true ∧ ((homeWith .unsynced).tier t).state = .unsynced)) ∧
    (homeShown.Handles ∧
      homeShown.fsu.failsafe = none ∧
      homeShown.convActive = false ∧
      homeShown.nvs.op = none ∧
      homeShown.slot 3 = .written farLayout ∧
      (∀ (t : Tier), homeShown.installed t = true → (homeShown.tier t).state ≠ .unsynced) ∧
      (∃ t,
        homeShown.installed t = true ∧
          (layoutEntry farLayout t).present = true ∧ homeShown.fsu.showLock.getLsbD t = true)) ∧
    ((homeWith .faulted).Handles ∧
      (homeWith .faulted).fsu.failsafe = none ∧
      (homeWith .faulted).convActive = false ∧
      (homeWith .faulted).nvs.op = none ∧
      (homeWith .faulted).slot 3 = .written farLayout ∧
      (∀ (t : Tier),
        (homeWith .faulted).installed t = true → ((homeWith .faulted).tier t).state ≠ .unsynced) ∧
      (∀ (t : Tier),
        (homeWith .faulted).installed t = true →
          (layoutEntry farLayout t).present = true → (homeWith .faulted).fsu.showLock.getLsbD t = false) ∧
      (∃ t,
        (homeWith .faulted).installed t = true ∧
          (layoutEntry farLayout t).present = true ∧ ((homeWith .faulted).tier t).state = .faulted)) := by decide +kernel

theorem witness_ConvertAbortEnds_1 :
    ((hall (standing .secured)).Handles ∧
      (hall (standing .secured)).Room 2 ∧
      (hall (standing .secured)).cu.state ∈ [.idle, .aborting, .done, .aborted]) ∧
    (stalledHall.Handles ∧
      stalledHall.Room 2 ∧
      (stalledHall.cu.state = .running ∨ stalledHall.cu.state = .stalled) ∧
      (∀ e ∈ stalledHall.aa.queue, e.origin ≠ .conversion) ∧
      (∀ t, (stalledHall.convTier t).status ≠ .moving) ∧
      (∀ t, (stalledHall.convTier t).status = .waiting → (stalledHall.convTier t).entry = .pending)) := by decide +kernel

theorem witness_ConvertAbortEnds_2 :
    (convHall (standing .ready) [convEntry] queuedConv).Handles ∧
    (convHall (standing .ready) [convEntry] queuedConv).Room 2 ∧
    (convHall (standing .ready) [convEntry] queuedConv).cu.state = .running ∧
    ((convHall (standing .ready) [convEntry] queuedConv).aa.queue.filter fun q => decide (q.origin = .conversion)) =
      [convEntry] ∧
    convEntry.tier = 0 ∧
    ((convHall (standing .ready) [convEntry] queuedConv).convTier 0).status = .waiting ∧
    ((convHall (standing .ready) [convEntry] queuedConv).convTier 0).entry = .queued ∧
    (∀ t, ((convHall (standing .ready) [convEntry] queuedConv).convTier t).status ≠ .moving) ∧
    (∀ t, t ≠ 0 → ((convHall (standing .ready) [convEntry] queuedConv).convTier t).status = .waiting →
      ((convHall (standing .ready) [convEntry] queuedConv).convTier t).entry = .pending) := by decide +kernel

theorem witness_ConvertAbortEnds_3 :
    (convHall (movingTier .none) [] movingConv).Handles ∧
    (convHall (movingTier .none) [] movingConv).Room 2 ∧
    (convHall (movingTier .none) [] movingConv).cu.state = .running ∧
    (∀ e ∈ (convHall (movingTier .none) [] movingConv).aa.queue, e.origin ≠ .conversion) ∧
    (∀ t, ((convHall (movingTier .none) [] movingConv).convTier t).status = .moving ↔ t = 0) ∧
    (∀ t, ((convHall (movingTier .none) [] movingConv).convTier t).status = .waiting →
      ((convHall (movingTier .none) [] movingConv).convTier t).entry = .pending) ∧
    (convHall (movingTier .none) [] movingConv).Single 0 slewMove ∧
    ((convHall (movingTier .none) [] movingConv).tier 0).state = .moving ∧
    ((convHall (movingTier .none) [] movingConv).tier 0).stop = .none ∧
    slewMove.Brakes ((convHall (movingTier .none) [] movingConv).prof 0) := by decide +kernel

theorem witness_BudgetFits :
    (movingHall .none).Handles ∧
    ((hall (standing .ready)).Handles ∧
      (hall (standing .ready)).aa.grants = []) := by decide +kernel

theorem witness_FailsafeStops_1 :
    gangHall.fsu.failsafe = none ∧
    gangHall.aa.queue = [] ∧
    gangHall.Room 13 ∧
    gangHall.convActive = false ∧
    (∀ (t : Tier),
       gangHall.installed t = true →
         (gangHall.tier t).state ∉ [.moving, .paused, .testing] ∧
           (gangHall.tier t).move = none) := by decide +kernel

theorem witness_FailsafeStops_2 :
    (failsafeHall.Handles ∧
      failsafeHall.Room 1 ∧
      failsafeHall.fsu.failsafe = some .forced) ∧
    ((hall (standing .secured)).Handles ∧
      (hall (standing .secured)).Room 1 ∧
      (hall (standing .secured)).fsu.failsafe = none) := by decide +kernel

theorem witness_ClearFaults_1 :
    (faultedHall 1 .set).Handles ∧
    (faultedHall 1 .set).Room 2 ∧
    (faultedHall 1 .set).Names 0 0 ∧
    ((faultedHall 1 .set).tier 0).state = .faulted ∧
    ((faultedHall 1 .set).tier 0).move = none ∧
    ((faultedHall 1 .set).tier 0).act = some home ∧
    ((faultedHall 1 .set).link 0).last = some (feedback .set) ∧
    (faultedHall 1 .set).convActive = false ∧
    (homeArc =
      footprint ((faultedHall 1 .set).prof 0) home.slew
        (tiltBand (min home.tilt ((faultedHall 1 .set).prof 0).tiltMax))) ∧
    ((faultedHall 1 .set).tier 0).fault.latched &&& (faultedHall 1 .set).conditions 0 ≠ 0 := by decide +kernel

theorem witness_ClearFaults_2 :
    (blockedHall conflictHall).Handles ∧
    (blockedHall conflictHall).Room 2 ∧
    (blockedHall conflictHall).Names 0 0 ∧
    ((blockedHall conflictHall).tier 0).state = .faulted ∧
    ((blockedHall conflictHall).tier 0).move = none ∧
    ((blockedHall conflictHall).tier 0).act = some home ∧
    ((blockedHall conflictHall).link 0).last = some (feedback .set) ∧
    (blockedHall conflictHall).convActive = false ∧
    (homeArc =
      footprint ((blockedHall conflictHall).prof 0) home.slew
        (tiltBand (min home.tilt ((blockedHall conflictHall).prof 0).tiltMax))) ∧
    BitVec.getLsbD ((blockedHall conflictHall).tier 0).fault.latched 7 = true ∧
    (blockedHall conflictHall).fm.allFree homeArc = false := by decide +kernel

theorem witness_ClearFaults_3 :
    conflictHall.Handles ∧
    conflictHall.Room 2 ∧
    conflictHall.Names 0 0 ∧
    (conflictHall.tier 0).state = .faulted ∧
    (conflictHall.tier 0).move = none ∧
    (conflictHall.tier 0).act = some home ∧
    (conflictHall.link 0).last = some (feedback .set) ∧
    conflictHall.convActive = false ∧
    homeArc = footprint (conflictHall.prof 0) home.slew (tiltBand (min home.tilt (conflictHall.prof 0).tiltMax)) ∧
    BitVec.getLsbD (conflictHall.tier 0).fault.latched 7 = true ∧
    (conflictHall.tier 0).fault.latched &&& conflictHall.conditions 0 = 0 ∧
    conflictHall.fm.allFree homeArc = true ∧
    (feedback .set).brake = .set := by decide +kernel

theorem witness_ClearFaults_4 :
    (blockedHall (faultedHall 0 .set)).Handles ∧
    (blockedHall (faultedHall 0 .set)).Room 2 ∧
    (blockedHall (faultedHall 0 .set)).Names 0 0 ∧
    ((blockedHall (faultedHall 0 .set)).tier 0).state = .faulted ∧
    ((blockedHall (faultedHall 0 .set)).tier 0).move = none ∧
    ((blockedHall (faultedHall 0 .set)).tier 0).act = some home ∧
    ((blockedHall (faultedHall 0 .set)).link 0).last = some (feedback .set) ∧
    (blockedHall (faultedHall 0 .set)).convActive = false ∧
    (homeArc =
      footprint ((blockedHall (faultedHall 0 .set)).prof 0) home.slew
        (tiltBand (min home.tilt ((blockedHall (faultedHall 0 .set)).prof 0).tiltMax))) ∧
    BitVec.getLsbD ((blockedHall (faultedHall 0 .set)).tier 0).fault.latched 7 = false ∧
    (blockedHall (faultedHall 0 .set)).fm.canPlace 0 [] homeArc = false := by decide +kernel

theorem witness_ClearFaults_5 :
    (faultedHall 0 .set).Handles ∧
    (faultedHall 0 .set).Room 2 ∧
    (faultedHall 0 .set).Names 0 0 ∧
    ((faultedHall 0 .set).tier 0).state = .faulted ∧
    ((faultedHall 0 .set).tier 0).move = none ∧
    ((faultedHall 0 .set).tier 0).act = some home ∧
    ((faultedHall 0 .set).link 0).last = some (feedback .set) ∧
    (faultedHall 0 .set).convActive = false ∧
    (homeArc =
      footprint ((faultedHall 0 .set).prof 0) home.slew
        (tiltBand (min home.tilt ((faultedHall 0 .set).prof 0).tiltMax))) ∧
    BitVec.getLsbD ((faultedHall 0 .set).tier 0).fault.latched 7 = false ∧
    ((faultedHall 0 .set).tier 0).fault.latched &&& (faultedHall 0 .set).conditions 0 = 0 ∧
    (faultedHall 0 .set).fm.canPlace 0 [] homeArc = true ∧
    (feedback .set).brake = .set := by decide +kernel

theorem witness_ClearFaults_6 :
    (faultedHall 0 .between).Handles ∧
    (faultedHall 0 .between).Room 2 ∧
    (faultedHall 0 .between).Names 0 0 ∧
    ((faultedHall 0 .between).tier 0).state = .faulted ∧
    ((faultedHall 0 .between).tier 0).move = none ∧
    ((faultedHall 0 .between).tier 0).act = some home ∧
    ((faultedHall 0 .between).link 0).last = some (feedback .between) ∧
    (faultedHall 0 .between).convActive = false ∧
    (homeArc =
      footprint ((faultedHall 0 .between).prof 0) home.slew
        (tiltBand (min home.tilt ((faultedHall 0 .between).prof 0).tiltMax))) ∧
    BitVec.getLsbD ((faultedHall 0 .between).tier 0).fault.latched 7 = false ∧
    ((faultedHall 0 .between).tier 0).fault.latched &&& (faultedHall 0 .between).conditions 0 = 0 ∧
    (faultedHall 0 .between).fm.canPlace 0 [] homeArc = true ∧
    (feedback .between).brake ≠ .set := by decide +kernel

theorem witness_ClearFaults_7 :
    ((deviceHall 1024).Handles ∧
      (deviceHall 1024).Room 1 ∧
      (∀ t, (deviceHall 1024).installed t = true → ((deviceHall 1024).tier t).state ≠ .faulted) ∧
      (deviceHall 1024).fsu.device.getLsbD 10 = true) ∧
    ((faultedHall 1 .set).Handles ∧
      (faultedHall 1 .set).Room 1 ∧
      (faultedHall 1 .set).fsu.device.getLsbD 10 = false ∧
      (∀ t, (faultedHall 1 .set).installed t = true → ((faultedHall 1 .set).tier t).state = .faulted →
        ((faultedHall 1 .set).tier t).fault.latched &&& (faultedHall 1 .set).conditions t ≠ 0)) ∧
    ((hall (standing .ready)).Handles ∧
      (hall (standing .ready)).Room 1 ∧
      (hall (standing .ready)).fsu.device.getLsbD 10 = false ∧
      (∀ t, (hall (standing .ready)).installed t = true → ((hall (standing .ready)).tier t).state ≠ .faulted)) := by
  decide +kernel

theorem witness_ShowLockStops :
    (gangHall.Handles ∧
      (4097#16).toNat ≥ 4096) ∧
    ((3#16).toNat < 4096 ∧
      gangHall.Room 12 ∧
      gangHall.aa.queue = [] ∧
      (∀ (t : Tier),
         gangHall.installed t = true →
           (gangHall.tier t).state ≠ .moving ∧ (gangHall.tier t).state ≠ .paused)) := by decide +kernel

theorem witness_SafetyStopsMoving_1 :
    ((movingHall .none).Handles ∧
      (movingHall .none).Room 9 ∧
      (movingHall .none).fsu.failsafe = none ∧
      (movingHall .none).convActive = false ∧
      (movingHall .none).installed 0 = true ∧
      (∀ (u : Tier),
        u ≠ 0 → (movingHall .none).installed u = true → ((movingHall .none).tier u).state = .secured) ∧
      (movingHall .none).aa.queue = [] ∧
      (movingHall .none).Single 0 slewMove ∧
      ((movingHall .none).tier 0).state = .moving ∧
      ((movingHall .none).tier 0).stop = .none ∧
      slewMove.Brakes ((movingHall .none).prof 0)) ∧
    ((movingHall .quick).Handles ∧
      (movingHall .quick).Room 9 ∧
      (movingHall .quick).fsu.failsafe = none ∧
      (movingHall .quick).convActive = false ∧
      (movingHall .quick).installed 0 = true ∧
      (∀ (u : Tier),
        u ≠ 0 → (movingHall .quick).installed u = true → ((movingHall .quick).tier u).state = .secured) ∧
      (movingHall .quick).aa.queue = [] ∧
      (movingHall .quick).Single 0 slewMove ∧
      ((movingHall .quick).tier 0).state = .moving ∧
      ((movingHall .quick).tier 0).stop = .quick) := by decide +kernel

theorem witness_SafetyStopsMoving_2 :
    (pausedFloor.Handles ∧
      pausedFloor.Room 9 ∧
      pausedFloor.fsu.failsafe = none ∧
      pausedFloor.convActive = false ∧
      pausedFloor.installed 0 = true ∧
      (∀ (u : Tier), u ≠ 0 → pausedFloor.installed u = true → (pausedFloor.tier u).state = .secured) ∧
      pausedFloor.aa.queue = [] ∧
      pausedFloor.Single 0 slewMove ∧
      slewMove.origin = .link ∧
      (pausedFloor.tier 0).state = .paused ∧
      (pausedFloor.tier 0).cmd = some home ∧
      pausedFloor.fm.canPlace 0 [] (pausedFloor.standing 0) = true ∧
      (pausedFloor.aa.grants.any fun g => g.names 0) = true) ∧
    ((settleless pausedFloor).Handles ∧
      (settleless pausedFloor).Room 9 ∧
      (settleless pausedFloor).fsu.failsafe = none ∧
      (settleless pausedFloor).convActive = false ∧
      (settleless pausedFloor).installed 0 = true ∧
      (∀ (u : Tier),
        u ≠ 0 → (settleless pausedFloor).installed u = true → ((settleless pausedFloor).tier u).state = .secured) ∧
      (settleless pausedFloor).aa.queue = [] ∧
      (settleless pausedFloor).Single 0 slewMove ∧
      ((settleless pausedFloor).tier 0).state = .paused ∧
      ((settleless pausedFloor).tier 0).cmd = some home ∧
      (settleless pausedFloor).fm.canPlace 0 [] ((settleless pausedFloor).standing 0) = true ∧
      ((settleless pausedFloor).aa.grants.any fun g => g.names 0) = true) := by decide +kernel

theorem witness_SafetyStopsMoving_3 :
    ((testingHall none).Handles ∧
      (testingHall none).Room 9 ∧
      (testingHall none).fsu.failsafe = none ∧
      (testingHall none).convActive = false ∧
      (testingHall none).installed 0 = true ∧
      (∀ (u : Tier), u ≠ 0 → (testingHall none).installed u = true → ((testingHall none).tier u).state = .secured) ∧
      (testingHall none).aa.queue = [] ∧
      ((testingHall none).tier 0).state = .testing ∧
      ((testingHall none).tier 0).test = some (testRec none) ∧
      ((testingHall none).aa.grants.any fun g => g.names 0) = true) ∧
    ((queueHall .secured [entry, testEntry0]).Handles ∧
      (queueHall .secured [entry, testEntry0]).Room 9 ∧
      (queueHall .secured [entry, testEntry0]).fsu.failsafe = none ∧
      (queueHall .secured [entry, testEntry0]).convActive = false ∧
      (queueHall .secured [entry, testEntry0]).installed 0 = true ∧
      (∀ (u : Tier),
        u ≠ 0 →
          (queueHall .secured [entry, testEntry0]).installed u = true →
            ((queueHall .secured [entry, testEntry0]).tier u).state = .secured) ∧
      ((queueHall .secured [entry, testEntry0]).tier 0).state = .secured ∧
      (queueHall .secured [entry, testEntry0]).aa.queue.length ≤ 8 ∧
      (∀ e ∈ (queueHall .secured [entry, testEntry0]).aa.queue, e.origin = .link)) := by decide +kernel

theorem witness_SafetyStopsMoving_4 :
    ((movingHall .none).Handles ∧
      (movingHall .none).Room 2 ∧
      (1#16).toNat < 4096 ∧
      (∀ (u : Tier), (1#16).getLsbD u = decide (u = 0)) ∧
      (movingHall .none).installed 0 = true ∧
      (movingHall .none).fsu.showLock.getLsbD 0 = false ∧
      (movingHall .none).entryOf 0 = none ∧
      (movingHall .none).Single 0 slewMove ∧
      ((movingHall .none).tier 0).state = .moving ∧
      ((movingHall .none).tier 0).stop = .none ∧
      slewMove.Brakes ((movingHall .none).prof 0)) ∧
    (pausedFloor.Handles ∧
      pausedFloor.Room 2 ∧
      pausedFloor.installed 0 = true ∧
      pausedFloor.fsu.showLock.getLsbD 0 = false ∧
      pausedFloor.Room 3 ∧
      pausedFloor.entryOf 0 = none ∧
      pausedFloor.Single 0 slewMove ∧
      slewMove.origin = .link ∧
      (pausedFloor.tier 0).state = .paused ∧
      (pausedFloor.tier 0).cmd = some home ∧
      pausedFloor.fm.canPlace 0 [] (pausedFloor.standing 0) = true ∧
      (pausedFloor.aa.grants.any fun g => g.names 0) = true) := by decide +kernel

theorem witness_SafetyStopsMoving_5 :
    (settleless pausedFloor).Handles ∧
    (settleless pausedFloor).Room 2 ∧
    (1#16).toNat < 4096 ∧
    (∀ (u : Tier), (1#16).getLsbD u = decide (u = 0)) ∧
    (settleless pausedFloor).installed 0 = true ∧
    (settleless pausedFloor).fsu.showLock.getLsbD 0 = false ∧
    (settleless pausedFloor).Room 3 ∧
    (settleless pausedFloor).entryOf 0 = none ∧
    (settleless pausedFloor).Single 0 slewMove ∧
    slewMove.origin = .link ∧
    ((settleless pausedFloor).tier 0).state = .paused ∧
    ((settleless pausedFloor).tier 0).cmd = some home ∧
    (settleless pausedFloor).fm.canPlace 0 [] ((settleless pausedFloor).standing 0) = true ∧
    ((settleless pausedFloor).aa.grants.any fun g => g.names 0) = true := by decide +kernel

theorem witness_SafetyStopsMoving_6 :
    ((queueHall .secured [entry]).Handles ∧
      (queueHall .secured [entry]).Room 2 ∧
      (1#16).toNat < 4096 ∧
      (∀ (u : Tier), (1#16).getLsbD u = decide (u = 0)) ∧
      (queueHall .secured [entry]).installed 0 = true ∧
      (queueHall .secured [entry]).fsu.showLock.getLsbD 0 = false ∧
      (queueHall .secured [entry]).entryOf 0 = some entry ∧
      entry.origin = .link ∧
      (((queueHall .secured [entry]).tier 0).state ∈
        [.unsynced, .secured, .securing, .testing, .faulted])) ∧
    ((queueHall .ready [entry]).Handles ∧
      (queueHall .ready [entry]).Room 2 ∧
      (queueHall .ready [entry]).installed 0 = true ∧
      (queueHall .ready [entry]).fsu.showLock.getLsbD 0 = false ∧
      (queueHall .ready [entry]).entryOf 0 = some entry ∧
      ((queueHall .ready [entry]).tier 0).state = .ready) := by decide +kernel

theorem witness_KeyedRequests :
    (lockedHall.Handles ∧
      (4096#16).toNat ≥ 4096) ∧
    (0 = 0) ∧
    (keyHall.Handles ∧
      0 < (4095#16).toNat ∧
      (4095#16).toNat < 4096 ∧
      keyHall.fsu.key = true) ∧
    (0 < (1#16).toNat ∧
      (1#16).toNat < 4096 ∧
      lockedHall.fsu.key = false) ∧
    (2 < (3#8).toNat) ∧
    ((2#8).toNat ≤ 2) ∧
    ((0#8).toNat ≤ 2) ∧
    ((hall (standing .ready)).Handles ∧
      (1#8).toNat ≤ 2) := by decide +kernel

theorem witness_SiteSetTaken_1 :
    (onceHall.Handles ∧
      onceHall.siteSetTaken = true) ∧
    (emptyHall.Handles ∧
      emptyHall.siteSetTaken = false ∧
      (4096 ≤ zeroCreep.installed.toNat ∨ 4096 ≤ zeroCreep.showLock.toNat ∨ 4096 ≤ zeroCreep.masks.toNat ∨
        zeroCreep.creep = 0 ∨ 16 < zeroCreep.boundary.toNat ∨ 8 < zeroCreep.watchdog.toNat)) ∧
    (siteMsg.installed.toNat < 4096 ∧
      siteMsg.showLock.toNat < 4096 ∧
      siteMsg.masks.toNat < 4096 ∧
      siteMsg.creep ≠ 0 ∧
      siteMsg.boundary.toNat ≤ 16 ∧
      watchdogOfCode siteMsg.watchdog = some (.timed 200) ∧
      emptyHall.site.installed = 0 ∧
      emptyHall.Room 12) ∧
    ((hall (standing .ready)).Handles ∧
      (hall (standing .ready)).siteSetTaken = false ∧
      ∃ t, (hall (standing .ready)).installed t = true ∧ ((hall (standing .ready)).tier t).state ∉ [.secured, .unsynced]) := by
  decide +kernel

theorem witness_SiteSetTaken_2 :
    (floorHall [entry]).Handles ∧
    (floorHall [entry]).siteSetTaken = false ∧
    emptySite.showLock.toNat < 4096 ∧
    emptySite.masks.toNat < 4096 ∧
    emptySite.creep ≠ 0 ∧
    emptySite.boundary.toNat ≤ 16 ∧
    watchdogOfCode emptySite.watchdog = some (.timed 200) ∧
    (floorHall [entry]).Room 1 ∧
    (∀ u, (floorHall [entry]).installed u = true ↔ u = 0) ∧
    emptySite.installed = 0 ∧
    ((floorHall [entry]).tier 0).state = .secured ∧
    (floorHall [entry]).convActive = false ∧
    (floorHall [entry]).fm.ownsAny 0 = true ∧
    (floorHall [entry]).aa.queue = [entry] ∧
    entry.tier = 0 ∧
    entry.origin = .link := by decide +kernel

theorem witness_ProfilePutTaken_1 :
    (lockedHall.Handles ∧
      lockedHall.Room 1 ∧
      tierOf 0 = some 0 ∧
      lockedHall.fsu.profilesLocked = true) ∧
    ((hall (standing .ready)).Handles ∧
      (hall (standing .ready)).Room 1 ∧
      (hall (standing .ready)).fsu.profilesLocked = false ∧
      (hall (standing .ready)).installed 0 = true ∧
      ((hall (standing .ready)).tier 0).state ∉ [.secured, .unsynced]) ∧
    ((hall (standing .secured)).Handles ∧
      (hall (standing .secured)).Room 1 ∧
      (lightProf =
        { tare := lightProf.tare, vacancyLimit := lightProf.vacancyLimit, extL := lightProf.extL, extR := lightProf.extR,
          slewMax := min lightProf.slewMax 2047, slewAcc := lightProf.slewAcc, tiltSpeed := min lightProf.tiltSpeed 63,
          tiltAcc := min lightProf.tiltAcc 15, tiltMax := lightProf.tiltMax, hold := lightProf.hold,
          slewFollow := lightProf.slewFollow, tiltFollow := lightProf.tiltFollow, releaseTimeout := lightProf.releaseTimeout,
          secureTimeout := lightProf.secureTimeout, settleTime := lightProf.settleTime, loadScale := lightProf.loadScale,
          testTorque := lightProf.testTorque, testDuration := lightProf.testDuration, slipLimit := lightProf.slipLimit }) ∧
      (hall (standing .secured)).fsu.profilesLocked = false ∧
      ((hall (standing .secured)).installed 0 = true →
        ((hall (standing .secured)).tier 0).state ∈ [.secured, .unsynced]) ∧
      profileLegal lightProf = false) := by decide +kernel

theorem witness_ProfilePutTaken_2 :
    (configHall.Handles ∧
      configHall.Room 1 ∧
      tierOf 0 = some 0 ∧
      (fastProf 2047 =
        { tare := (fastProf 2048).tare, vacancyLimit := (fastProf 2048).vacancyLimit, extL := (fastProf 2048).extL,
          extR := (fastProf 2048).extR, slewMax := min (fastProf 2048).slewMax 2047, slewAcc := (fastProf 2048).slewAcc,
          tiltSpeed := min (fastProf 2048).tiltSpeed 63, tiltAcc := min (fastProf 2048).tiltAcc 15,
          tiltMax := (fastProf 2048).tiltMax, hold := (fastProf 2048).hold, slewFollow := (fastProf 2048).slewFollow,
          tiltFollow := (fastProf 2048).tiltFollow, releaseTimeout := (fastProf 2048).releaseTimeout,
          secureTimeout := (fastProf 2048).secureTimeout, settleTime := (fastProf 2048).settleTime,
          loadScale := (fastProf 2048).loadScale, testTorque := (fastProf 2048).testTorque,
          testDuration := (fastProf 2048).testDuration, slipLimit := (fastProf 2048).slipLimit }) ∧
      configHall.fsu.profilesLocked = false ∧
      profileLegal (fastProf 2047) = true ∧
      ((configHall.installed 0 = true → (configHall.tier 0).state = .unsynced) ∧
          configHall.fm = configHall.fm ∧ 0 = 0 ∨
        configHall.installed 0 = true ∧
          (configHall.tier 0).state = .secured ∧
            (configHall.cmdPos 0).tilt ≤ (fastProf 2047).tiltMax ∧
              (configHall.extentsDiffer 0 (fastProf 2047) = false ∧ configHall.fm = configHall.fm ∧ 0 = 0 ∨
                configHall.extentsDiffer 0 (fastProf 2047) = true ∧
                  configHall.fm.canPlace 0 []
                        (footprint (fastProf 2047) (configHall.cmdPos 0).slew (tiltBand (configHall.cmdPos 0).tilt)) =
                      true ∧
                    configHall.fm =
                        configHall.fm.place 0
                          (footprint (fastProf 2047) (configHall.cmdPos 0).slew (tiltBand (configHall.cmdPos 0).tilt)) ∧
                      0 =
                        if
                            ((configHall.standing 0).cells.any fun g =>
                                !(footprint (fastProf 2047) (configHall.cmdPos 0).slew
                                        (tiltBand (configHall.cmdPos 0).tilt)).mem
                                    g) =
                              true then
                          1
                        else 0))) ∧
    ((hall (standing .ready)).Handles ∧
      (hall (standing .ready)).Room 1 ∧
      tierOf 5 = some 5 ∧
      (prof =
        { tare := prof.tare, vacancyLimit := prof.vacancyLimit, extL := prof.extL, extR := prof.extR,
          slewMax := min prof.slewMax 2047, slewAcc := prof.slewAcc, tiltSpeed := min prof.tiltSpeed 63,
          tiltAcc := min prof.tiltAcc 15, tiltMax := prof.tiltMax, hold := prof.hold, slewFollow := prof.slewFollow,
          tiltFollow := prof.tiltFollow, releaseTimeout := prof.releaseTimeout, secureTimeout := prof.secureTimeout,
          settleTime := prof.settleTime, loadScale := prof.loadScale, testTorque := prof.testTorque,
          testDuration := prof.testDuration, slipLimit := prof.slipLimit }) ∧
      (hall (standing .ready)).fsu.profilesLocked = false ∧
      profileLegal prof = true ∧
      (((hall (standing .ready)).installed 5 = true →
            ((hall (standing .ready)).tier 5).state = .unsynced) ∧
          (hall (standing .ready)).fm = (hall (standing .ready)).fm ∧ 0 = 0 ∨
        (hall (standing .ready)).installed 5 = true ∧
          ((hall (standing .ready)).tier 5).state = .secured ∧
            ((hall (standing .ready)).cmdPos 5).tilt ≤ prof.tiltMax ∧
              ((hall (standing .ready)).extentsDiffer 5 prof = false ∧
                  (hall (standing .ready)).fm = (hall (standing .ready)).fm ∧ 0 = 0 ∨
                (hall (standing .ready)).extentsDiffer 5 prof = true ∧
                  (hall (standing .ready)).fm.canPlace 5 []
                        (footprint prof ((hall (standing .ready)).cmdPos 5).slew
                          (tiltBand ((hall (standing .ready)).cmdPos 5).tilt)) =
                      true ∧
                    (hall (standing .ready)).fm =
                        (hall (standing .ready)).fm.place 5
                          (footprint prof ((hall (standing .ready)).cmdPos 5).slew
                            (tiltBand ((hall (standing .ready)).cmdPos 5).tilt)) ∧
                      0 =
                        if
                            (((hall (standing .ready)).standing 5).cells.any fun g =>
                                !(footprint prof ((hall (standing .ready)).cmdPos 5).slew
                                        (tiltBand ((hall (standing .ready)).cmdPos 5).tilt)).mem
                                    g) =
                              true then
                          1
                        else 0))) := by decide +kernel

theorem witness_ProfilePutTaken_3 :
    (floorHall []).Handles ∧
    (floorHall []).Room 1 ∧
    tierOf 0 = some 0 ∧
    (wideTier 0 =
      { tare := (wideTier 0).tare, vacancyLimit := (wideTier 0).vacancyLimit, extL := (wideTier 0).extL,
        extR := (wideTier 0).extR, slewMax := min (wideTier 0).slewMax 2047, slewAcc := (wideTier 0).slewAcc,
        tiltSpeed := min (wideTier 0).tiltSpeed 63, tiltAcc := min (wideTier 0).tiltAcc 15, tiltMax := (wideTier 0).tiltMax,
        hold := (wideTier 0).hold, slewFollow := (wideTier 0).slewFollow, tiltFollow := (wideTier 0).tiltFollow,
        releaseTimeout := (wideTier 0).releaseTimeout, secureTimeout := (wideTier 0).secureTimeout,
        settleTime := (wideTier 0).settleTime, loadScale := (wideTier 0).loadScale, testTorque := (wideTier 0).testTorque,
        testDuration := (wideTier 0).testDuration, slipLimit := (wideTier 0).slipLimit }) ∧
    (floorHall []).fsu.profilesLocked = false ∧
    profileLegal (wideTier 0) = true ∧
    (((floorHall []).installed 0 = true → ((floorHall []).tier 0).state = .unsynced) ∧
        (floorHall []).fm.place 0 { first := 80, len := 1 } = (floorHall []).fm ∧ 1 = 0 ∨
      (floorHall []).installed 0 = true ∧
        ((floorHall []).tier 0).state = .secured ∧
          ((floorHall []).cmdPos 0).tilt ≤ (wideTier 0).tiltMax ∧
            ((floorHall []).extentsDiffer 0 (wideTier 0) = false ∧
                (floorHall []).fm.place 0 { first := 80, len := 1 } = (floorHall []).fm ∧ 1 = 0 ∨
              (floorHall []).extentsDiffer 0 (wideTier 0) = true ∧
                (floorHall []).fm.canPlace 0 []
                      (footprint (wideTier 0) ((floorHall []).cmdPos 0).slew (tiltBand ((floorHall []).cmdPos 0).tilt)) =
                    true ∧
                  (floorHall []).fm.place 0 { first := 80, len := 1 } =
                      (floorHall []).fm.place 0
                        (footprint (wideTier 0) ((floorHall []).cmdPos 0).slew (tiltBand ((floorHall []).cmdPos 0).tilt)) ∧
                    1 =
                      if
                          (((floorHall []).standing 0).cells.any fun g =>
                              !(footprint (wideTier 0) ((floorHall []).cmdPos 0).slew
                                      (tiltBand ((floorHall []).cmdPos 0).tilt)).mem
                                  g) =
                            true then
                        1
                      else 0)) := by decide +kernel

theorem witness_ProfilePutTaken_4 :
    raisedHall.Handles ∧
    raisedHall.Room 1 ∧
    tierOf 0 = some 0 ∧
    (lowProf 4 =
      { tare := (lowProf 4).tare, vacancyLimit := (lowProf 4).vacancyLimit, extL := (lowProf 4).extL,
        extR := (lowProf 4).extR, slewMax := min (lowProf 4).slewMax 2047, slewAcc := (lowProf 4).slewAcc,
        tiltSpeed := min (lowProf 4).tiltSpeed 63, tiltAcc := min (lowProf 4).tiltAcc 15, tiltMax := (lowProf 4).tiltMax,
        hold := (lowProf 4).hold, slewFollow := (lowProf 4).slewFollow, tiltFollow := (lowProf 4).tiltFollow,
        releaseTimeout := (lowProf 4).releaseTimeout, secureTimeout := (lowProf 4).secureTimeout,
        settleTime := (lowProf 4).settleTime, loadScale := (lowProf 4).loadScale, testTorque := (lowProf 4).testTorque,
        testDuration := (lowProf 4).testDuration, slipLimit := (lowProf 4).slipLimit }) ∧
    raisedHall.fsu.profilesLocked = false ∧
    profileLegal (lowProf 4) = true ∧
    raisedHall.installed 0 = true ∧
    (raisedHall.tier 0).state = .secured ∧
    (lowProf 4).tiltMax < (raisedHall.cmdPos 0).tilt := by decide +kernel

theorem witness_ProfilePutTaken_5 :
    (blockedHall (hall (standing .secured))).Handles ∧
    (blockedHall (hall (standing .secured))).Room 1 ∧
    tierOf 0 = some 0 ∧
    (wideTier 2 =
      { tare := (wideTier 2).tare, vacancyLimit := (wideTier 2).vacancyLimit, extL := (wideTier 2).extL,
        extR := (wideTier 2).extR, slewMax := min (wideTier 2).slewMax 2047, slewAcc := (wideTier 2).slewAcc,
        tiltSpeed := min (wideTier 2).tiltSpeed 63, tiltAcc := min (wideTier 2).tiltAcc 15, tiltMax := (wideTier 2).tiltMax,
        hold := (wideTier 2).hold, slewFollow := (wideTier 2).slewFollow, tiltFollow := (wideTier 2).tiltFollow,
        releaseTimeout := (wideTier 2).releaseTimeout, secureTimeout := (wideTier 2).secureTimeout,
        settleTime := (wideTier 2).settleTime, loadScale := (wideTier 2).loadScale, testTorque := (wideTier 2).testTorque,
        testDuration := (wideTier 2).testDuration, slipLimit := (wideTier 2).slipLimit }) ∧
    (blockedHall (hall (standing .secured))).fsu.profilesLocked = false ∧
    profileLegal (wideTier 2) = true ∧
    (blockedHall (hall (standing .secured))).installed 0 = true ∧
    ((blockedHall (hall (standing .secured))).tier 0).state = .secured ∧
    ((blockedHall (hall (standing .secured))).cmdPos 0).tilt ≤ (wideTier 2).tiltMax ∧
    (blockedHall (hall (standing .secured))).extentsDiffer 0 (wideTier 2) = true ∧
    ((blockedHall (hall (standing .secured))).fm.canPlace 0 []
        (footprint (wideTier 2) ((blockedHall (hall (standing .secured))).cmdPos 0).slew
          (tiltBand ((blockedHall (hall (standing .secured))).cmdPos 0).tilt)) =
      false) := by decide +kernel

theorem witness_GetsAnswer :
    ((hall (standing .ready)).Handles ∧
      tierOf 12 = none) ∧
    (tierOf 11 = some 11) ∧
    (6 ≤ (6#8).toNat) ∧
    ((tripHall []).Handles ∧
      zoneOf 0 = some 0) ∧
    (zoneOf 5 = some 5) := by decide +kernel

theorem witness_ZonePutTaken_1 :
    ((hall (standing .ready)).Handles ∧
      (hall (standing .ready)).Room 1 ∧
      6 ≤ (6#8).toNat) ∧
    (lockedHall.Handles ∧
      lockedHall.Room 1 ∧
      lockedHall.fsu.zonesLocked = true) ∧
    ((movingHall .none).Handles ∧
      (movingHall .none).Room 1 ∧
      (movingHall .none).fsu.zonesLocked = false ∧
      (∃ t, (movingHall .none).claim t ≠ none)) ∧
    ((hall (standing .ready)).fsu.zonesLocked = false ∧
      (∀ (t : Tier), (hall (standing .ready)).claim t = none) ∧
      (classesOfCode (zoneMsg 3).classes = none ∨
         modeOfCode (zoneMsg 3).mode = none ∨ tripOfCode (zoneMsg 3).trip = none)) ∧
    (classesOfCode (zoneMsg 2).classes = some .both ∧
      modeOfCode (zoneMsg 2).mode = some .bar ∧
      tripOfCode (zoneMsg 2).trip = some (some 0)) := by decide +kernel

theorem witness_ZonePutTaken_2 :
    (deviceHall 512).Handles ∧
    (deviceHall 512).Room 1 ∧
    (deviceHall 512).fsu.zonesLocked = false ∧
    (∀ (t : Tier), (deviceHall 512).claim t = none) ∧
    classesOfCode (zoneMsg 2).classes = some .both ∧
    modeOfCode (zoneMsg 2).mode = some .bar ∧
    tripOfCode (zoneMsg 2).trip = some (some 0) := by decide +kernel

theorem witness_StoreRequests_1 :
    (lockedHall.Handles ∧
      slotOf 3 = some 3 ∧
      (lockedHall.fsu.profilesLocked = true ∨ lockedHall.fsu.zonesLocked = true)) ∧
    ((busyStore (.erase 3)).Handles ∧
      (busyStore (.erase 3)).fsu.profilesLocked = false ∧
      (busyStore (.erase 3)).fsu.zonesLocked = false ∧
      (busyStore (.erase 3)).nvs.op ≠ none) ∧
    ((slotHall .bad).Handles ∧
      (slotHall .bad).fsu.profilesLocked = false ∧
      (slotHall .bad).fsu.zonesLocked = false ∧
      (slotHall .bad).nvs.op = none) ∧
    ((Code.locked =
         if lockedHall.fsu.layoutsLocked = true then Code.locked
         else if lockedHall.nvs.op ≠ none then Code.busy else Code.protectedSlot) ∧
      (lockedHall.fsu.layoutsLocked = true ∨ lockedHall.nvs.op ≠ none ∨ (3 : Fin 8).val < lockedHall.nvs.boundary)) ∧
    ((Code.busy =
         if (busyStore (.erase 3)).fsu.layoutsLocked = true then Code.locked
         else if (busyStore (.erase 3)).nvs.op ≠ none then Code.busy else Code.protectedSlot) ∧
      ((busyStore (.erase 3)).fsu.layoutsLocked = true ∨
         (busyStore (.erase 3)).nvs.op ≠ none ∨ (3 : Fin 8).val < (busyStore (.erase 3)).nvs.boundary)) ∧
    (protectedHall.Handles ∧
      (Code.protectedSlot =
         if protectedHall.fsu.layoutsLocked = true then Code.locked
         else if protectedHall.nvs.op ≠ none then Code.busy else Code.protectedSlot) ∧
      (protectedHall.fsu.layoutsLocked = true ∨ protectedHall.nvs.op ≠ none ∨ (3 : Fin 8).val <
        protectedHall.nvs.boundary)) := by decide +kernel

theorem witness_StoreRequests_2 :
    ((slotHall .bad).Handles ∧
      slotOf 3 = some 3 ∧
      (slotHall .bad).fsu.layoutsLocked = false ∧
      (slotHall .bad).nvs.op = none ∧
      (slotHall .bad).nvs.boundary ≤ ↑3 ∧
      (slotHall .bad).slot 3 ≠ .blank) ∧
    ((slotHall .blank).Handles ∧
      (slotHall .blank).fsu.layoutsLocked = false ∧
      (slotHall .blank).nvs.op = none ∧
      (slotHall .blank).nvs.boundary ≤ ↑3 ∧
      (slotHall .blank).slot 3 = .blank ∧
      ((∃ t, 2 < (layoutEntry strangeLayout t).dir.toNat ∨ 11 < BitVec.toNat (layoutEntry strangeLayout t).rank) ∨
        ∃ t u,
          t ≠ u ∧
            (slotHall .blank).installed t = true ∧
              (slotHall .blank).installed u = true ∧
                (layoutEntry strangeLayout t).present = true ∧
                  (layoutEntry strangeLayout u).present = true ∧
                    (layoutEntry strangeLayout t).rank = (layoutEntry strangeLayout u).rank)) := by decide +kernel

theorem witness_StoreRequests_3 :
    (gangHall.Handles ∧
      slotOf 3 = some 3 ∧
      gangHall.fsu.layoutsLocked = false ∧
      gangHall.nvs.op = none ∧
      gangHall.nvs.boundary ≤ ↑3 ∧
      gangHall.slot 3 = .blank ∧
      ((∃ t, 2 < (layoutEntry twinLayout t).dir.toNat ∨ 11 < BitVec.toNat (layoutEntry twinLayout t).rank) ∨
        ∃ t u,
          t ≠ u ∧
            gangHall.installed t = true ∧
              gangHall.installed u = true ∧
                (layoutEntry twinLayout t).present = true ∧
                  (layoutEntry twinLayout u).present = true ∧
                    (layoutEntry twinLayout t).rank = (layoutEntry twinLayout u).rank)) ∧
    16 ≤ (16#8).toNat := by decide +kernel

theorem witness_StoreRequests_4 :
    (slotHall .blank).Handles ∧
    slotOf 3 = some 3 ∧
    (slotHall .blank).fsu.layoutsLocked = false ∧
    (slotHall .blank).nvs.op = none ∧
    (slotHall .blank).nvs.boundary ≤ ↑3 ∧
    (slotHall .blank).slot 3 = .blank ∧
    (∀ (t : Tier),
      (layoutEntry homeLayout t).dir.toNat ≤ 2 ∧
        BitVec.toNat (layoutEntry homeLayout t).rank ≤ 11 ∧ (layoutEntry homeLayout t).tilt < 32768) ∧
    (∀ (t u : Tier),
      t ≠ u →
        (slotHall .blank).installed t = true →
          (slotHall .blank).installed u = true →
            (layoutEntry homeLayout t).present = true →
              (layoutEntry homeLayout u).present = true →
                (layoutEntry homeLayout t).rank ≠ (layoutEntry homeLayout u).rank) := by decide +kernel

theorem witness_StoreRequests_5 :
    ((hall (standing .ready)).Handles ∧
      16 < (17#8).toNat) ∧
    (lockedHall.Handles ∧
      (16#8).toNat ≤ 16 ∧
      lockedHall.fsu.layoutsLocked = true) ∧
    (protectedHall.Handles ∧
      (3#8).toNat ≤ 16 ∧
      protectedHall.fsu.layoutsLocked = false ∧
      (3#8).toNat < protectedHall.nvs.boundary) ∧
    ((busyStore (.erase 3)).Handles ∧
      (busyStore (.erase 3)).fsu.layoutsLocked = false ∧
      (busyStore (.erase 3)).nvs.boundary ≤ (16#8).toNat) ∧
    ((4#8).toNat ≤ 16 ∧
      protectedHall.nvs.boundary ≤ (4#8).toNat) := by decide +kernel

theorem witness_StoreCompletes_1 :
    ((busyStore (.write 3 homeLayout)).Room 2 ∧
      (busyStore (.write 3 homeLayout)).phase = .running ∧
      (busyStore (.write 3 homeLayout)).nvs.op = some (.write 3 homeLayout) ∧
      0 = 0) ∧
    ((busyStore (.erase 3)).Room 2 ∧
      (busyStore (.erase 3)).phase = .running ∧
      (busyStore (.erase 3)).nvs.op = some (.erase 3)) ∧
    (7 ≠ 0 ∧
      BitVec.getLsbD (busyStore (.write 3 homeLayout)).fsu.device 10 = false) ∧
    ((slotHall (.written homeLayout)).Room 2 ∧
      (slotHall (.written homeLayout)).Handles ∧
      slotOf 3 = some 3 ∧
      (slotHall (.written homeLayout)).nvs.op = none ∧
      (slotHall (.written homeLayout)).slot 3 = .written homeLayout) ∧
    ((slotHall .bad).Room 2 ∧
      (slotHall .bad).Handles ∧
      (slotHall .bad).nvs.op = none ∧
      ((slotHall .bad).slot 3 = .blank ∨ (slotHall .bad).slot 3 = .bad)) := by decide +kernel

theorem witness_StoreCompletes_2 :
    ((busyStore (.erase 3)).Room 2 ∧
      (busyStore (.erase 3)).Handles ∧
      slotOf 3 = some 3 ∧
      (busyStore (.erase 3)).nvs.op ≠ none) ∧
    ((busyStore (.save Site.default Profile.defaults none)).phase = .running ∧
      (busyStore (.save Site.default Profile.defaults none)).Room 1 ∧
      ((busyStore (.save Site.default Profile.defaults none)).nvs.op =
         some (.save Site.default Profile.defaults none))) := by decide +kernel

theorem witness_QueriesAnswer :
    ((movingHall .none).Handles ∧
      tierOf 0 = some 0) ∧
    (tierOf 12 = none) ∧
    ((queueHall .ready [entry]).Handles) := by decide +kernel

theorem witness_QueryMapAnswers :
    ((movingHall .none).Handles ∧
      (0 = 0 ∨ 64 < (0#8).toNat)) ∧
    ((65 = 0 ∨ 64 < (65#8).toNat)) ∧
    (0 < (64#8).toNat ∧
      (64#8).toNat ≤ 64) := by decide +kernel

theorem witness_RestartTaken :
    ((hall (standing .ready)).Handles ∧
      ((∃ t,
           (hall (standing .ready)).installed t = true ∧
             ((hall (standing .ready)).tier t).state ∉ [.secured, .unsynced]) ∨
         (hall (standing .ready)).nvs.op ≠ none)) ∧
    ((hall (standing .secured)).Handles ∧
      (∀ (t : Tier),
         (hall (standing .secured)).installed t = true →
           ((hall (standing .secured)).tier t).state ∈ [.secured, .unsynced]) ∧
      (hall (standing .secured)).nvs.op = none) ∧
    ((linkHall (restartPort .waiting)).phase = .running ∧
      (linkHall (restartPort .waiting)).clp.restart ≠ .none ∧
      (Instr.release 7 0).carried = some (7, Request.release 0)) := by decide +kernel

theorem witness_IntervalStanding_1 :
    ((hall (standing .ready)).phase = .running ∧ (hall (standing .ready)).installed 1 = false ∧
      ((hall (standing .ready)).tier 1).state = .unsynced ∧ (hall (standing .ready)).installed 0 = true ∧
      ((hall (standing .ready)).tier 0).state = .ready ∧
      homeRecord true .normal 0 = ⟨0, ((hall (standing .ready)).cmdPos 0).slew, ((hall (standing .ready)).cmdPos
        0).tilt, true,
        .normal, 0⟩ ∧
      ∀ x ∈ (hall (standing .ready)).dlp.txList, x.tier ≠ 0) ∧
    ((sendingHall .secured [setpoint 1, setpoint 0]).phase = .running ∧
      (sendingHall .secured [setpoint 1, setpoint 0]).installed 0 = true ∧
      ((sendingHall .secured [setpoint 1, setpoint 0]).tier 0).state = .secured ∧
      homeRecord false .normal 0 = ⟨0, ((sendingHall .secured [setpoint 1, setpoint 0]).cmdPos 0).slew,
        ((sendingHall .secured [setpoint 1, setpoint 0]).cmdPos 0).tilt, false, .normal, 0⟩ ∧
      ∃ x ∈ (sendingHall .secured [setpoint 1, setpoint 0]).dlp.txList, x.tier = 0) := by decide +kernel

theorem witness_IntervalStanding_2 :
    ((sendingHall .secured [setpoint 0, setpoint 1]).phase = .running ∧
      (sendingHall .secured [setpoint 0, setpoint 1]).dlp.txList = [setpoint 0, setpoint 1]) ∧
    ((awaiting (standing .releasing)).phase = .running ∧
      (awaiting (standing .releasing)).dlp.framer = .hunting ∧
      strangeFeedback.tilt < 32768 ∧
      strangeFeedback.slip < 65536 ∧
      (awaiting (standing .releasing)).installed strangeFeedback.tier = false) ∧
    ((hall (standing .releasing)).phase = .running ∧
      (hall (standing .releasing)).dlp.framer = .hunting ∧
      (feedback .set).tilt < 32768 ∧
      (feedback .set).slip < 65536 ∧
      (hall (standing .releasing)).installed (feedback .set).tier = true ∧
      (((hall (standing .releasing)).link (feedback .set).tier).latestSent ≠
           some (feedback .set).parity ∨
         ((hall (standing .releasing)).link (feedback .set).tier).answered = true)) := by decide +kernel

theorem witness_IntervalMoving_1 :
    (movingHall .none).phase = .running ∧
    (movingHall .none).installed 0 = true ∧
    (movingHall .none).Single 0 slewMove ∧
    ((movingHall .none).tier 0).state = .moving ∧
    ((movingHall .none).tier 0).stop ≠ .quick ∧
    ((movingHall .none).tier 0).cmd = some home ∧
    List.find? (fun x => x.names 0) (movingHall .none).aa.grants = some moveGrant ∧
    moveGrant.cap = some 150 ∧
    (∀ x ∈ (movingHall .none).dlp.txList, x.tier ≠ 0) ∧
    prof = (movingHall .none).prof 0 ∧
    (false =
      if slewMove.slew.finished = true ∨ slewMove.slew.latch = true then slewMove.slew.creep
      else
        (movingHall .none).creepAnswer slewMove.cls
          (lookAhead prof slewMove.dir slewMove.band home.slew prof.slewAcc slewMove.slew.speed)) ∧
    (150 =
      if false = true ∨ slewMove.cls = .maint then min (min prof.slewMax 150) (movingHall .none).site.creep
      else min prof.slewMax 150) ∧
    (120 =
      if slewMove.slew.speed ≤ 150 then min (slewMove.slew.speed + prof.slewAcc) 150
      else max (slewMove.slew.speed - prof.slewAcc) 150) ∧
    ((120, false) =
      if slewMove.slew.latch = true ∨ slewMove.slew.rem < 120 + braking prof.slewAcc 120 then
        (max (slewMove.slew.speed - prof.slewAcc) prof.slewAcc, true)
      else (120, false)) ∧
    120 = min 120 slewMove.slew.rem ∧
    ({ speed := 120, rem := 0x13FF88, latch := false, finished := false, progress := 120, creep := false } =
      if slewMove.slew.finished = true then slewMove.slew
      else
        { speed := if 120 = slewMove.slew.rem then 0 else 120, rem := slewMove.slew.rem - 120, latch := false,
          finished := decide (120 = slewMove.slew.rem), progress := slewMove.slew.progress + 120, creep := false }) ∧
    (10 =
      if slewMove.tilt.speed ≤ prof.tiltSpeed then min (slewMove.tilt.speed + prof.tiltAcc) prof.tiltSpeed
      else max (slewMove.tilt.speed - prof.tiltAcc) prof.tiltSpeed) ∧
    ((10, true) =
      if slewMove.tilt.latch = true ∨ slewMove.tilt.rem < 10 + braking prof.tiltAcc 10 then
        (max (slewMove.tilt.speed - prof.tiltAcc) prof.tiltAcc, true)
      else (10, false)) ∧
    0 = min 10 slewMove.tilt.rem ∧
    ((⟨0x500078, 0⟩ : Pos) =
      { slew := if slewMove.slew.finished = true then home.slew else advance slewMove.dir home.slew 120,
        tilt :=
          if slewMove.tilt.finished = true then home.tilt
          else
            match slewMove.tilt.dir with
            | .up => home.tilt + 0
            | .down => home.tilt - 0
            | .none => home.tilt }) ∧
    (({ speed := 120, rem := 0x13FF88, latch := false, finished := false, progress := 120, creep := false } : SlewGen).finished = false ∨
      slewMove.tilt.finished = false) := by decide +kernel

theorem witness_IntervalMoving_2 :
    latchedHall.phase = .running ∧
    latchedHall.installed 0 = true ∧
    latchedHall.Single 0 latchedMove ∧
    (latchedHall.tier 0).state = .moving ∧
    (latchedHall.tier 0).stop ≠ .quick ∧
    (latchedHall.tier 0).cmd = some home ∧
    List.find? (fun x => x.names 0) latchedHall.aa.grants = some moveGrant ∧
    moveGrant.cap = some 150 ∧
    (∀ x ∈ latchedHall.dlp.txList, x.tier ≠ 0) ∧
    prof = latchedHall.prof 0 ∧
    (false =
      if latchedMove.slew.finished = true ∨ latchedMove.slew.latch = true then latchedMove.slew.creep
      else
        latchedHall.creepAnswer latchedMove.cls
          (lookAhead prof latchedMove.dir latchedMove.band home.slew prof.slewAcc latchedMove.slew.speed)) ∧
    (150 =
      if false = true ∨ latchedMove.cls = .maint then min (min prof.slewMax 150) latchedHall.site.creep
      else min prof.slewMax 150) ∧
    (120 =
      if latchedMove.slew.speed ≤ 150 then min (latchedMove.slew.speed + prof.slewAcc) 150
      else max (latchedMove.slew.speed - prof.slewAcc) 150) ∧
    ((80, true) =
      if latchedMove.slew.latch = true ∨ latchedMove.slew.rem < 120 + braking prof.slewAcc 120 then
        (max (latchedMove.slew.speed - prof.slewAcc) prof.slewAcc, true)
      else (120, false)) ∧
    80 = min 80 latchedMove.slew.rem ∧
    ({ speed := 80, rem := 0x13FFB0, latch := true, finished := false, progress := 80, creep := false } =
      if latchedMove.slew.finished = true then latchedMove.slew
      else
        { speed := if 80 = latchedMove.slew.rem then 0 else 80, rem := latchedMove.slew.rem - 80, latch := true,
          finished := decide (80 = latchedMove.slew.rem), progress := latchedMove.slew.progress + 80, creep := false }) ∧
    (10 =
      if latchedMove.tilt.speed ≤ prof.tiltSpeed then min (latchedMove.tilt.speed + prof.tiltAcc) prof.tiltSpeed
      else max (latchedMove.tilt.speed - prof.tiltAcc) prof.tiltSpeed) ∧
    ((10, true) =
      if latchedMove.tilt.latch = true ∨ latchedMove.tilt.rem < 10 + braking prof.tiltAcc 10 then
        (max (latchedMove.tilt.speed - prof.tiltAcc) prof.tiltAcc, true)
      else (10, false)) ∧
    0 = min 10 latchedMove.tilt.rem ∧
    ((⟨0x500050, 0⟩ : Pos) =
      { slew := if latchedMove.slew.finished = true then home.slew else advance latchedMove.dir home.slew 80,
        tilt :=
          if latchedMove.tilt.finished = true then home.tilt
          else
            match latchedMove.tilt.dir with
            | .up => home.tilt + 0
            | .down => home.tilt - 0
            | .none => home.tilt }) ∧
    (({ speed := 80, rem := 0x13FFB0, latch := true, finished := false, progress := 80, creep := false } : SlewGen).finished = false ∨
      latchedMove.tilt.finished = false) := by decide +kernel

theorem witness_MoveEnds_1 :
    (lastHall 0x640000 .none).phase = .running ∧
    (lastHall 0x640000 .none).Room 3 ∧
    (lastHall 0x640000 .none).installed 0 = true ∧
    (lastHall 0x640000 .none).Single 0 (lastMove 0x640000) ∧
    (lastMove 0x640000).origin = .link ∧
    ((lastHall 0x640000 .none).tier 0).state = .moving ∧
    ((lastHall 0x640000 .none).tier 0).cmd = some (⟨0x63FFF6, 0⟩ : Pos) ∧
    ((lastHall 0x640000 .none).aa.grants.any fun g => g.names 0) = true ∧
    (∀ r ∈ (lastHall 0x640000 .none).dlp.txList, r.tier ≠ 0) ∧
    (150 =
      (lastHall 0x640000 .none).slewCap (lastMove 0x640000)
        ((lastHall 0x640000 .none).creepNow (lastMove 0x640000))) ∧
    ((⟨0x640000, 0⟩ : Pos) =
      {
        slew :=
          advance (lastMove 0x640000).dir (⟨0x63FFF6, 0⟩ : Pos).slew
            ((lastMove 0x640000).slew.stepLength ((lastHall 0x640000 .none).prof 0).slewAcc 150),
        tilt :=
          tiltAdvance (lastMove 0x640000).tilt.dir (⟨0x63FFF6, 0⟩ : Pos).tilt
            ((lastMove 0x640000).tilt.stepLength ((lastHall 0x640000 .none).prof 0).tiltAcc
              ((lastHall 0x640000 .none).prof 0).tiltSpeed) }) ∧
    ((({ (lastMove 0x640000).slew with creep := (lastHall 0x640000 .none).creepNow (lastMove 0x640000) }).step
          ((lastHall 0x640000 .none).prof 0).slewAcc 150).finished =
      true) ∧
    (((lastMove 0x640000).tilt.step ((lastHall 0x640000 .none).prof 0).tiltAcc
          ((lastHall 0x640000 .none).prof 0).tiltSpeed).finished =
      true) ∧
    ({ first := 99, len := 3 } =
      footprint ((lastHall 0x640000 .none).prof 0) (⟨0x640000, 0⟩ : Pos).slew
        (tiltBand (⟨0x640000, 0⟩ : Pos).tilt)) ∧
    ((lastHall 0x640000 .none).tier 0).stop = .none ∧
    (lastHall 0x640000 .none).fm.canPlace 0 [] { first := 99, len := 3 } = true := by decide +kernel

theorem witness_MoveEnds_2 :
    (blockedAt (lastHall 0x640000 (.halt .halted))).phase = .running ∧
    (blockedAt (lastHall 0x640000 (.halt .halted))).Room 3 ∧
    (blockedAt (lastHall 0x640000 (.halt .halted))).installed 0 = true ∧
    (blockedAt (lastHall 0x640000 (.halt .halted))).Single 0 (lastMove 0x640000) ∧
    (lastMove 0x640000).origin = .link ∧
    ((blockedAt (lastHall 0x640000 (.halt .halted))).tier 0).state = .moving ∧
    ((blockedAt (lastHall 0x640000 (.halt .halted))).tier 0).cmd = some (⟨0x63FFF6, 0⟩ : Pos) ∧
    ((blockedAt (lastHall 0x640000 (.halt .halted))).aa.grants.any fun g => g.names 0) = true ∧
    (∀ r ∈ (blockedAt (lastHall 0x640000 (.halt .halted))).dlp.txList, r.tier ≠ 0) ∧
    (150 =
      (blockedAt (lastHall 0x640000 (.halt .halted))).slewCap (lastMove 0x640000)
        ((blockedAt (lastHall 0x640000 (.halt .halted))).creepNow (lastMove 0x640000))) ∧
    ((⟨0x640000, 0⟩ : Pos) =
      {
        slew :=
          advance (lastMove 0x640000).dir (⟨0x63FFF6, 0⟩ : Pos).slew
            ((lastMove 0x640000).slew.stepLength
              ((blockedAt (lastHall 0x640000 (.halt .halted))).prof 0).slewAcc 150),
        tilt :=
          tiltAdvance (lastMove 0x640000).tilt.dir (⟨0x63FFF6, 0⟩ : Pos).tilt
            ((lastMove 0x640000).tilt.stepLength
              ((blockedAt (lastHall 0x640000 (.halt .halted))).prof 0).tiltAcc
              ((blockedAt (lastHall 0x640000 (.halt .halted))).prof 0).tiltSpeed) }) ∧
    ((({ (lastMove 0x640000).slew with creep := (blockedAt (lastHall 0x640000 (.halt .halted))).creepNow (lastMove 0x640000) }).step
          ((blockedAt (lastHall 0x640000 (.halt .halted))).prof 0).slewAcc 150).finished =
      true) ∧
    (((lastMove 0x640000).tilt.step ((blockedAt (lastHall 0x640000 (.halt .halted))).prof 0).tiltAcc
          ((blockedAt (lastHall 0x640000 (.halt .halted))).prof 0).tiltSpeed).finished =
      true) ∧
    ({ first := 99, len := 3 } =
      footprint ((blockedAt (lastHall 0x640000 (.halt .halted))).prof 0) (⟨0x640000, 0⟩ : Pos).slew
        (tiltBand (⟨0x640000, 0⟩ : Pos).tilt)) ∧
    ((blockedAt (lastHall 0x640000 (.halt .halted))).tier 0).stop = .halt .halted ∧
    (blockedAt (lastHall 0x640000 (.halt .halted))).fm.canPlace 0 [] { first := 99, len := 3 } = false ∧
    ((blockedAt (lastHall 0x640000 (.halt .halted))).tier 0).fault.latched = 0 ∧
    (blockedAt (lastHall 0x640000 (.halt .halted))).entryOf 0 = none := by decide +kernel

theorem witness_MoveEnds_3 :
    (lastHall 0x6E0000 .pause).phase = .running ∧
    (lastHall 0x6E0000 .pause).Room 3 ∧
    (lastHall 0x6E0000 .pause).installed 0 = true ∧
    (lastHall 0x6E0000 .pause).Single 0 (lastMove 0x6E0000) ∧
    (lastMove 0x6E0000).origin = .link ∧
    ((lastHall 0x6E0000 .pause).tier 0).state = .moving ∧
    ((lastHall 0x6E0000 .pause).tier 0).cmd = some (⟨0x63FFF6, 0⟩ : Pos) ∧
    ((lastHall 0x6E0000 .pause).aa.grants.any fun g => g.names 0) = true ∧
    (∀ r ∈ (lastHall 0x6E0000 .pause).dlp.txList, r.tier ≠ 0) ∧
    (150 =
      (lastHall 0x6E0000 .pause).slewCap (lastMove 0x6E0000)
        ((lastHall 0x6E0000 .pause).creepNow (lastMove 0x6E0000))) ∧
    ((⟨0x640000, 0⟩ : Pos) =
      {
        slew :=
          advance (lastMove 0x6E0000).dir (⟨0x63FFF6, 0⟩ : Pos).slew
            ((lastMove 0x6E0000).slew.stepLength ((lastHall 0x6E0000 .pause).prof 0).slewAcc 150),
        tilt :=
          tiltAdvance (lastMove 0x6E0000).tilt.dir (⟨0x63FFF6, 0⟩ : Pos).tilt
            ((lastMove 0x6E0000).tilt.stepLength ((lastHall 0x6E0000 .pause).prof 0).tiltAcc
              ((lastHall 0x6E0000 .pause).prof 0).tiltSpeed) }) ∧
    ((({ (lastMove 0x6E0000).slew with creep := (lastHall 0x6E0000 .pause).creepNow (lastMove 0x6E0000) }).step
          ((lastHall 0x6E0000 .pause).prof 0).slewAcc 150).finished =
      true) ∧
    (((lastMove 0x6E0000).tilt.step ((lastHall 0x6E0000 .pause).prof 0).tiltAcc
          ((lastHall 0x6E0000 .pause).prof 0).tiltSpeed).finished =
      true) ∧
    ({ first := 99, len := 3 } =
      footprint ((lastHall 0x6E0000 .pause).prof 0) (⟨0x640000, 0⟩ : Pos).slew
        (tiltBand (⟨0x640000, 0⟩ : Pos).tilt)) ∧
    ((lastHall 0x6E0000 .pause).tier 0).stop = .pause ∧
    (⟨0x640000, 0⟩ : Pos) ≠ { slew := (lastMove 0x6E0000).targetSlew, tilt := (lastMove 0x6E0000).targetTilt } := by decide +kernel

theorem witness_MoveEnds_4 :
    (settleless (lastHall 0x640000 .none)).phase = .running ∧
    (settleless (lastHall 0x640000 .none)).Room 3 ∧
    (settleless (lastHall 0x640000 .none)).installed 0 = true ∧
    (settleless (lastHall 0x640000 .none)).Single 0 (lastMove 0x640000) ∧
    (lastMove 0x640000).origin = .link ∧
    ((settleless (lastHall 0x640000 .none)).tier 0).state = .moving ∧
    ((settleless (lastHall 0x640000 .none)).tier 0).cmd = some (⟨0x63FFF6, 0⟩ : Pos) ∧
    ((settleless (lastHall 0x640000 .none)).aa.grants.any fun g => g.names 0) = true ∧
    (∀ r ∈ (settleless (lastHall 0x640000 .none)).dlp.txList, r.tier ≠ 0) ∧
    (150 =
      (settleless (lastHall 0x640000 .none)).slewCap (lastMove 0x640000)
        ((settleless (lastHall 0x640000 .none)).creepNow (lastMove 0x640000))) ∧
    ((⟨0x640000, 0⟩ : Pos) =
      {
        slew :=
          advance (lastMove 0x640000).dir (⟨0x63FFF6, 0⟩ : Pos).slew
            ((lastMove 0x640000).slew.stepLength ((settleless (lastHall 0x640000 .none)).prof 0).slewAcc 150),
        tilt :=
          tiltAdvance (lastMove 0x640000).tilt.dir (⟨0x63FFF6, 0⟩ : Pos).tilt
            ((lastMove 0x640000).tilt.stepLength ((settleless (lastHall 0x640000 .none)).prof 0).tiltAcc
              ((settleless (lastHall 0x640000 .none)).prof 0).tiltSpeed) }) ∧
    ((({ (lastMove 0x640000).slew with creep := (settleless (lastHall 0x640000 .none)).creepNow (lastMove 0x640000) }).step
          ((settleless (lastHall 0x640000 .none)).prof 0).slewAcc 150).finished =
      true) ∧
    (((lastMove 0x640000).tilt.step ((settleless (lastHall 0x640000 .none)).prof 0).tiltAcc
          ((settleless (lastHall 0x640000 .none)).prof 0).tiltSpeed).finished =
      true) ∧
    ({ first := 99, len := 3 } =
      footprint ((settleless (lastHall 0x640000 .none)).prof 0) (⟨0x640000, 0⟩ : Pos).slew
        (tiltBand (⟨0x640000, 0⟩ : Pos).tilt)) ∧
    ((settleless (lastHall 0x640000 .none)).tier 0).stop = .none ∧
    (settleless (lastHall 0x640000 .none)).fm.canPlace 0 [] { first := 99, len := 3 } = true := by decide +kernel

theorem witness_StandingFeedback_1 :
    ((awaiting (standing .releasing)).Accepts (feedback .released) ∧
      (awaiting (standing .releasing)).Room 1 ∧
      (feedback .released).faults = 0 ∧
      ((awaiting (standing .releasing)).tier 0).state = .releasing) ∧
    ((awaiting (standing .securing)).Accepts (feedback .set) ∧
      (awaiting (standing .securing)).Room 1 ∧
      (feedback .set).faults = 0 ∧
      ((awaiting (standing .securing)).tier 0).state = .securing ∧
      ((awaiting (standing .securing)).tier 0).stop ≠ .quick ∧
      (awaiting (standing .securing)).convActive = false) := by decide +kernel

theorem witness_StandingFeedback_2 :
    ((awaiting (standing TierState.settling)).Accepts (feedback Brake.between) ∧
      (awaiting (standing TierState.settling)).Room 1 ∧
      (feedback Brake.between).faults = 0 ∧
      (((awaiting (standing TierState.settling)).tier 0).state ∈ [TierState.ready, TierState.paused, TierState.settling] ∧
        Brake.released = Brake.released ∧ 255 = ((awaiting (standing TierState.settling)).prof 0).releaseTimeout) ∧
      ((awaiting (standing TierState.settling)).tier 0).brakeTimer = BrakeTimer.stopped) ∧
    ((awaiting testTier).Accepts (feedback Brake.set) ∧
      (awaiting testTier).Room 1 ∧
      (feedback Brake.set).faults = 0 ∧
      ((awaiting testTier).tier 0).state = TierState.testing ∧
      (feedback Brake.set).brake = Brake.set ∧
      ((awaiting testTier).tier 0).brakeTimer = BrakeTimer.stopped ∧
      ((awaiting testTier).tier 0).test = some (testRec none)) ∧
    ((awaiting (standing TierState.faulted)).Accepts (feedback Brake.set) ∧
      (awaiting (standing TierState.faulted)).Room 1 ∧
      ((awaiting (standing TierState.faulted)).tier 0).state = TierState.faulted) := by decide +kernel

theorem witness_MovingFeedback_1 :
    (onHall .moving .none).Accepts (onFeedback .released) ∧
    (onHall .moving .none).Room 2 ∧
    (onFeedback .released).faults = 0 ∧
    (onHall .moving .none).Single 0 onMove ∧
    (onHall .moving .none).claim 0 = some slewClaim ∧
    ((onHall .moving .none).tier 0).cmd = some (⟨0x530000, 0⟩ : Pos) ∧
    3 = onMove.reached slewClaim (⟨0x530000, 0⟩ : Pos).slew (onFeedback .released).slew ∧
    ((onHall .moving .none).tier 0).state = .moving ∧
    ((onHall .moving .none).tier 0).brakeTimer = .stopped ∧
    (onFeedback .released).brake = .released ∧
    (((onHall .moving .none).tier 0).stop ≠ .quick ∨ (onFeedback .released).standstill = false) ∧
    (((onHall .moving .none).tier 0).stop = .quick ∨
      (onHall .moving .none).Follows (onFeedback .released)) := by decide +kernel

theorem witness_MovingFeedback_2 :
    (answering (movingHall .none)).Accepts (feedback .released) ∧
    (answering (movingHall .none)).Room 2 ∧
    (feedback .released).faults = 0 ∧
    (answering (movingHall .none)).Single 0 slewMove ∧
    (answering (movingHall .none)).claim 0 = some slewClaim ∧
    ((answering (movingHall .none)).tier 0).cmd = some home ∧
    0 = slewMove.reached slewClaim home.slew (feedback .released).slew ∧
    ((answering (movingHall .none)).tier 0).state = .moving ∧
    ((answering (movingHall .none)).tier 0).brakeTimer = .stopped ∧
    (feedback .released).brake = .released ∧
    (((answering (movingHall .none)).tier 0).stop ≠ .quick ∨ (feedback .released).standstill = false) ∧
    (((answering (movingHall .none)).tier 0).stop = .quick ∨
      (answering (movingHall .none)).Follows (feedback .released)) := by decide +kernel

theorem witness_MovingFeedback_3 :
    (answering (movingHall .quick)).Accepts (feedback .released) ∧
    (answering (movingHall .quick)).Room 2 ∧
    (feedback .released).faults = 0 ∧
    (answering (movingHall .quick)).Single 0 slewMove ∧
    (answering (movingHall .quick)).claim 0 = some slewClaim ∧
    ((answering (movingHall .quick)).tier 0).cmd = some home ∧
    0 = slewMove.reached slewClaim home.slew (feedback .released).slew ∧
    ((answering (movingHall .quick)).tier 0).stop = .quick ∧
    (feedback .released).standstill = true ∧
    ((answering (movingHall .quick)).aa.grants.any fun g => g.names 0) = true ∧
    ((answering (movingHall .quick)).tier 0).state = .moving ∧
    ((answering (movingHall .quick)).tier 0).brakeTimer = .stopped ∧
    (feedback .released).brake = .released ∧
    0 ≤ slewClaim.release ∧
    (answering (movingHall .quick)).fm.canPlace 0 [] homeArc = true := by decide +kernel

theorem witness_MovingFeedback_4 :
    (settleless (answering (movingHall .quick))).Accepts (feedback .released) ∧
    (settleless (answering (movingHall .quick))).Room 2 ∧
    (feedback .released).faults = 0 ∧
    (settleless (answering (movingHall .quick))).Single 0 slewMove ∧
    (settleless (answering (movingHall .quick))).claim 0 = some slewClaim ∧
    ((settleless (answering (movingHall .quick))).tier 0).cmd = some home ∧
    0 = slewMove.reached slewClaim home.slew (feedback .released).slew ∧
    ((settleless (answering (movingHall .quick))).tier 0).stop = .quick ∧
    (feedback .released).standstill = true ∧
    ((settleless (answering (movingHall .quick))).aa.grants.any fun g => g.names 0) = true ∧
    ((settleless (answering (movingHall .quick))).tier 0).state = .moving ∧
    ((settleless (answering (movingHall .quick))).tier 0).brakeTimer = .stopped ∧
    (feedback .released).brake = .released ∧
    0 ≤ slewClaim.release ∧
    (settleless (answering (movingHall .quick))).fm.canPlace 0 [] homeArc = true := by decide +kernel

theorem witness_MovingFeedback_5 :
    (blockedHall (answering (movingHall .quick))).Accepts (feedback .released) ∧
    (blockedHall (answering (movingHall .quick))).Room 2 ∧
    (feedback .released).faults = 0 ∧
    (blockedHall (answering (movingHall .quick))).Single 0 slewMove ∧
    (blockedHall (answering (movingHall .quick))).claim 0 = some slewClaim ∧
    ((blockedHall (answering (movingHall .quick))).tier 0).cmd = some home ∧
    0 = slewMove.reached slewClaim home.slew (feedback .released).slew ∧
    ((blockedHall (answering (movingHall .quick))).tier 0).stop = .quick ∧
    (feedback .released).standstill = true ∧
    ((blockedHall (answering (movingHall .quick))).aa.grants.any fun g => g.names 0) = true ∧
    ((blockedHall (answering (movingHall .quick))).tier 0).state = .moving ∧
    ((blockedHall (answering (movingHall .quick))).tier 0).brakeTimer = .stopped ∧
    (feedback .released).brake = .released ∧
    0 ≤ slewClaim.release ∧
    (blockedHall (answering (movingHall .quick))).fm.canPlace 0 [] homeArc = false ∧
    ((blockedHall (answering (movingHall .quick))).tier 0).fault.latched = 0 ∧
    (blockedHall (answering (movingHall .quick))).entryOf 0 = none := by decide +kernel

theorem witness_MovingFeedback_6 :
    (blockedHall securingQuick).Accepts (feedback .set) ∧
    (blockedHall securingQuick).Room 2 ∧
    (feedback .set).faults = 0 ∧
    (blockedHall securingQuick).Single 0 slewMove ∧
    (blockedHall securingQuick).claim 0 = some slewClaim ∧
    ((blockedHall securingQuick).tier 0).cmd = some home ∧
    0 = slewMove.reached slewClaim home.slew (feedback .set).slew ∧
    ((blockedHall securingQuick).tier 0).stop = .quick ∧
    (feedback .set).standstill = true ∧
    ((blockedHall securingQuick).aa.grants.any fun g => g.names 0) = true ∧
    ((blockedHall securingQuick).tier 0).state = .securing ∧
    ((blockedHall securingQuick).tier 0).brakeTimer = .secureWait 255 ∧
    (blockedHall securingQuick).fm.canPlace 0 [] homeArc = false ∧
    ((blockedHall securingQuick).tier 0).fault.latched = 0 ∧
    (blockedHall securingQuick).entryOf 0 = none := by decide +kernel

theorem witness_MovingFeedback_7 :
    securingQuick.Accepts (feedback .set) ∧
    securingQuick.Room 2 ∧
    (feedback .set).faults = 0 ∧
    securingQuick.Single 0 slewMove ∧
    securingQuick.claim 0 = some slewClaim ∧
    (securingQuick.tier 0).cmd = some home ∧
    0 = slewMove.reached slewClaim home.slew (feedback .set).slew ∧
    (securingQuick.tier 0).stop = .quick ∧
    (feedback .set).standstill = true ∧
    (securingQuick.aa.grants.any fun g => g.names 0) = true ∧
    (securingQuick.tier 0).state = .securing ∧
    (securingQuick.tier 0).brakeTimer = .secureWait 255 ∧
    securingQuick.convActive = false ∧
    securingQuick.fm.canPlace 0 [] homeArc = true ∧
    (feedback .set).brake = .set := by decide +kernel

theorem witness_MovingFeedback_8 :
    securingQuick.Accepts (feedback .between) ∧
    securingQuick.Room 2 ∧
    (feedback .between).faults = 0 ∧
    securingQuick.Single 0 slewMove ∧
    securingQuick.claim 0 = some slewClaim ∧
    (securingQuick.tier 0).cmd = some home ∧
    0 = slewMove.reached slewClaim home.slew (feedback .between).slew ∧
    (securingQuick.tier 0).stop = .quick ∧
    (feedback .between).standstill = true ∧
    (securingQuick.aa.grants.any fun g => g.names 0) = true ∧
    (securingQuick.tier 0).state = .securing ∧
    (securingQuick.tier 0).brakeTimer = .secureWait 255 ∧
    securingQuick.fm.canPlace 0 [] homeArc = true ∧
    (feedback .between).brake ≠ .set := by decide +kernel

theorem witness_FeedbackFaults_1 :
    (answering (movingHall .none)).Accepts farFeedback ∧
    (answering (movingHall .none)).Room 5 ∧
    farFeedback.tier = 0 ∧
    ((answering (movingHall .none)).link 0).latestRec = some { slew := home.slew, tilt := 0, mode := .normal } ∧
    (farFeedback.beyond ((answering (movingHall .none)).prof 0)
        { slew := home.slew, tilt := 0, mode := .normal } =
      true) ∧
    farFeedback.faults = 0 ∧
    (answering (movingHall .none)).claim 0 = some slewClaim ∧
    ((answering (movingHall .none)).tier 0).cmd = some home ∧
    0 = slewMove.reached slewClaim home.slew farFeedback.slew ∧
    (answering (movingHall .none)).Single 0 slewMove ∧
    slewMove.origin = .link ∧
    ((answering (movingHall .none)).tier 0).state = .moving ∧
    ((answering (movingHall .none)).tier 0).stop ≠ .quick ∧
    ((answering (movingHall .none)).tier 0).fault.latched = 0 ∧
    (answering (movingHall .none)).entryOf 0 = none ∧
    ((answering (movingHall .none)).aa.grants.any fun g => g.names 0) = true := by decide +kernel

theorem witness_FeedbackFaults_2 :
    (awaiting (standing .settling)).Accepts farFeedback ∧
    (awaiting (standing .settling)).Room 5 ∧
    farFeedback.tier = 0 ∧
    ((awaiting (standing .settling)).link 0).latestRec = some { slew := home.slew, tilt := 0, mode := .normal } ∧
    (farFeedback.beyond ((awaiting (standing .settling)).prof 0)
        { slew := home.slew, tilt := 0, mode := .normal } =
      true) ∧
    farFeedback.faults = 0 ∧
    ((awaiting (standing .settling)).tier 0).move = none ∧
    ((awaiting (standing .settling)).tier 0).state = .settling ∧
    ((awaiting (standing .settling)).tier 0).fault.latched = 0 ∧
    (awaiting (standing .settling)).Unnamed 0 := by decide +kernel

theorem witness_FeedbackFaults_3 :
    ((awaiting (standing TierState.ready)).Accepts (badFeedback 2) ∧
      (awaiting (standing TierState.ready)).Room 5 ∧
      (badFeedback 2).tier = 0 ∧
      FaultKind.encoderOpen ∈ driveKinds ∧
      ((badFeedback 2).faults &&& ~~~((awaiting (standing TierState.ready)).link 0).reported =
        1#4 <<< FaultKind.encoderOpen.bit) ∧
      (((awaiting (standing TierState.ready)).tier 0).state ∈
        [TierState.secured, TierState.releasing, TierState.ready, TierState.settling, TierState.securing]) ∧
      ((awaiting (standing TierState.ready)).tier 0).move = none ∧
      ((awaiting (standing TierState.ready)).tier 0).fault.latched = 0 ∧
      (awaiting (standing TierState.ready)).Unnamed 0) ∧
    ((answering (faultedHall 0 Brake.set)).Accepts (badFeedback 10) ∧
      (answering (faultedHall 0 Brake.set)).Room 5 ∧
      (badFeedback 10).tier = 0 ∧
      ((answering (faultedHall 0 Brake.set)).tier 0).state = TierState.faulted ∧
      (((answering (faultedHall 0 Brake.set)).tier 0).fault.first =
        some { kind := FaultKind.driveTrip, met := TierState.ready, pos := home }) ∧
      ((answering (faultedHall 0 Brake.set)).tier 0).fault.latched ≠ 0 ∧
      ((answering (faultedHall 0 Brake.set)).tier 0).fault.latched &&& BitVec.zeroExtend 12 (badFeedback 10).faults = 0) := by decide +kernel

theorem witness_FeedbackFaults_4 :
    (onHall .moving .none).Accepts farFeedback ∧
    (onHall .moving .none).Room 5 ∧
    farFeedback.tier = 0 ∧
    ((onHall .moving .none).link 0).latestRec = some { slew := 0x530000, tilt := 0, mode := .normal } ∧
    (farFeedback.beyond ((onHall .moving .none).prof 0) { slew := 0x530000, tilt := 0, mode := .normal } =
      true) ∧
    farFeedback.faults = 0 ∧
    (onHall .moving .none).claim 0 = some slewClaim ∧
    ((onHall .moving .none).tier 0).cmd = some (⟨0x530000, 0⟩ : Pos) ∧
    3 = onMove.reached slewClaim (⟨0x530000, 0⟩ : Pos).slew farFeedback.slew ∧
    (onHall .moving .none).Single 0 onMove ∧
    onMove.origin = .link ∧
    ((onHall .moving .none).tier 0).state = .moving ∧
    ((onHall .moving .none).tier 0).stop ≠ .quick ∧
    ((onHall .moving .none).tier 0).fault.latched = 0 ∧
    (onHall .moving .none).entryOf 0 = none ∧
    ((onHall .moving .none).aa.grants.any fun g => g.names 0) = true := by decide +kernel

theorem witness_Synchronised_1 :
    (awaiting (standing .unsynced)).phase = .running ∧
    (awaiting (standing .unsynced)).Room 3 ∧
    (awaiting (standing .unsynced)).dlp.framer = .hunting ∧
    (feedback .set).tilt < 32768 ∧
    (feedback .set).slip < 65536 ∧
    (awaiting (standing .unsynced)).installed (feedback .set).tier = true ∧
    ((awaiting (standing .unsynced)).link (feedback .set).tier =
       (awaiting (standing .unsynced)).link 0) ∧
    ((awaiting (standing .unsynced)).link 0).latestSent = some (feedback .set).parity ∧
    ((awaiting (standing .unsynced)).link 0).answered = false ∧
    (feedback .set).faults = 0 ∧
    ((awaiting (standing .unsynced)).tier (feedback .set).tier).state = .unsynced ∧
    ((awaiting (standing .unsynced)).tier (feedback .set).tier).stop = .none ∧
    (((awaiting (standing .unsynced)).tier (feedback .set).tier).brakeTimer =
       .stopped) ∧
    ((awaiting (standing .unsynced)).tier (feedback .set).tier).fault.latched = 0 ∧
    (awaiting (standing .unsynced)).Unnamed (feedback .set).tier ∧
    (awaiting (standing .unsynced)).convActive = false ∧
    (homeArc =
       footprint ((awaiting (standing .unsynced)).prof (feedback .set).tier)
         (feedback .set).slew (tiltBand (feedback .set).tilt)) ∧
    ((feedback .set).tilt ≤
       ((awaiting (standing .unsynced)).prof (feedback .set).tier).tiltMax) ∧
    (awaiting (standing .unsynced)).fm.allFree homeArc = true ∧
    (feedback .set).brake = .set := by decide +kernel

theorem witness_Synchronised_2 :
    (awaiting (standing .unsynced)).phase = .running ∧
    (awaiting (standing .unsynced)).Room 3 ∧
    (awaiting (standing .unsynced)).dlp.framer = .hunting ∧
    (feedback .released).tilt < 32768 ∧
    (feedback .released).slip < 65536 ∧
    (awaiting (standing .unsynced)).installed (feedback .released).tier = true ∧
    ((awaiting (standing .unsynced)).link (feedback .released).tier =
       (awaiting (standing .unsynced)).link 0) ∧
    ((awaiting (standing .unsynced)).link 0).latestSent = some (feedback .released).parity ∧
    ((awaiting (standing .unsynced)).link 0).answered = false ∧
    (feedback .released).faults = 0 ∧
    (((awaiting (standing .unsynced)).tier (feedback .released).tier).state =
       .unsynced) ∧
    ((awaiting (standing .unsynced)).tier (feedback .released).tier).stop = .none ∧
    (((awaiting (standing .unsynced)).tier (feedback .released).tier).brakeTimer =
       .stopped) ∧
    ((awaiting (standing .unsynced)).tier (feedback .released).tier).fault.latched = 0 ∧
    (awaiting (standing .unsynced)).Unnamed (feedback .released).tier ∧
    (awaiting (standing .unsynced)).convActive = false ∧
    (homeArc =
       footprint ((awaiting (standing .unsynced)).prof (feedback .released).tier)
         (feedback .released).slew (tiltBand (feedback .released).tilt)) ∧
    ((feedback .released).tilt ≤
       ((awaiting (standing .unsynced)).prof (feedback .released).tier).tiltMax) ∧
    (awaiting (standing .unsynced)).fm.allFree homeArc = true ∧
    (feedback .released).brake ≠ .set := by decide +kernel

theorem witness_Synchronised_3 :
    (answering (blockedHall (hall (standing .unsynced)))).phase = .running ∧
    (answering (blockedHall (hall (standing .unsynced)))).Room 3 ∧
    (answering (blockedHall (hall (standing .unsynced)))).dlp.framer = .hunting ∧
    (feedback .set).tilt < 32768 ∧
    (feedback .set).slip < 65536 ∧
    ((answering (blockedHall (hall (standing .unsynced)))).installed (feedback .set).tier =
       true) ∧
    ((answering (blockedHall (hall (standing .unsynced)))).link (feedback .set).tier =
       (answering (blockedHall (hall (standing .unsynced)))).link 0) ∧
    (((answering (blockedHall (hall (standing .unsynced)))).link 0).latestSent =
       some (feedback .set).parity) ∧
    ((answering (blockedHall (hall (standing .unsynced)))).link 0).answered = false ∧
    (feedback .set).faults = 0 ∧
    (((answering (blockedHall (hall (standing .unsynced)))).tier (feedback .set).tier).state =
       .unsynced) ∧
    (((answering (blockedHall (hall (standing .unsynced)))).tier (feedback .set).tier).stop =
       .none) ∧
    (((answering (blockedHall (hall (standing .unsynced)))).tier
           (feedback .set).tier).brakeTimer =
       .stopped) ∧
    (((answering (blockedHall (hall (standing .unsynced)))).tier
             (feedback .set).tier).fault.latched =
       0) ∧
    (answering (blockedHall (hall (standing .unsynced)))).Unnamed (feedback .set).tier ∧
    (answering (blockedHall (hall (standing .unsynced)))).convActive = false ∧
    (homeArc =
       footprint
         ((answering (blockedHall (hall (standing .unsynced)))).prof (feedback .set).tier)
         (feedback .set).slew (tiltBand (feedback .set).tilt)) ∧
    ((feedback .set).tilt ≤
       ((answering (blockedHall (hall (standing .unsynced)))).prof
           (feedback .set).tier).tiltMax) ∧
    (answering (blockedHall (hall (standing .unsynced)))).fm.allFree homeArc = false := by decide +kernel

theorem witness_Synchronised_4 :
    (answering lowHall).phase = .running ∧
    (answering lowHall).Room 3 ∧
    (answering lowHall).dlp.framer = .hunting ∧
    tiltedFeedback.tilt < 32768 ∧
    tiltedFeedback.slip < 65536 ∧
    (answering lowHall).installed tiltedFeedback.tier = true ∧
    (answering lowHall).link tiltedFeedback.tier = (answering lowHall).link 0 ∧
    ((answering lowHall).link 0).latestSent = some tiltedFeedback.parity ∧
    ((answering lowHall).link 0).answered = false ∧
    ((answering lowHall).tier tiltedFeedback.tier).state = .unsynced ∧
    ((answering lowHall).tier tiltedFeedback.tier).stop = .none ∧
    ((answering lowHall).tier tiltedFeedback.tier).brakeTimer = .stopped ∧
    ((answering lowHall).tier tiltedFeedback.tier).fault.latched = 0 ∧
    (answering lowHall).Unnamed tiltedFeedback.tier ∧
    (answering lowHall).convActive = false ∧
    (homeArc =
       footprint ((answering lowHall).prof tiltedFeedback.tier) tiltedFeedback.slew
         (tiltBand tiltedFeedback.tilt)) ∧
    ((answering lowHall).prof tiltedFeedback.tier).tiltMax < tiltedFeedback.tilt := by decide +kernel

theorem witness_Synchronised_5 :
    (awaiting (standing .unsynced)).phase = .running ∧
    (awaiting (standing .unsynced)).Room 3 ∧
    (awaiting (standing .unsynced)).dlp.framer = .hunting ∧
    wornFeedback.tilt < 32768 ∧
    wornFeedback.slip < 65536 ∧
    (awaiting (standing .unsynced)).installed wornFeedback.tier = true ∧
    ((awaiting (standing .unsynced)).link wornFeedback.tier =
       (awaiting (standing .unsynced)).link 0) ∧
    ((awaiting (standing .unsynced)).link 0).latestSent = some wornFeedback.parity ∧
    ((awaiting (standing .unsynced)).link 0).answered = false ∧
    wornFeedback.faults = 1#4 <<< FaultKind.encoderOpen.bit ∧
    FaultKind.encoderOpen ∈ driveKinds ∧
    ((awaiting (standing .unsynced)).link 0).reported = 0 ∧
    ((awaiting (standing .unsynced)).tier wornFeedback.tier).state = .unsynced ∧
    ((awaiting (standing .unsynced)).tier wornFeedback.tier).stop = .none ∧
    (((awaiting (standing .unsynced)).tier wornFeedback.tier).brakeTimer =
       .stopped) ∧
    ((awaiting (standing .unsynced)).tier wornFeedback.tier).fault.latched = 0 ∧
    (awaiting (standing .unsynced)).Unnamed wornFeedback.tier ∧
    (awaiting (standing .unsynced)).convActive = false ∧
    (homeArc =
       footprint ((awaiting (standing .unsynced)).prof wornFeedback.tier)
         wornFeedback.slew (tiltBand wornFeedback.tilt)) ∧
    (wornFeedback.tilt ≤
       ((awaiting (standing .unsynced)).prof wornFeedback.tier).tiltMax) ∧
    (awaiting (standing .unsynced)).fm.allFree homeArc = true ∧
    wornFeedback.brake = .set ∧
    ((awaiting (standing .unsynced)).tier wornFeedback.tier).move = none := by decide +kernel

theorem witness_TimersFault_1 :
    ((hall (timedTier .releasing (.releaseWait 255))).phase = .running ∧
      (hall (timedTier .releasing (.releaseWait 255))).Room 2 ∧
      (hall (timedTier .releasing (.releaseWait 255))).Unnamed 0 ∧
      ((hall (timedTier .releasing (.releaseWait 255))).tier 0).move = none ∧
      ((hall (timedTier .releasing (.releaseWait 255))).tier 0).fault.latched = 0 ∧
      (((hall (timedTier .releasing (.releaseWait 255))).tier 0).state ∈
         [.secured, .releasing, .ready, .settling, .securing]) ∧
      (((hall (timedTier .releasing (.releaseWait 255))).tier 0).brakeTimer =
         .releaseWait 255)) ∧
    ((hall (timedTier .securing (.secureWait 255))).phase = .running ∧
      (hall (timedTier .securing (.secureWait 255))).Room 2 ∧
      (hall (timedTier .securing (.secureWait 255))).Unnamed 0 ∧
      ((hall (timedTier .securing (.secureWait 255))).tier 0).move = none ∧
      ((hall (timedTier .securing (.secureWait 255))).tier 0).fault.latched = 0 ∧
      (((hall (timedTier .securing (.secureWait 255))).tier 0).state ∈
         [.secured, .releasing, .ready, .settling, .securing]) ∧
      (((hall (timedTier .securing (.secureWait 255))).tier 0).brakeTimer =
         .secureWait 255)) := by decide +kernel

theorem witness_TimersFault_2 :
    ((hall (timedTier .ready (.watch 255))).phase = .running ∧
      (hall (timedTier .ready (.watch 255))).Room 2 ∧
      (hall (timedTier .ready (.watch 255))).Unnamed 0 ∧
      ((hall (timedTier .ready (.watch 255))).tier 0).move = none ∧
      ((hall (timedTier .ready (.watch 255))).tier 0).fault.latched = 0 ∧
      (((hall (timedTier .ready (.watch 255))).tier 0).state ∈
         [.secured, .releasing, .ready, .settling, .securing]) ∧
      ((hall (timedTier .ready (.watch 255))).tier 0).brakeTimer = .watch 255) ∧
    (linkTimerHall.phase = .running ∧
      linkTimerHall.Room 2 ∧
      linkTimerHall.Unnamed 0 ∧
      (linkTimerHall.tier 0).move = none ∧
      (linkTimerHall.tier 0).fault.latched = 0 ∧
      ((linkTimerHall.tier 0).state ∈
         [.secured, .releasing, .ready, .settling, .securing]) ∧
      (linkTimerHall.link 0).timer = true) := by decide +kernel

theorem witness_SettleAndTestEnd_1 :
    ((settlingHall true).phase = .running ∧
      (settlingHall true).Room 1 ∧
      ((settlingHall true).tier 0).settleTimer = some 30 ∧
      ((settlingHall true).tier 0).securePending = true) ∧
    ((settlingHall false).phase = .running ∧
      (settlingHall false).Room 1 ∧
      ((settlingHall false).tier 0).settleTimer = some 30 ∧
      ((settlingHall false).tier 0).securePending = false) ∧
    ((testingHall (some 301)).phase = .running ∧
      (testingHall (some 301)).Room 2 ∧
      ((testingHall (some 301)).tier 0).testTimer = some 10 ∧
      ((testingHall (some 301)).tier 0).test = some (testRec (some 301)) ∧
      (((testingHall (some 301)).aa.grants.any fun g => g.names 0) = true) ∧
      (testingHall (some 301)).convActive = false ∧
      ((TestResult.fail, true) =
         match (testRec (some 301)).lastSlip with
         | none => (.aborted, ((testingHall (some 301)).tier 0).brakeWeak)
         | some d =>
           if (testRec (some 301)).slipLimit < d then (.fail, true) else (.pass, false))) := by decide +kernel

theorem witness_SettleAndTestEnd_2 :
    ((testingHall (some 300)).phase = .running ∧
      (testingHall (some 300)).Room 2 ∧
      ((testingHall (some 300)).tier 0).testTimer = some 10 ∧
      ((testingHall (some 300)).tier 0).test = some (testRec (some 300)) ∧
      (((testingHall (some 300)).aa.grants.any fun g => g.names 0) = true) ∧
      (testingHall (some 300)).convActive = false ∧
      ((TestResult.pass, false) =
         match (testRec (some 300)).lastSlip with
         | none => (.aborted, ((testingHall (some 300)).tier 0).brakeWeak)
         | some d =>
           if (testRec (some 300)).slipLimit < d then (.fail, true) else (.pass, false))) ∧
    ((testingHall none).phase = .running ∧
      (testingHall none).Room 2 ∧
      ((testingHall none).tier 0).testTimer = some 10 ∧
      ((testingHall none).tier 0).test = some (testRec none) ∧
      (((testingHall none).aa.grants.any fun g => g.names 0) = true) ∧
      (testingHall none).convActive = false ∧
      ((TestResult.aborted, false) =
         match (testRec none).lastSlip with
         | none => (.aborted, ((testingHall none).tier 0).brakeWeak)
         | some d => if (testRec none).slipLimit < d then (.fail, true) else (.pass, false))) := by decide +kernel

theorem witness_PinEdges :
    ((tripHall []).phase = .running ∧
      (tripHall []).Room 1 ∧
      (tripHall []).zu.levels.get 1 = false) ∧
    ((tripHall []).zu.levels.get 0 = true ∧
      TripItem.application 0 ∉ (tripHall []).zu.due) ∧
    ((tripHall [TripItem.application 0]).phase = .running ∧
      (tripHall [TripItem.application 0]).Room 1 ∧
      (tripHall [TripItem.application 0]).zu.levels.get 0 = true ∧
      TripItem.application 0 ∈ (tripHall [TripItem.application 0]).zu.due) := by decide +kernel

theorem witness_TripStops_1 :
    (tripHall [TripItem.application 1, TripItem.inactiveReport 1]).phase = .running ∧
    (tripHall [TripItem.application 1, TripItem.inactiveReport 1]).Room 3 ∧
    TripItem.inactiveReport 1 ∉ [] ∧
    ((tripHall [TripItem.application 1, TripItem.inactiveReport 1]).zu.due =
      [TripItem.application 1, TripItem.inactiveReport 1] ++ []) ∧
    (∀ (u : Tier),
      (tripHall [TripItem.application 1, TripItem.inactiveReport 1]).installed u = true →
        ((tripHall [TripItem.application 1, TripItem.inactiveReport 1]).tier u).state = .moving ∨
            ((tripHall [TripItem.application 1, TripItem.inactiveReport 1]).tier u).state = .paused →
          (tripHall [TripItem.application 1, TripItem.inactiveReport 1]).claimTripped 1 u = false) := by decide +kernel

theorem witness_TripStops_2 :
    (tripHall [TripItem.application 0, TripItem.inactiveReport 0, TripItem.application 2]).phase = .running ∧
    (tripHall [TripItem.application 0, TripItem.inactiveReport 0, TripItem.application 2]).Room 3 ∧
    TripItem.inactiveReport 0 ∉ [TripItem.application 2] ∧
    ((tripHall [TripItem.application 0, TripItem.inactiveReport 0, TripItem.application 2]).zu.due =
      [TripItem.application 0, TripItem.inactiveReport 0] ++ [TripItem.application 2]) ∧
    (tripHall [TripItem.application 0, TripItem.inactiveReport 0, TripItem.application 2]).installed 0 = true ∧
    (tripHall [TripItem.application 0, TripItem.inactiveReport 0, TripItem.application 2]).Single 0 slewMove ∧
    slewMove.origin = .link ∧
    ((tripHall [TripItem.application 0, TripItem.inactiveReport 0, TripItem.application 2]).tier 0).state = .moving ∧
    ((tripHall [TripItem.application 0, TripItem.inactiveReport 0, TripItem.application 2]).tier 0).stop ≠ .quick ∧
    (tripHall [TripItem.application 0, TripItem.inactiveReport 0, TripItem.application 2]).claimTripped 0 0 = true ∧
    (∀ (u : Tier),
      u ≠ 0 →
        (tripHall [TripItem.application 0, TripItem.inactiveReport 0, TripItem.application 2]).installed u = true →
          ((tripHall [TripItem.application 0, TripItem.inactiveReport 0, TripItem.application 2]).tier u).state =
                .moving ∨
              ((tripHall [TripItem.application 0, TripItem.inactiveReport 0, TripItem.application 2]).tier u).state =
                .paused →
            (tripHall [TripItem.application 0, TripItem.inactiveReport 0, TripItem.application 2]).claimTripped 0 u = false) := by decide +kernel

theorem witness_TripStops_3 :
    tripPaused.phase = .running ∧
    tripPaused.Room 3 ∧
    TripItem.inactiveReport 0 ∉ [] ∧
    tripPaused.zu.due = [TripItem.application 0] ++ [] ∧
    tripPaused.Room 5 ∧
    tripPaused.installed 0 = true ∧
    tripPaused.Single 0 slewMove ∧
    slewMove.origin = .link ∧
    (tripPaused.tier 0).state = .paused ∧
    (tripPaused.tier 0).stop ≠ .quick ∧
    (tripPaused.tier 0).act = some home ∧
    tripPaused.claimTripped 0 0 = true ∧
    (∀ (u : Tier),
      u ≠ 0 →
        tripPaused.installed u = true →
          (tripPaused.tier u).state = .moving ∨ (tripPaused.tier u).state = .paused →
            tripPaused.claimTripped 0 u = false) ∧
    (tripPaused.aa.grants.any fun g => g.names 0) = true ∧
    home = { slew := home.slew, tilt := min home.tilt (tripPaused.prof 0).tiltMax } ∧
    homeArc = footprint (tripPaused.prof 0) home.slew (tiltBand home.tilt) ∧
    tripPaused.fm.canPlace 0 [] homeArc = true := by decide +kernel

theorem witness_TripStops_4 :
    (settleless tripPaused).phase = .running ∧
    (settleless tripPaused).Room 3 ∧
    TripItem.inactiveReport 0 ∉ [] ∧
    (settleless tripPaused).zu.due = [TripItem.application 0] ++ [] ∧
    (settleless tripPaused).Room 5 ∧
    (settleless tripPaused).installed 0 = true ∧
    (settleless tripPaused).Single 0 slewMove ∧
    slewMove.origin = .link ∧
    ((settleless tripPaused).tier 0).state = .paused ∧
    ((settleless tripPaused).tier 0).stop ≠ .quick ∧
    ((settleless tripPaused).tier 0).act = some home ∧
    (settleless tripPaused).claimTripped 0 0 = true ∧
    (∀ (u : Tier),
      u ≠ 0 →
        (settleless tripPaused).installed u = true →
          ((settleless tripPaused).tier u).state = .moving ∨
              ((settleless tripPaused).tier u).state = .paused →
            (settleless tripPaused).claimTripped 0 u = false) ∧
    ((settleless tripPaused).aa.grants.any fun g => g.names 0) = true ∧
    home = { slew := home.slew, tilt := min home.tilt ((settleless tripPaused).prof 0).tiltMax } ∧
    homeArc = footprint ((settleless tripPaused).prof 0) home.slew (tiltBand home.tilt) ∧
    (settleless tripPaused).fm.canPlace 0 [] homeArc = true := by decide +kernel

theorem witness_TripStops_5 :
    (blockedHall tripPaused).phase = .running ∧
    (blockedHall tripPaused).Room 3 ∧
    TripItem.inactiveReport 0 ∉ [] ∧
    (blockedHall tripPaused).zu.due = [TripItem.application 0] ++ [] ∧
    (blockedHall tripPaused).Room 5 ∧
    (blockedHall tripPaused).installed 0 = true ∧
    (blockedHall tripPaused).Single 0 slewMove ∧
    slewMove.origin = .link ∧
    ((blockedHall tripPaused).tier 0).state = .paused ∧
    ((blockedHall tripPaused).tier 0).stop ≠ .quick ∧
    ((blockedHall tripPaused).tier 0).act = some home ∧
    (blockedHall tripPaused).claimTripped 0 0 = true ∧
    (∀ (u : Tier),
      u ≠ 0 →
        (blockedHall tripPaused).installed u = true →
          ((blockedHall tripPaused).tier u).state = .moving ∨
              ((blockedHall tripPaused).tier u).state = .paused →
            (blockedHall tripPaused).claimTripped 0 u = false) ∧
    ((blockedHall tripPaused).aa.grants.any fun g => g.names 0) = true ∧
    home = { slew := home.slew, tilt := min home.tilt ((blockedHall tripPaused).prof 0).tiltMax } ∧
    homeArc = footprint ((blockedHall tripPaused).prof 0) home.slew (tiltBand home.tilt) ∧
    (blockedHall tripPaused).fm.canPlace 0 [] homeArc = false ∧
    ((blockedHall tripPaused).tier 0).fault.latched = 0 ∧
    (blockedHall tripPaused).entryOf 0 = none := by decide +kernel

theorem witness_TripStops_6 :
    (tripHall [TripItem.application 0]).phase = .running ∧
    (tripHall [TripItem.application 0]).Room 3 ∧
    TripItem.inactiveReport 0 ∉ [] ∧
    (tripHall [TripItem.application 0]).zu.due = [TripItem.application 0] ++ [] ∧
    (tripHall [TripItem.application 0]).installed 0 = true ∧
    (tripHall [TripItem.application 0]).Single 0 slewMove ∧
    slewMove.origin = .link ∧
    ((tripHall [TripItem.application 0]).tier 0).state = .moving ∧
    ((tripHall [TripItem.application 0]).tier 0).stop ≠ .quick ∧
    (tripHall [TripItem.application 0]).claimTripped 0 0 = true ∧
    (∀ (u : Tier),
      u ≠ 0 →
        (tripHall [TripItem.application 0]).installed u = true →
          ((tripHall [TripItem.application 0]).tier u).state = .moving ∨
              ((tripHall [TripItem.application 0]).tier u).state = .paused →
            (tripHall [TripItem.application 0]).claimTripped 0 u = false) := by decide +kernel

theorem witness_ScanTests_1 :
    ((hall (standing .secured)).phase = .running ∧
      (hall (standing .secured)).convActive = false ∧
      (hall (standing .secured)).aa.scansDue = 0) ∧
    ((scanHall .unsynced [testEntry0]).phase = .running ∧
      (scanHall .unsynced [testEntry0]).convActive = false ∧
      (scanHall .unsynced [testEntry0]).aa.scansDue = 0 + 1 ∧
      ((scanHall .unsynced [testEntry0]).fsu.failsafe ≠ none ∨
        (∃ t,
            (scanHall .unsynced [testEntry0]).installed t = true ∧
              ((scanHall .unsynced [testEntry0]).tier t).state = .unsynced) ∨
          (scanHall .unsynced [testEntry0]).mapConflict = true)) := by decide +kernel

theorem witness_ScanTests_2 :
    (scanHall .secured [testEntry0]).phase = .running ∧
    (scanHall .secured [testEntry0]).Room 2 ∧
    (scanHall .secured [testEntry0]).convActive = false ∧
    (scanHall .secured [testEntry0]).aa.scansDue = 0 + 1 ∧
    (testEntry0 =
      { kind := .test, tier := 0, members := [], cls := none, targetSlew := none, dir := none, targetTilt := none,
        auto := false, origin := .link, bypass := 0, sample := .none }) ∧
    (scanHall .secured [testEntry0]).hallClosed = false ∧
    (scanHall .secured [testEntry0]).fsu.showLock.getLsbD 0 = false ∧
    ((scanHall .secured [testEntry0]).tier 0).state = .secured ∧
    (3 =
      ((scanHall .secured [testEntry0]).prof 0).hold +
        ((scanHall .secured [testEntry0]).mass none 0 *
              ((scanHall .secured [testEntry0]).prof 0).testTorque +
            9) /
          10) ∧
    3 ≤ (scanHall .secured [testEntry0]).aa.budget - (scanHall .secured [testEntry0]).allocated := by decide +kernel

theorem witness_ScanTests_3 :
    (bypassHall 7).phase = .running ∧
    (bypassHall 7).Room 2 ∧
    (bypassHall 7).convActive = false ∧
    (bypassHall 7).aa.scansDue = 0 + 1 ∧
    (testEntry0 =
      { kind := .test, tier := 0, members := [], cls := none, targetSlew := none, dir := none, targetTilt := none,
        auto := false, origin := .link, bypass := 0, sample := .none }) ∧
    (bypassHall 7).hallClosed = false ∧
    (bypassHall 7).fsu.showLock.getLsbD 0 = false ∧
    ((bypassHall 7).tier 0).state = .secured ∧
    3 = ((bypassHall 7).prof 0).hold + ((bypassHall 7).mass none 0 * ((bypassHall 7).prof 0).testTorque + 9) / 10 ∧
    3 ≤ (bypassHall 7).aa.budget - (bypassHall 7).allocated ∧
    ((waitingEntry 7).tier ≠ 0 ∧
      (∀ u ∈ (waitingEntry 7).tiers,
          (bypassHall 7).fsu.showLock.getLsbD u = false ∧ ((bypassHall 7).tier u).state ≠ .faulted) ∧
        (bypassHall 7).standsFor (waitingEntry 7) (waitingEntry 7).tier = false ∧ (waitingEntry 7).bypass < 8) := by decide +kernel

theorem witness_ScanTests_4 :
    tightHall.phase = .running ∧
    tightHall.Room 2 ∧
    tightHall.convActive = false ∧
    tightHall.aa.scansDue = 0 + 1 ∧
    (testEntry0 =
      { kind := .test, tier := 0, members := [], cls := none, targetSlew := none, dir := none, targetTilt := none,
        auto := false, origin := .link, bypass := 0, sample := .none }) ∧
    tightHall.hallClosed = false ∧
    tightHall.fsu.showLock.getLsbD 0 = false ∧
    (tightHall.tier 0).state = .secured ∧
    3 = (tightHall.prof 0).hold + (tightHall.mass none 0 * (tightHall.prof 0).testTorque + 9) / 10 ∧
    tightHall.aa.queue = [testEntry0] ∧
    tightHall.aa.budget - tightHall.allocated < 3 := by decide +kernel

theorem witness_ScanTests_5 :
    (bypassHall 8).phase = .running ∧
    (bypassHall 8).Room 2 ∧
    (bypassHall 8).convActive = false ∧
    (bypassHall 8).aa.scansDue = 0 + 1 ∧
    (testEntry0 =
      { kind := .test, tier := 0, members := [], cls := none, targetSlew := none, dir := none, targetTilt := none,
        auto := false, origin := .link, bypass := 0, sample := .none }) ∧
    (bypassHall 8).hallClosed = false ∧
    (bypassHall 8).fsu.showLock.getLsbD 0 = false ∧
    ((bypassHall 8).tier 0).state = .secured ∧
    3 = ((bypassHall 8).prof 0).hold + ((bypassHall 8).mass none 0 * ((bypassHall 8).prof 0).testTorque + 9) / 10 ∧
    (bypassHall 8).aa.queue = [waitingEntry 8, testEntry0] ∧
    (waitingEntry 8).tier ≠ 0 ∧
    (∀ u ∈ (waitingEntry 8).tiers,
      (bypassHall 8).fsu.showLock.getLsbD u = false ∧ ((bypassHall 8).tier u).state ≠ .faulted) ∧
    (bypassHall 8).standsFor (waitingEntry 8) (waitingEntry 8).tier = false ∧
    8 ≤ (waitingEntry 8).bypass := by decide +kernel

theorem witness_ScanAdmitsMove_1 :
    (scanHall TierState.ready [entry]).ScansOne 0 entry ∧
    (scanHall TierState.ready [entry]).Room 2 ∧
    (entry =
      { kind := EntryKind.move, tier := 0, members := [], cls := some MClass.maint, targetSlew := some 0x640000,
        dir := some Dir.cw, targetTilt := some 0, auto := entry.auto, origin := Origin.link, bypass := entry.bypass,
        sample := entry.sample }) ∧
    (scanHall TierState.ready [entry]).fsu.showLock.getLsbD 0 = false ∧
    ((scanHall TierState.ready [entry]).tier 0).state = TierState.ready ∧
    home = (scanHall TierState.ready [entry]).cmdPos 0 ∧
    (distance Dir.cw home.slew 0x640000 ≠ 0 ∨ 0 ≠ home.tilt) ∧
    (slewClaim =
      formClaim Dir.cw home.slew (distance Dir.cw home.slew 0x640000) ((scanHall TierState.ready [entry]).prof 0)
        (moveBand home.tilt 0)) ∧
    (scanHall TierState.ready [entry]).entryFits entry = true ∧
    (scanHall TierState.ready [entry]).entryZone entry = ZoneDecision.pass ∧
    (scanHall TierState.ready [entry]).grantable [0] slewClaim.arc = true ∧
    1 = (scanHall TierState.ready [entry]).mass (some MClass.maint) 0 ∧
    (16 =
      if MClass.maint = MClass.maint then
        min (scanHall TierState.ready [entry]).site.creep ((scanHall TierState.ready [entry]).prof 0).slewMax
      else ((scanHall TierState.ready [entry]).prof 0).slewMax) ∧
    (3 =
      ((if distance Dir.cw home.slew 0x640000 = 0 then 0 else (1 * 16 + 255) / 256) +
          if 0 = home.tilt then 0 else (1 * ((scanHall TierState.ready [entry]).prof 0).tiltSpeed + 7) / 8) +
        ((scanHall TierState.ready [entry]).prof 0).hold) ∧
    3 ≤ (scanHall TierState.ready [entry]).aa.budget - (scanHall TierState.ready [entry]).allocated := by decide +kernel

theorem witness_ScanAdmitsMove_2 :
    (convScan (Sample.valid 64 0 true) 500).ScansOne 0 convMove ∧
    (convScan (Sample.valid 64 0 true) 500).Room 2 ∧
    (convMove =
      { kind := EntryKind.move, tier := 0, members := [], cls := some MClass.convert, targetSlew := some 0x640000,
        dir := some Dir.cw, targetTilt := some 300, auto := convMove.auto, origin := Origin.link, bypass := convMove.bypass,
        sample := convMove.sample }) ∧
    (convScan (Sample.valid 64 0 true) 500).fsu.showLock.getLsbD 0 = false ∧
    ((convScan (Sample.valid 64 0 true) 500).tier 0).state = TierState.ready ∧
    home = (convScan (Sample.valid 64 0 true) 500).cmdPos 0 ∧
    (distance Dir.cw home.slew 0x640000 ≠ 0 ∨ 300 ≠ home.tilt) ∧
    (convClaim =
      formClaim Dir.cw home.slew (distance Dir.cw home.slew 0x640000) ((convScan (Sample.valid 64 0 true) 500).prof 0)
        (moveBand home.tilt 300)) ∧
    (convScan (Sample.valid 64 0 true) 500).entryFits convMove = true ∧
    (convScan (Sample.valid 64 0 true) 500).entryZone convMove = ZoneDecision.pass ∧
    (convScan (Sample.valid 64 0 true) 500).grantable [0] convClaim.arc = true ∧
    20 = (convScan (Sample.valid 64 0 true) 500).mass (some MClass.convert) 0 ∧
    (200 =
      if MClass.convert = MClass.maint then
        min (convScan (Sample.valid 64 0 true) 500).site.creep ((convScan (Sample.valid 64 0 true) 500).prof 0).slewMax
      else ((convScan (Sample.valid 64 0 true) 500).prof 0).slewMax) ∧
    (93 =
      ((if distance Dir.cw home.slew 0x640000 = 0 then 0 else (20 * 200 + 255) / 256) +
          if 300 = home.tilt then 0 else (20 * ((convScan (Sample.valid 64 0 true) 500).prof 0).tiltSpeed + 7) / 8) +
        ((convScan (Sample.valid 64 0 true) 500).prof 0).hold) ∧
    93 ≤ (convScan (Sample.valid 64 0 true) 500).aa.budget - (convScan (Sample.valid 64 0 true) 500).allocated ∧
    (convScan (Sample.valid 64 0 true) 500).zu.valid = true := by decide +kernel

theorem witness_ScanAdmitsMove_3 :
    (scanHall TierState.ready [tiltMove]).ScansOne 0 tiltMove ∧
    (scanHall TierState.ready [tiltMove]).Room 2 ∧
    (tiltMove =
      { kind := EntryKind.move, tier := 0, members := [], cls := some MClass.maint, targetSlew := some home.slew,
        dir := some Dir.cw, targetTilt := some 300, auto := tiltMove.auto, origin := Origin.link, bypass := tiltMove.bypass,
        sample := tiltMove.sample }) ∧
    (scanHall TierState.ready [tiltMove]).fsu.showLock.getLsbD 0 = false ∧
    ((scanHall TierState.ready [tiltMove]).tier 0).state = TierState.ready ∧
    home = (scanHall TierState.ready [tiltMove]).cmdPos 0 ∧
    (distance Dir.cw home.slew home.slew ≠ 0 ∨ 300 ≠ home.tilt) ∧
    (tiltClaim =
      formClaim Dir.cw home.slew (distance Dir.cw home.slew home.slew) ((scanHall TierState.ready [tiltMove]).prof 0)
        (moveBand home.tilt 300)) ∧
    (scanHall TierState.ready [tiltMove]).entryFits tiltMove = true ∧
    (scanHall TierState.ready [tiltMove]).entryZone tiltMove = ZoneDecision.pass ∧
    (scanHall TierState.ready [tiltMove]).grantable [0] tiltClaim.arc = true ∧
    1 = (scanHall TierState.ready [tiltMove]).mass (some MClass.maint) 0 ∧
    (16 =
      if MClass.maint = MClass.maint then
        min (scanHall TierState.ready [tiltMove]).site.creep ((scanHall TierState.ready [tiltMove]).prof 0).slewMax
      else ((scanHall TierState.ready [tiltMove]).prof 0).slewMax) ∧
    (6 =
      ((if distance Dir.cw home.slew home.slew = 0 then 0 else (1 * 16 + 255) / 256) +
          if 300 = home.tilt then 0 else (1 * ((scanHall TierState.ready [tiltMove]).prof 0).tiltSpeed + 7) / 8) +
        ((scanHall TierState.ready [tiltMove]).prof 0).hold) ∧
    6 ≤ (scanHall TierState.ready [tiltMove]).aa.budget - (scanHall TierState.ready [tiltMove]).allocated := by decide +kernel

theorem witness_ScanAdmitsMove_4 :
    gangScan.ScansOne 0 (gangEntry 1 0) ∧
    gangScan.Room 3 ∧
    1 ≠ 0 ∧
    (gangEntry 1 0 =
      { kind := .gangMove, tier := 1, members := [0], cls := some .maint, targetSlew := some 0x640000,
        dir := some .cw, targetTilt := none, auto := (gangEntry 1 0).auto, origin := .link,
        bypass := (gangEntry 1 0).bypass, sample := (gangEntry 1 0).sample }) ∧
    gangScan.fsu.showLock.getLsbD 1 = false ∧
    gangScan.fsu.showLock.getLsbD 0 = false ∧
    (gangScan.tier 1).state = .ready ∧
    (gangScan.tier 0).state = .ready ∧
    distance .cw (gangScan.cmdPos 1).slew 0x640000 ≠ 0 ∧
    gangClaim1 = gangScan.gangClaim .cw 1 [0] 0x640000 ∧
    gangScan.contiguous .cw 1 [0] = true ∧
    gangScan.entryFits (gangEntry 1 0) = true ∧
    gangScan.entryZone (gangEntry 1 0) = .pass ∧
    gangScan.grantable [1, 0] gangClaim1.arc = true ∧
    16 = min gangScan.site.creep (min (gangScan.prof 1).slewMax (gangScan.prof 0).slewMax) ∧
    (5 =
      ((gangScan.mass (some .maint) 1 + gangScan.mass (some .maint) 0) * 16 + 255) / 256 +
        ((gangScan.prof 1).hold + (gangScan.prof 0).hold)) ∧
    5 ≤ gangScan.aa.budget - gangScan.allocated := by decide +kernel

theorem witness_ScanDrops_1 :
    (showScan.ScansOne 0 entry ∧
      showScan.Room 1 ∧
      entry.kind = EntryKind.move ∧
      entry.tier = 0 ∧
      entry.members = [] ∧
      entry.origin = Origin.link ∧
      entry.cls = some MClass.maint ∧
      (showScan.fsu.showLock.getLsbD 0 = true ∧ Code.showLocked = Code.showLocked)) ∧
    (scanFaulted.ScansOne 0 entry ∧
      scanFaulted.Room 1 ∧
      (scanFaulted.fsu.showLock.getLsbD 0 = false ∧
        (scanFaulted.tier 0).state = TierState.faulted ∧ Code.fault = Code.fault)) := by decide +kernel

theorem witness_ScanDrops_2 :
    rangeScan.ScansOne 0 convMove ∧
    rangeScan.Room 1 ∧
    convMove.kind = EntryKind.move ∧
    convMove.tier = 0 ∧
    convMove.members = [] ∧
    convMove.origin = Origin.link ∧
    convMove.cls = some MClass.convert ∧
    (rangeScan.fsu.showLock.getLsbD 0 = false ∧
      (rangeScan.tier 0).state = TierState.ready ∧
        rangeScan.zu.valid = true ∧ (rangeScan.tier 0).loadRange = true ∧ Code.load = Code.load) := by decide +kernel

theorem witness_ScanDrops_3 :
    (convScan (.valid 64 64 true) 500).ScansOne 0 convMove ∧
    (convScan (.valid 64 64 true) 500).Room 1 ∧
    convMove.kind = .move ∧
    convMove.tier = 0 ∧
    convMove.members = [] ∧
    convMove.origin = .link ∧
    convMove.cls = some .convert ∧
    (BitVec.getLsbD (convScan (.valid 64 64 true) 500).fsu.showLock 0 = false ∧
      ((convScan (.valid 64 64 true) 500).tier 0).state = .ready ∧
        (convScan (.valid 64 64 true) 500).zu.valid = true ∧
          ((convScan (.valid 64 64 true) 500).tier 0).loadRange = false ∧
            (convScan (.valid 64 64 true) 500).sample 0 = .valid 64 64 true ∧
              ((convScan (.valid 64 64 true) 500).prof 0).vacancyLimit < 64) := by decide +kernel

theorem witness_ScanDrops_4 :
    (scanHall .ready [roundEntry]).ScansOne 0 roundEntry ∧
    (scanHall .ready [roundEntry]).Room 1 ∧
    roundEntry.kind = .move ∧
    roundEntry.tier = 0 ∧
    roundEntry.members = [] ∧
    roundEntry.origin = .link ∧
    roundEntry.cls = some .maint ∧
    ((scanHall .ready [roundEntry]).fsu.showLock.getLsbD 0 = false ∧
      ((scanHall .ready [roundEntry]).tier 0).state = .ready ∧
        (scanHall .ready [roundEntry]).entryFits roundEntry = false) := by decide +kernel

theorem witness_ScanDrops_5 :
    barScan.ScansOne 0 entry ∧
    barScan.Room 1 ∧
    entry.kind = .move ∧
    entry.tier = 0 ∧
    entry.members = [] ∧
    entry.origin = .link ∧
    entry.cls = some .maint ∧
    (barScan.fsu.showLock.getLsbD 0 = false ∧
      (barScan.tier 0).state = .ready ∧
        barScan.entryFits entry = true ∧ barScan.entryZone entry = .zone) := by decide +kernel

theorem witness_ScanDrops_6 :
    ((scanHall .settling [entry]).ScansOne 0 entry ∧
      (scanHall .settling [entry]).Room 1 ∧
      entry.kind = .move ∧
      entry.tier = 0 ∧
      entry.members = [] ∧
      entry.origin = .link ∧
      entry.cls = some .maint ∧
      (scanHall .settling [entry]).fsu.showLock.getLsbD 0 = false ∧
      ((scanHall .settling [entry]).tier 0).state ∉ [.ready, .faulted]) ∧
    (invalidScan.ScansOne 0 convMove ∧
      invalidScan.Room 1 ∧
      convMove.kind = .move ∧
      convMove.tier = 0 ∧
      convMove.members = [] ∧
      convMove.origin = .link ∧
      convMove.cls = some .convert ∧
      invalidScan.fsu.showLock.getLsbD 0 = false ∧
      ((invalidScan.tier 0).state = .ready ∧ invalidScan.zu.valid = false)) := by decide +kernel

theorem witness_ScanDrops_7 :
    pendingScan.ScansOne 0 pendingMove ∧
    pendingScan.Room 1 ∧
    pendingMove.kind = .move ∧
    pendingMove.tier = 0 ∧
    pendingMove.members = [] ∧
    pendingMove.origin = .link ∧
    pendingMove.cls = some .convert ∧
    pendingScan.fsu.showLock.getLsbD 0 = false ∧
    ((pendingScan.tier 0).state = .ready ∧
      pendingScan.zu.valid = true ∧
        (pendingScan.tier 0).loadRange = false ∧
          pendingScan.sampleFresh 0 = false ∧ pendingMove.sample = .pending) := by decide +kernel

theorem witness_ScanDrops_8 :
    tripScan.ScansOne 0 entry ∧
    tripScan.Room 1 ∧
    entry.kind = .move ∧
    entry.tier = 0 ∧
    entry.members = [] ∧
    entry.origin = .link ∧
    entry.cls = some .maint ∧
    tripScan.fsu.showLock.getLsbD 0 = false ∧
    ((tripScan.tier 0).state = .ready ∧
      tripScan.entryFits entry = true ∧ tripScan.entryZone entry = .wait) := by decide +kernel

theorem witness_ScanDrops_9 :
    (blockedAt (scanHall .ready [entry])).ScansOne 0 entry ∧
    (blockedAt (scanHall .ready [entry])).Room 1 ∧
    entry.kind = .move ∧
    entry.tier = 0 ∧
    entry.members = [] ∧
    entry.origin = .link ∧
    entry.cls = some .maint ∧
    BitVec.getLsbD (blockedAt (scanHall .ready [entry])).fsu.showLock 0 = false ∧
    (((blockedAt (scanHall .ready [entry])).tier 0).state = .ready ∧
      (blockedAt (scanHall .ready [entry])).entryFits entry = true ∧
        (blockedAt (scanHall .ready [entry])).entryZone entry = .pass ∧
          (blockedAt (scanHall .ready [entry])).grantable [0]
              ((blockedAt (scanHall .ready [entry])).entryClaim entry).arc =
            false) := by decide +kernel

theorem witness_ScanDrops_10 :
    (convScan .none 500).ScansOne 0 convMove ∧
    (convScan .none 500).Room 1 ∧
    convMove.kind = .move ∧
    convMove.tier = 0 ∧
    convMove.members = [] ∧
    convMove.origin = .link ∧
    convMove.cls = some .convert ∧
    (convScan .none 500).fsu.showLock.getLsbD 0 = false ∧
    ((convScan .none 500).tier 0).state = .ready ∧
    (convScan .none 500).zu.valid = true ∧
    ((convScan .none 500).tier 0).loadRange = false ∧
    (convScan .none 500).sampleFresh 0 = false ∧
    convMove.sample ≠ .pending ∧
    (convScan .none 500).lc.converter = none ∧
    (convScan .none 500).lc.fifo = [] := by decide +kernel

theorem witness_ScanDerates_1 :
    (convScan (.valid 64 0 true) 80).ScansOne 0 convMove ∧
    (convScan (.valid 64 0 true) 80).Room 2 ∧
    (convMove =
      { kind := .move, tier := 0, members := [], cls := some .convert, targetSlew := some 0x640000,
        dir := some .cw, targetTilt := some 300, auto := convMove.auto, origin := .link, bypass := convMove.bypass,
        sample := convMove.sample }) ∧
    (convScan (.valid 64 0 true) 80).fsu.showLock.getLsbD 0 = false ∧
    ((convScan (.valid 64 0 true) 80).tier 0).state = .ready ∧
    home = (convScan (.valid 64 0 true) 80).cmdPos 0 ∧
    (convScan (.valid 64 0 true) 80).zu.valid = true ∧
    ((convScan (.valid 64 0 true) 80).tier 0).loadRange = false ∧
    (convClaim =
      formClaim .cw home.slew (distance .cw home.slew 0x640000) ((convScan (.valid 64 0 true) 80).prof 0)
        (moveBand home.tilt 300)) ∧
    (convScan (.valid 64 0 true) 80).entryFits convMove = true ∧
    (convScan (.valid 64 0 true) 80).entryZone convMove = .pass ∧
    (convScan (.valid 64 0 true) 80).grantable [0] convClaim.arc = true ∧
    20 = (convScan (.valid 64 0 true) 80).mass (some .convert) 0 ∧
    (77 =
      (if 300 = home.tilt then 0 else (20 * ((convScan (.valid 64 0 true) 80).prof 0).tiltSpeed + 7) / 8) +
        ((convScan (.valid 64 0 true) 80).prof 0).hold) ∧
    80 = (convScan (.valid 64 0 true) 80).aa.budget - (convScan (.valid 64 0 true) 80).allocated ∧
    38 = (80 - 77) * 256 / 20 ∧
    distance .cw home.slew 0x640000 ≠ 0 ∧
    80 < (20 * ((convScan (.valid 64 0 true) 80).prof 0).slewMax + 255) / 256 + 77 ∧
    77 < 80 ∧
    (convScan (.valid 64 0 true) 80).site.creep ≤ 38 ∧
    80 = (20 * 38 + 255) / 256 + 77 := by decide +kernel

theorem witness_ScanDerates_2 :
    (convScan (.valid 64 0 true) 4).ScansOne 0 convMove ∧
    (convScan (.valid 64 0 true) 4).Room 2 ∧
    (convMove =
      { kind := .move, tier := 0, members := [], cls := some .convert, targetSlew := some 0x640000,
        dir := some .cw, targetTilt := some 300, auto := convMove.auto, origin := .link, bypass := convMove.bypass,
        sample := convMove.sample }) ∧
    (convScan (.valid 64 0 true) 4).fsu.showLock.getLsbD 0 = false ∧
    ((convScan (.valid 64 0 true) 4).tier 0).state = .ready ∧
    home = (convScan (.valid 64 0 true) 4).cmdPos 0 ∧
    (convScan (.valid 64 0 true) 4).zu.valid = true ∧
    ((convScan (.valid 64 0 true) 4).tier 0).loadRange = false ∧
    (convClaim =
      formClaim .cw home.slew (distance .cw home.slew 0x640000) ((convScan (.valid 64 0 true) 4).prof 0)
        (moveBand home.tilt 300)) ∧
    (convScan (.valid 64 0 true) 4).entryFits convMove = true ∧
    (convScan (.valid 64 0 true) 4).entryZone convMove = .pass ∧
    (convScan (.valid 64 0 true) 4).grantable [0] convClaim.arc = true ∧
    20 = (convScan (.valid 64 0 true) 4).mass (some .convert) 0 ∧
    (77 =
      (if 300 = home.tilt then 0 else (20 * ((convScan (.valid 64 0 true) 4).prof 0).tiltSpeed + 7) / 8) +
        ((convScan (.valid 64 0 true) 4).prof 0).hold) ∧
    4 = (convScan (.valid 64 0 true) 4).aa.budget - (convScan (.valid 64 0 true) 4).allocated ∧
    0 = (4 - 77) * 256 / 20 ∧
    (distance .cw home.slew 0x640000 ≠ 0 ∧
        4 < (20 * ((convScan (.valid 64 0 true) 4).prof 0).slewMax + 255) / 256 + 77 ∧
          (4 ≤ 77 ∨ 0 < (convScan (.valid 64 0 true) 4).site.creep) ∨
      distance .cw home.slew 0x640000 = 0 ∧ 4 < 77) := by decide +kernel

theorem witness_ScanDerates_3 :
    poorScan.ScansOne 0 entry ∧
    (entry =
      { kind := .move, tier := 0, members := [], cls := some .maint, targetSlew := some 0x640000,
        dir := some .cw, targetTilt := some 0, auto := entry.auto, origin := .link, bypass := entry.bypass,
        sample := entry.sample }) ∧
    poorScan.fsu.showLock.getLsbD 0 = false ∧
    (poorScan.tier 0).state = .ready ∧
    home = poorScan.cmdPos 0 ∧
    poorScan.entryFits entry = true ∧
    poorScan.entryZone entry = .pass ∧
    (poorScan.grantable [0]
        (formClaim .cw home.slew (distance .cw home.slew 0x640000) (poorScan.prof 0) (moveBand home.tilt 0)).arc =
      true) ∧
    (poorScan.aa.budget - poorScan.allocated <
      ((if distance .cw home.slew 0x640000 = 0 then 0
          else (poorScan.mass (some .maint) 0 * min poorScan.site.creep (poorScan.prof 0).slewMax + 255) / 256) +
          if 0 = home.tilt then 0 else (poorScan.mass (some .maint) 0 * (poorScan.prof 0).tiltSpeed + 7) / 8) +
        (poorScan.prof 0).hold) := by decide +kernel

theorem witness_LoadSamples_1 :
    ((hall (standing .secured)).Handles ∧
      tierOf 1 = some 1 ∧
      (hall (standing .secured)).installed 1 = false) ∧
    (tierOf 0 = some 0 ∧
      (hall (standing .secured)).installed 0 = true ∧
      (hall (standing .secured)).lc.converter = none ∧
      (hall (standing .secured)).lc.fifo = []) ∧
    ((loadHall (some (channel 0 false true)) []).Handles ∧
      (loadHall (some (channel 0 false true)) []).installed 0 = true ∧
      ((loadHall (some (channel 0 false true)) []).lc.converter =
         some { tier := 0, link := false, arbiter := true })) ∧
    ((loadHall (some (channel 1 true false)) []).Handles ∧
      (loadHall (some (channel 1 true false)) []).installed 0 = true ∧
      (loadHall (some (channel 1 true false)) []).lc.converter = some (channel 1 true false) ∧
      (channel 1 true false).tier ≠ 0 ∧
      (∀ x ∈ (loadHall (some (channel 1 true false)) []).lc.fifo, x.tier ≠ 0)) := by decide +kernel

theorem witness_LoadSamples_2 :
    ((loadHall (some (channel 0 true true)) [channel 1 true false]).phase = .running ∧
      (loadHall (some (channel 0 true true)) [channel 1 true false]).Room 1 ∧
      (loadHall (some (channel 0 true true)) [channel 1 true false]).installed 0 = true ∧
      ((loadHall (some (channel 0 true true)) [channel 1 true false]).lc.converter =
         some { tier := 0, link := true, arbiter := true }) ∧
      64 ≠ 4095 ∧
      (64 =
         (64#8).toNat * ((loadHall (some (channel 0 true true)) [channel 1 true false]).prof 0).loadScale /
           64)) ∧
    ((loadHall (some (channel 0 true false)) []).phase = .running ∧
      (loadHall (some (channel 0 true false)) []).Room 1 ∧
      (loadHall (some (channel 0 true false)) []).installed 0 = true ∧
      ((loadHall (some (channel 0 true false)) []).lc.converter =
         some { tier := 0, link := true, arbiter := false }) ∧
      4095 = 4095) ∧
    (sampledHall.phase = .running ∧
      sampledHall.Room 1 ∧
      sampledHall.sample 0 = Sample.valid 64 64 true) := by decide +kernel

theorem witness_GeneratorBounds :
    (1 ≤ 20 ∧
      20 ≤ 200 ∧
      90 ≤ 200 ∧
      (gen 150).speed ≤ 200) ∧
    ((gen 500).finished = false ∧
      braking 20 (gen 500).speed ≤ (gen 500).rem) ∧
    (1 ≤ 90 ∧
      (gen 500).finished = decide ((gen 500).rem = 0)) := by decide +kernel

theorem witness_PlacementHolds :
    gangHall.fm.canPlace 0 [] { first := 78, len := 4 } = true ∧
    (hall (standing .ready)).grantable [0] slewClaim.arc = true ∧
    (12 - slewClaim.finish ≤ 256 ∧
      slewClaim.finish - 12 ≤ 256) := by decide +kernel

theorem witness_ClaimCoversMotion :
    327680 ≤ 1310720 ∧
    (formClaim .cw home.slew 1310720 prof 0).finish < 256 ∧
    85 ∈ (footprint prof (advance .cw home.slew 327680) 0).cells := by decide +kernel

theorem witness_WalkOrder :
    ((4 =
         match (walkFrom .four 2).run with
         | .one => 1
         | .two => 2
         | .four => 4
         | .eight => 8
         | .cont => 8)) ∧
    ((8 =
         match (walkFrom .cont 3).run with
         | .one => 1
         | .two => 2
         | .four => 4
         | .eight => 8
         | .cont => 8)) := by decide +kernel

end Sys2Proof.Tests
end

section
/-! PROOFS. Ring geometry: the footprint along a motion, and the claim that covers it (R1, R8, R46 to R48, R52). -/

namespace Sys2Proof.Machine

/-- A cell of an arc is a number of cells on from its first. -/
theorem Arc.mem_cells {a : Arc} {g : Cell} : g ∈ a.cells ↔ ∃ i < a.len, a.first + BitVec.ofNat 8 i = g := by
  simp [Arc.cells]

/-- A motion clockwise lies in the cell as many cells on from its start as it has crossed (R1, R46). -/
theorem cellOf_advance_cw (p : Slew) (x : Nat) :
    cellOf (advance .cw p x) = cellOf p + BitVec.ofNat 8 (cellsCrossed .cw p x) := by
  apply BitVec.eq_of_toNat_eq
  simp only [cellOf, advance, cellsCrossed, refOffset, offsetOf, BitVec.toNat_add, BitVec.toNat_ofNat]
  omega

/-- A motion counter-clockwise lies in the cell as many cells back from its start as it has crossed (R1, R47). -/
theorem cellOf_advance_ccw (p : Slew) (x : Nat) :
    cellOf (advance .ccw p x) = cellOf p - BitVec.ofNat 8 (cellsCrossed .ccw p x) := by
  apply BitVec.eq_of_toNat_eq
  simp only [cellOf, advance, cellsCrossed, refOffset, offsetOf, BitVec.toNat_sub, BitVec.toNat_ofNat]
  omega

/-- The steps of a footprint during a motion, counted from the trailing edge of the footprint at its start: they begin at the
cells crossed and span both extents, where this fits in one turn (R8, R46, R47). -/
theorem stepsFrom_footprint {w : Dir} {p : Slew} {x : Nat} {q : ProfileData} {band : Fin 4} {g : Cell}
    (hfit : cellsCrossed w p x + (q.extL.get band + q.extR.get band) < 256)
    (hg : g ∈ (footprint q (advance w p x) band).cells) :
    ∃ i ≤ q.extL.get band + q.extR.get band,
      stepsFrom w ((footprint q p band).trailing w) g = cellsCrossed w p x + i := by
  obtain ⟨i, hi, rfl⟩ := Arc.mem_cells.mp hg
  obtain ⟨j, hj⟩ := Nat.exists_eq_add_of_le (Nat.le_of_lt_succ hi)
  cases w with
  | cw =>
    have hcells : cellOf p + BitVec.ofNat 8 (cellsCrossed .cw p x) - BitVec.ofNat 8 (q.extL.get band) + BitVec.ofNat 8 i -
        (cellOf p - BitVec.ofNat 8 (q.extL.get band)) = BitVec.ofNat 8 (cellsCrossed .cw p x + i) := by
      rw [BitVec.ofNat_add]; ring
    refine ⟨i, by omega, ?_⟩
    simp only [stepsFrom, Arc.trailing, footprint, cellOf_advance_cw, hcells]
    exact Nat.mod_eq_of_lt (by omega)
  | ccw =>
    have hcells : cellOf p - BitVec.ofNat 8 (q.extL.get band) + BitVec.ofNat 8 (i + j + 1) - 1 -
        (cellOf p - BitVec.ofNat 8 (cellsCrossed .ccw p x) - BitVec.ofNat 8 (q.extL.get band) + BitVec.ofNat 8 i) =
        BitVec.ofNat 8 (cellsCrossed .ccw p x + j) := by
      rw [BitVec.ofNat_add, BitVec.ofNat_add, BitVec.ofNat_add, show BitVec.ofNat 8 1 = (1 : Cell) from rfl]; ring
    refine ⟨j, by omega, ?_⟩
    simp only [stepsFrom, Arc.trailing, Arc.last, footprint, cellOf_advance_ccw, hj, hcells]
    exact Nat.mod_eq_of_lt (by omega)

/-- Settles O59: a point of the motion has crossed no more cells than its end, so its footprint's steps, which begin at the
cells crossed there, end before the claim does. -/
theorem claimCoversMotion : Obligations.ClaimCoversMotion := by
  unfold Obligations.ClaimCoversMotion
  intro w p d x q band g hx hfit hg
  have hcross : cellsCrossed w p x ≤ cellsCrossed w p d := Nat.div_le_div_right (by omega)
  have hend : (formClaim w p d q band).finish = cellsCrossed w p d + q.extL.get band + q.extR.get band := rfl
  have htrail : (formClaim w p d q band).trailingIndex x = cellsCrossed w p x := rfl
  obtain ⟨i, hi, hstep⟩ := stepsFrom_footprint (Nat.lt_of_le_of_lt (by omega) hfit) hg
  have horigin : stepsFrom w (formClaim w p d q band).origin g = cellsCrossed w p x + i := hstep
  omega

end Sys2Proof.Machine
end

section
/-! PROOFS. PROFILE-PUT (R11, R12, R59, R167): what each of its checks answers, and what a profile taken leaves. -/

namespace Sys2Proof.Machine

/-- A byte that names a tier passes check 1 (R33). -/
theorem withTier_of_some {s : State} {b : Byte} {t : Tier} (h : tierOf b = some t) (k : Tier → Answer) :
    s.withTier b k = k t := by
  simp [State.withTier, h]

/-- A device fault that is set is cleared with its report, a scan trigger (R101, R167). -/
theorem clearDevice_of_set {s : State} {k : DeviceFault} (hr : s.Room 1) (h : s.fsu.device.getLsbD k.bit = true) :
    s.clearDevice k = (State.trigger
      { s with fsu := { s.fsu with device := s.fsu.device &&& ~~~(1#12 <<< k.bit) } }).told [.device false k] := by
  rw [State.clearDevice, if_pos h, report_eq_told (by exact hr), told_trigger]

/-- A device fault that is not set is not cleared (R167). -/
theorem clearDevice_of_unset {s : State} {k : DeviceFault} (h : s.fsu.device.getLsbD k.bit = false) :
    s.clearDevice k = s := by
  simp [State.clearDevice, h]

/-- A trigger under a condition counts one scan where it holds (R101). -/
theorem triggerIf_eq (s : State) (b : Bool) :
    s.triggerIf b = { s with aa := { s.aa with scansDue := s.aa.scansDue + if b then 1 else 0 } } := by
  cases b <;> rfl

/-- The footprint that a standing tier would have under another profile (R8, R59). -/
def State.standingUnder (s : State) (t : Tier) (q : ProfileData) : Arc :=
  footprint q (s.cmdPos t).slew (tiltBand (s.cmdPos t).tilt)

section Checks

variable {s : State} {t : Tier} {q : ProfileData}

/-- Check 2 of PROFILE-PUT: the group is locked (R11). -/
theorem putProfile_locked (hl : s.fsu.profilesLocked = true) : s.putProfile t q = s.refuse .locked := by
  simp [State.putProfile, hl]

/-- A standing tier is SECURED or UNSYNCED (R11, check 3). -/
theorem atRest_iff : s.atRest t = true ↔ (s.tier t).state ∈ [.secured, .unsynced] := by
  simp [State.atRest]

/-- Check 3 of PROFILE-PUT: an installed tier does not stand (R11). -/
theorem putProfile_busy (hl : s.fsu.profilesLocked = false) (hi : s.installed t = true)
    (hs : (s.tier t).state ∉ [.secured, .unsynced]) : s.putProfile t q = s.refuse .busy := by
  rw [← atRest_iff, Bool.not_eq_true] at hs
  simp [State.putProfile, hl, hi, hs]

variable (hl : s.fsu.profilesLocked = false) (hs : s.installed t = true → s.atRest t = true)

include hl hs

/-- Checks 4 and 5 of PROFILE-PUT: a field of the clamped record out of its range (R10, R12). -/
theorem putProfile_illegal (hq : profileLegal q = false) : s.putProfile t q = s.refuse .range := by
  simp +contextual [State.putProfile, hl, hs, hq]

/-- A record that makes no change to a footprint on the map is taken as it is: the tier is not SECURED, or its extents at its
tilt stay (R11). -/
theorem putProfile_kept (hq : profileLegal q = true)
    (hk : s.installed t = true → (s.tier t).state = .secured →
      (s.cmdPos t).tilt ≤ q.tiltMax ∧ s.extentsDiffer t q = false) :
    s.putProfile t q = (s.takeProfile t q).accept := by
  by_cases h : s.installed t = true ∧ (s.tier t).state = .secured
  · obtain ⟨htilt, hext⟩ := hk h.1 h.2
    simp [State.putProfile, hl, hs, hq, h, htilt, hext]
  · have hn : (s.installed t && decide ((s.tier t).state = .secured)) = false := by simpa using h
    simp +contextual [State.putProfile, hl, hs, hq, hn]

end Checks

section Secured

variable {s : State} {t : Tier} {q : ProfileData}

/-- The re-mark of a footprint that can be placed, a scan trigger where it frees a cell (R59, R101). -/
theorem remark_of_canPlace (hp : s.fm.canPlace t [] (s.standingUnder t q) = true) :
    s.remark t q = some { s with
      fm := s.fm.place t (s.standingUnder t q)
      aa := { s.aa with scansDue := s.aa.scansDue +
        if (s.standing t).cells.any (fun g => !(s.standingUnder t q).mem g) then 1 else 0 } } :=
  (if_pos hp).trans (congrArg some (triggerIf_eq _ _))

/-- A footprint that cannot be placed is not re-marked (R59). -/
theorem remark_of_not_canPlace (hp : s.fm.canPlace t [] (s.standingUnder t q) = false) : s.remark t q = none :=
  if_neg (Bool.eq_false_iff.mp hp)

variable (hl : s.fsu.profilesLocked = false) (hq : profileLegal q = true) (hi : s.installed t = true)
  (hst : (s.tier t).state = .secured)

include hl hq hi hst

/-- Check 5 of PROFILE-PUT on a SECURED tier: a tilt maximum below its commanded tilt (R11). -/
theorem putProfile_tilt (htilt : q.tiltMax < (s.cmdPos t).tilt) : s.putProfile t q = s.refuse .range := by
  simp [State.putProfile, State.atRest, hl, hq, hi, hst, htilt]

variable (htilt : (s.cmdPos t).tilt ≤ q.tiltMax) (hext : s.extentsDiffer t q = true)

include htilt hext

/-- Check 6 of PROFILE-PUT: the changed footprint of a SECURED tier is re-marked, and the record taken (R11, R59). -/
theorem putProfile_remarked {x : State} (hx : s.remark t q = some x) :
    s.putProfile t q = (x.takeProfile t q).accept := by
  simp [State.putProfile, State.atRest, hl, hq, hi, hst, Nat.not_lt.mpr htilt, hext, hx]

/-- Check 6 of PROFILE-PUT: the changed footprint of a SECURED tier cannot be placed (R11, R59). -/
theorem putProfile_blocked (hx : s.remark t q = none) : s.putProfile t q = s.refuse .claim := by
  simp [State.putProfile, State.atRest, hl, hq, hi, hst, Nat.not_lt.mpr htilt, hext, hx]

end Secured

section Replies

variable {s : State} {tag b : Byte} {t : Tier} {p : ProfileData}

/-- PROFILE-PUT refused: its reply alone (R180). -/
theorem profilePut_refused (h : s.Handles) (ht : tierOf b = some t) {c : Code} (hc : c ≠ .unknown)
    (hr : s.putProfile t (profileClamped p) = s.refuse c) :
    exec (.profilePut tag b p) s = .next (s.replied tag 0xA9 c [] []) :=
  request_same h ((withTier_of_some ht _).trans hr) hc

/-- PROFILE-PUT taken, after a re-mark or without one: the profile is set with its valid flag on, and CONFIG-PROFILES is
cleared with its report, a scan trigger (R11, R101, R167). -/
theorem profilePut_taken {x : State} (h : s.Handles) (hroom : s.Room 1) (ht : tierOf b = some t)
    (hr : s.putProfile t (profileClamped p) = (x.takeProfile t (profileClamped p)).accept) (hclp : x.clp = s.clp)
    (hfsu : x.fsu = s.fsu) :
    exec (.profilePut tag b p) s = .next (if s.fsu.device.getLsbD 8 = true then
      ({ x with
        profiles := x.profiles.set t ⟨true, profileClamped p⟩
        fsu := { s.fsu with device := s.fsu.device &&& 0xEFF#12 }
        aa := { x.aa with scansDue := x.aa.scansDue + 1 } } : State).replied tag 0xA9 .ok [] [.device false .configProfiles]
      else ({ x with profiles := x.profiles.set t ⟨true, profileClamped p⟩ } : State).replied tag 0xA9 .ok [] []) := by
  have hserve : s.serve (.profilePut b p) = (x.takeProfile t (profileClamped p)).accept :=
    (withTier_of_some ht _).trans hr
  split
  case isTrue hset =>
    have htake := clearDevice_of_set (s := { x with profiles := x.profiles.set t ⟨true, profileClamped p⟩ })
      (k := .configProfiles) (by simpa only [State.Room, hclp] using hroom) (by rw [hfsu]; exact hset)
    rw [← hfsu]
    exact request_next h (hserve.trans (congrArg State.accept htake)) (by decide) hclp
  case isFalse hunset =>
    have htake := clearDevice_of_unset (s := { x with profiles := x.profiles.set t ⟨true, profileClamped p⟩ })
      (k := .configProfiles) (by rw [hfsu]; exact Bool.eq_false_iff.mpr hunset)
    exact request_next h (by rw [told_nil]; exact hserve.trans (congrArg State.accept htake)) (by decide) hclp

end Replies

/-- Settles O33: each check answers as its lemma says, and a record that passes them all is taken on the map as it is or on
the re-marked one. -/
theorem profilePutTaken : Obligations.ProfilePutTaken := by
  unfold Obligations.ProfilePutTaken
  rintro tag b t p q s h hroom ht rfl
  have hrest (hs : s.installed t = true → (s.tier t).state ∈ [.secured, .unsynced]) (hi : s.installed t = true) :
      s.atRest t = true := atRest_iff.mpr (hs hi)
  refine ⟨fun hl => ?locked, fun hl hi hs => ?busy, fun hl hs hq => ?illegal, ?taken, fun hl hq hi hst => ?secured⟩
  case locked => exact profilePut_refused h ht (by decide) (putProfile_locked hl)
  case busy => exact profilePut_refused h ht (by decide) (putProfile_busy hl hi hs)
  case illegal => exact profilePut_refused h ht (by decide) (putProfile_illegal hl (hrest hs) hq)
  case taken =>
    rintro m n x hl hq rfl (⟨hs, rfl, rfl⟩ | ⟨hi, hst, htilt, ⟨hext, rfl, rfl⟩ | ⟨hext, hplace, rfl, rfl⟩⟩)
    · exact profilePut_taken h hroom ht (putProfile_kept hl (hrest fun hi => by simp [hs hi]) hq
        fun hi hst => absurd (hs hi) (by simp [hst])) rfl rfl
    · exact profilePut_taken h hroom ht (putProfile_kept hl (hrest fun _ => by simp [hst]) hq
        fun _ _ => ⟨htilt, hext⟩) rfl rfl
    · exact profilePut_taken h hroom ht
        (putProfile_remarked hl hq hi hst htilt hext (remark_of_canPlace hplace)) rfl rfl
  case secured =>
    refine ⟨fun htilt => ?_, fun htilt hext hplace => ?_⟩
    · exact profilePut_refused h ht (by decide) (putProfile_tilt hl hq hi hst htilt)
    · exact profilePut_refused h ht (by decide) (putProfile_blocked hl hq hi hst htilt hext (remark_of_not_canPlace hplace))

end Sys2Proof.Machine
end

section
/-! PROOFS. The bytes of a feedback record read back (R153): the framer takes a whole record, and it decodes to the record
that was sent. -/

namespace Sys2Proof.Machine

/-- A number of two bytes is read back. -/
theorem n16_u16 {n : Nat} (h : n < 65536) : n16 (BitVec.ofNat 8 (n / 256)) (BitVec.ofNat 8 n) = n := by
  simp only [n16, BitVec.toNat_ofNat]
  omega

/-- A slew position is read back from its three bytes. -/
theorem slewOf_u24 (p : Slew) :
    slewOf (BitVec.ofNat 8 (p.toNat / 65536)) (BitVec.ofNat 8 (p.toNat / 256)) (BitVec.ofNat 8 p.toNat) = p := by
  apply BitVec.eq_of_toNat_eq
  have := p.isLt
  simp only [slewOf, BitVec.toNat_ofNat]
  omega

/-- The tier of a feedback record is in the low bits of its first byte. -/
theorem tierByte_mod (t : Tier) (odd : Bool) :
    (BitVec.ofNat 8 (t.val + if odd then 128 else 0)).toNat % 16 = t.val := by
  revert t odd; decide

/-- The parity of a feedback record is the top bit of its first byte. -/
theorem tierByte_parity (t : Tier) (odd : Bool) :
    (BitVec.ofNat 8 (t.val + if odd then 128 else 0)).getLsbD 7 = odd := by
  revert t odd; decide

/-- The brake state of a feedback record is read back. -/
theorem brakeOfCode_brakeByte (f : Feedback) : brakeOfCode (f.brakeByte.toNat % 4) = some f.brake := by
  rw [Feedback.brakeByte]
  cases f.brake <;> cases f.standstill <;> rfl

/-- The standstill flag of a feedback record is read back. -/
theorem brakeByte_standstill (f : Feedback) : f.brakeByte.getLsbD 2 = f.standstill := by
  rw [Feedback.brakeByte]
  cases f.brake <;> cases f.standstill <;> rfl

/-- The set of drive faults of a feedback record is read back. -/
theorem extractLsb'_faults (x : BitVec 4) : (x.zeroExtend 8).extractLsb' 0 4 = x := by
  revert x; decide

/-- The set of drive faults of a feedback record has no bit that names no fault. -/
theorem toNat_faults_lt (x : BitVec 4) : (x.zeroExtend 8).toNat < 16 := by
  revert x; decide

/-- The fields of a feedback record, without its start byte and check value. -/
def Feedback.inner (f : Feedback) : List Byte :=
  [BitVec.ofNat 8 (f.tier.val + if f.parity then 128 else 0)] ++ slewBytes f.slew ++ u16 f.tilt ++
    [f.brakeByte, f.faults.zeroExtend 8] ++ u16 f.slip

/-- The bytes of a feedback record after its start byte. -/
def Feedback.afterStart (f : Feedback) : List Byte := f.inner ++ setBytes (crc f.inner)

/-- A feedback record is its start byte, its fields and their check value. -/
theorem Feedback.bytes_eq (f : Feedback) : f.bytes = 0x5B :: f.afterStart := rfl

/-- Twelve bytes follow the start byte of a feedback record. -/
theorem Feedback.afterStart_length (f : Feedback) : f.afterStart.length = 12 := rfl

/-- A feedback record whose fields fit the layout is read back from its bytes (R153). -/
theorem feedbackOf_afterStart {f : Feedback} (htilt : f.tilt < 32768) (hslip : f.slip < 65536) :
    feedbackOf f.afterStart = some f := by
  have hcheck : ¬ setBytes (crc (f.afterStart.take 10)) ≠ f.afterStart.drop 10 := fun h => h rfl
  have hbrake : brakeOfCode ((byteAt f.afterStart 6).toNat % 4) = some f.brake := brakeOfCode_brakeByte f
  have htier : (byteAt f.afterStart 0).toNat % 16 = f.tier.val := tierByte_mod f.tier f.parity
  have hpar : (byteAt f.afterStart 0).getLsbD 7 = f.parity := tierByte_parity f.tier f.parity
  have hslew : slewAt f.afterStart 1 = f.slew := slewOf_u24 f.slew
  have htilt' : num16 f.afterStart 4 = f.tilt := n16_u16 (by omega)
  have hstill : (byteAt f.afterStart 6).getLsbD 2 = f.standstill := brakeByte_standstill f
  have hfaults : (byteAt f.afterStart 7).extractLsb' 0 4 = f.faults := extractLsb'_faults f.faults
  have hfit : (byteAt f.afterStart 7).toNat < 16 := toNat_faults_lt f.faults
  have hslip' : num16 f.afterStart 8 = f.slip := n16_u16 hslip
  simp [feedbackOf, hcheck, hbrake, htier, hpar, hslew, htilt', htilt, hstill, hfaults, hfit, hslip',
    -BitVec.getLsbD_eq_getElem]

/-- The framer takes the bytes that are left of a record one by one, and hunts again once the twelfth completes it
(R153). -/
theorem driveBytes_record (bs got : List Byte) (s : State) (hf : s.dlp.framer = .record got) (hne : bs ≠ [])
    (hlen : got.length + bs.length = 12) :
    s.driveBytes bs = (s.setDriveFramer .hunting).completeRecord (got ++ bs) := by
  induction bs generalizing got s with
  | nil => exact absurd rfl hne
  | cons b rest ih =>
    simp only [List.length_cons] at hlen
    cases rest with
    | nil =>
      have hlast : ¬ got.length < 11 := by simp at hlen; omega
      simp [State.driveBytes, State.driveByte, hf, hlast]
    | cons c rest =>
      have hmore : got.length < 11 := by simp at hlen; omega
      have hstep : s.driveByte b = s.setDriveFramer (.record (got ++ [b])) := by simp [State.driveByte, hf, hmore]
      calc s.driveBytes (b :: c :: rest)
          = (s.setDriveFramer (.record (got ++ [b]))).driveBytes (c :: rest) := by rw [← hstep]; rfl
        _ = (s.setDriveFramer .hunting).completeRecord ((got ++ [b]) ++ c :: rest) :=
            ih (got ++ [b]) _ rfl (List.cons_ne_nil _ _) (by simp at hlen ⊢; omega)
        _ = (s.setDriveFramer .hunting).completeRecord (got ++ b :: c :: rest) := by simp

/-- The framer set to what it is. -/
theorem setDriveFramer_self {s : State} {x : DriveFramer} (h : s.dlp.framer = x) : s.setDriveFramer x = s := by
  subst h; rfl

/-- The bytes of a feedback record that is accepted hand the record on and leave the framer hunting (R153, R155). -/
theorem driveBytes_accepted {s : State} {f : Feedback} (h : s.Accepts f) : s.driveBytes f.bytes = s.acceptFeedback f := by
  obtain ⟨-, hframer, htilt, hslip, hinst, hsent, hnew⟩ := h
  have hstart : s.driveByte 0x5B = s.setDriveFramer (.record []) := by simp [State.driveByte, hframer]
  calc s.driveBytes f.bytes
      = (s.setDriveFramer (.record [])).driveBytes f.afterStart := by rw [← hstart]; rfl
    _ = (s.setDriveFramer .hunting).completeRecord f.afterStart :=
        driveBytes_record _ [] _ rfl (List.ne_nil_of_length_pos (by simp [f.afterStart_length]))
          (by simp [f.afterStart_length])
    _ = s.completeRecord f.afterStart := by rw [setDriveFramer_self hframer]
    _ = s.acceptFeedback f := by
      simp [State.completeRecord, feedbackOf_afterStart htilt hslip, hinst, State.testFeedback, LinkRec.accepts, hsent, hnew]

/-- A feedback record that is accepted leaves what its steps give, with their reports queued (R156). -/
theorem feedbackRecord_next {s s' : State} {f : Feedback} {rs : List Report} (h : s.Accepts f)
    (hs : s.acceptFeedback f = s'.told rs) : exec (.feedbackRecord f.bytes) s = .next (s'.reported rs) := by
  have hrun : s.phase = .running := h.1
  calc exec (.feedbackRecord f.bytes) s
      = s.during fun x => x.driveBytes f.bytes := duringDrive_during (by rw [hrun]; decide) _
    _ = .next (s'.reported rs) := during_reported hrun ((driveBytes_accepted h).trans hs)

end Sys2Proof.Machine
end

section
/-! PROOFS. The first synchronisation of a tier (R5, R21, R58, R160), with what entering a state and taking a fault leave on
a tier that runs no move and no test (R20, R23, R42, R163). -/

namespace Sys2Proof.Machine

/-! ### Changes gathered: one change of the tier's record, one of its link record, the reports outermost -/

section Gathered

variable (s : State) (t : Tier)

theorem modTier_modTier (f g : TierRec → TierRec) : (s.modTier t f).modTier t g = s.modTier t fun r => g (f r) := by
  have hget : (s.tiers.set t (f (s.tiers.get t))).get t = f (s.tiers.get t) := vector_get_set_self _ _ _
  have hset : (s.tiers.set t (f (s.tiers.get t))).set t (g (f (s.tiers.get t))) = s.tiers.set t (g (f (s.tiers.get t))) := by
    simp
  simp only [State.modTier, hget, hset]

theorem modLink_modLink (f g : LinkRec → LinkRec) : (s.modLink t f).modLink t g = s.modLink t fun l => g (f l) := by
  have hget : (s.dlp.links.set t (f (s.dlp.links.get t))).get t = f (s.dlp.links.get t) := vector_get_set_self _ _ _
  have hset : (s.dlp.links.set t (f (s.dlp.links.get t))).set t (g (f (s.dlp.links.get t))) =
      s.dlp.links.set t (g (f (s.dlp.links.get t))) := by simp
  simp only [State.modLink, hget, hset]

theorem modLink_modTier (f : LinkRec → LinkRec) (g : TierRec → TierRec) :
    (s.modLink t f).modTier t g = (s.modTier t g).modLink t f := rfl

theorem modTier_trigger (f : TierRec → TierRec) : (s.modTier t f).trigger = s.trigger.modTier t f := rfl

theorem modLink_trigger (f : LinkRec → LinkRec) : (s.modLink t f).trigger = s.trigger.modLink t f := rfl

theorem modTier_modFloor (f : TierRec → TierRec) (g : Floor → Floor) :
    (s.modTier t f).modFloor g = (s.modFloor g).modTier t f := rfl

theorem modLink_modFloor (f : LinkRec → LinkRec) (g : Floor → Floor) :
    (s.modLink t f).modFloor g = (s.modFloor g).modLink t f := rfl

theorem told_told (rs qs : List Report) : (s.told rs).told qs = s.told (rs ++ qs) := by simp [State.told]

theorem told_room (rs : List Report) (n : Nat) : (s.told rs).Room n ↔ s.Room (rs.length + n) := by
  simp [State.told, State.Room, Nat.add_assoc]

variable {s t}

/-- A change of a tier's record is what it makes of the record that stands there. -/
theorem modTier_congr {f g : TierRec → TierRec} (h : f (s.tier t) = g (s.tier t)) : s.modTier t f = s.modTier t g := by
  have h' : f (s.tiers.get t) = g (s.tiers.get t) := h
  simp only [State.modTier, h']

theorem modLink_congr {f g : LinkRec → LinkRec} (h : f (s.link t) = g (s.link t)) : s.modLink t f = s.modLink t g := by
  have h' : f (s.dlp.links.get t) = g (s.dlp.links.get t) := h
  simp only [State.modLink, h']

theorem modTier_self {f : TierRec → TierRec} (h : f (s.tier t) = s.tier t) : s.modTier t f = s := by
  have h' : s.tiers.set t (f (s.tiers.get t)) = s.tiers := by
    rw [show f (s.tiers.get t) = s.tiers.get t from h]; simp [Vector.get_eq_getElem]
  simp only [State.modTier, h']

end Gathered

/-! ### Entering a state (R20, R23) -/

section Enter

variable {s : State} {t : Tier}

/-- A tier that enters a state has its brake timer stopped and its TIER-STATE queued (R20, R24). -/
theorem enter_eq (hr : s.Room 1) (x : TierState) :
    s.enter t x = (s.modTier t fun r => { r with state := x, brakeTimer := .stopped }).told [.tierState t x] :=
  report_eq_told hr

/-- The CU hears of SECURED only while a conversion runs (R123). -/
theorem convSecured_of_idle (hc : s.convActive = false) : s.convSecured t = s := by
  have hidle : ¬ (s.cu.state = .running ∨ s.cu.state = .stalled) := by
    rintro (h | h) <;> simp [State.convActive, h] at hc
  simp [State.convSecured, hidle]

/-- A tier that enters SECURED while no conversion runs: its state, its report and a scan trigger (R23, R101). -/
theorem enterSecured_eq (hr : s.Room 1) (hc : s.convActive = false) :
    s.enterSecured t =
      (s.trigger.modTier t fun r => { r with state := .secured, brakeTimer := .stopped }).told [.tierState t .secured] := by
  rw [State.enterSecured, enter_eq hr, told_trigger, modTier_trigger]
  exact convSecured_of_idle hc

/-- A tier that enters SECURING: its state, its report and the SECURE-WAIT timer (R23). -/
theorem enterSecuring_eq (hr : s.Room 1) :
    s.enterSecuring t = (s.modTier t fun r =>
      { r with state := .securing, brakeTimer := .secureWait (s.prof t).secureTimeout }).told [.tierState t .securing] := by
  rw [State.enterSecuring, enter_eq hr, told_modTier, modTier_modTier]

end Enter

/-! ### Taking a fault (R42, R163) -/

section Fault

variable {s : State} {t : Tier}

/-- The first fault of a tier is latched with the state and the position that it met, and its FAULT report queued (R163). -/
theorem latch_first (hr : s.Room 1) (h0 : (s.tier t).fault.latched = 0) (k : FaultKind) :
    s.latch t k = (s.modTier t fun r =>
      { r with fault := ⟨1#12 <<< k.bit, some ⟨k, (s.tier t).state, s.cmdPos t⟩⟩ }).told
      [.faultRaised t k (s.tier t).state (s.cmdPos t)] := by
  have hfault : (s.modTier t fun r =>
      { r with fault := ⟨r.fault.latched ||| (1#12 <<< k.bit), some ⟨k, (s.tier t).state, s.cmdPos t⟩⟩ }) =
      s.modTier t fun r => { r with fault := ⟨1#12 <<< k.bit, some ⟨k, (s.tier t).state, s.cmdPos t⟩⟩ } :=
    modTier_congr (by simp [h0])
  rw [← hfault, ← report_eq_told (by exact hr)]
  simp [State.latch, h0]

/-- A tier that no entry and no grant names loses none. -/
theorem freeGrant_of_unnamed (h : s.Unnamed t) : s.freeGrant t = s := by
  simp [State.freeGrant, h.2]

theorem removeEntryOf_of_unnamed (h : s.Unnamed t) (c : Code) : s.removeEntryOf t c = s := by
  simp [State.removeEntryOf, h.1]

/-- A fault takes a tier that runs no move and no test, and has no entry and no grant, to FAULTED with its timers stopped
(R42). -/
theorem faultReaction_standing (hr : s.Room 1) (hn : s.Unnamed t) (hm : (s.tier t).state ∉ [.moving, .paused, .testing]) :
    s.faultReaction t = (s.modTier t fun r =>
      { r with state := .faulted, brakeTimer := .stopped, securePending := false, settleTimer := none,
               testTimer := none }).told [.tierState t .faulted] := by
  have hstill : s.faultReaction t =
      (s.modTier t fun r => { r with securePending := false, settleTimer := none, testTimer := none }).enter t .faulted := by
    simp only [List.mem_cons, List.not_mem_nil, or_false, not_or] at hm
    obtain ⟨hmoving, hpaused, htesting⟩ := hm
    cases hmove : (s.tier t).move <;>
      simp [State.faultReaction, hmove, hmoving, hpaused, htesting, freeGrant_of_unnamed hn, removeEntryOf_of_unnamed hn]
  rw [hstill, enter_eq (by exact hr), modTier_modTier]

/-- A first fault takes a tier that runs no move and no test, and has no entry and no grant, to FAULTED with its FAULT and
TIER-STATE reports (R42, R163). -/
theorem latch_faultReaction (hr : s.Room 2) (hn : s.Unnamed t) (h0 : (s.tier t).fault.latched = 0)
    (hm : (s.tier t).state ∉ [.moving, .paused, .testing]) (k : FaultKind) :
    (s.latch t k).faultReaction t = (s.modTier t fun r => r.faulted k (s.cmdPos t)).told
      [.faultRaised t k (s.tier t).state (s.cmdPos t), .tierState t .faulted] := by
  have hlatch := latch_first (s := s) (t := t) (by simp only [State.Room] at hr ⊢; omega) h0 k
  have hroom : (s.latch t k).Room 1 := by rw [hlatch, told_room]; exact hr
  have hstand : ((s.latch t k).tier t).state ∉ [.moving, .paused, .testing] := by
    rw [hlatch, told_tier, modTier_tier]; exact hm
  have hunnamed : (s.latch t k).Unnamed t := by rw [hlatch]; exact hn
  rw [faultReaction_standing hroom hunnamed hstand, hlatch, told_modTier, told_told, modTier_modTier]
  rfl

/-- A tier without a move moves with no other (R40). -/
theorem gangOf_of_no_move (h : (s.tier t).move = none) : s.gangOf t = [t] := by
  rw [State.gangOf, h]
  cases (s.tier t).state <;> rfl

/-- The states in which a tier stands without a move are none of those in which it moves or is tested. -/
theorem standing_not_running {x : TierState} (h : x ∈ [.secured, .releasing, .ready, .settling, .securing]) :
    x ∉ [.moving, .paused, .testing] := by
  cases x <;> simp at h ⊢

/-- A fault that reaches a standing tier without a move, an entry, a grant and a fault takes it to FAULTED (R42, R163). -/
theorem raiseFault_standing (hr : s.Room 2) (hn : s.Unnamed t) (h0 : (s.tier t).fault.latched = 0)
    (hmove : (s.tier t).move = none) (hst : (s.tier t).state ∈ [.secured, .releasing, .ready, .settling, .securing])
    (k : FaultKind) :
    s.raiseFault t k = (s.modTier t fun r => r.faulted k (s.cmdPos t)).told
      [.faultRaised t k (s.tier t).state (s.cmdPos t), .tierState t .faulted] := by
  rw [← latch_faultReaction hr hn h0 (standing_not_running hst), State.raiseFault, gangOf_of_no_move hmove]
  split
  case h_1 h => simp [h] at hst
  case h_2 h => simp [h] at hst
  case h_3 => simp only [List.foldl_cons, List.foldl_nil]

end Fault

/-! ### The steps of a feedback on a standing tier (R156) -/

section Steps

variable {s : State} {f : Feedback}

/-- A tier that does not move releases nothing behind it (R52). -/
theorem trailingRelease_of_not_moving (h : (s.tier f.tier).state ≠ .moving) : s.trailingRelease f = s := by
  unfold State.trailingRelease
  dsimp only
  split
  case h_1 hm _ _ => exact absurd hm h
  case h_2 => rfl

/-- A tier in a state without a following-error check takes none (R159). -/
theorem followCheck_of_not_followed (h : (s.tier f.tier).followed = false) : s.followCheck f = s := by
  unfold State.followCheck
  split <;> simp [h]

/-- A feedback with no drive fault that is new only sets the reported set (R160). -/
theorem driveFaults_of_none (h : f.faults &&& ~~~(s.link f.tier).reported = 0) :
    s.driveFaults f = s.modLink f.tier fun l => { l with reported := f.faults } := by
  simp [State.driveFaults, driveKinds, h]

/-- A feedback with one drive fault that is new delivers it, and sets the reported set (R160). -/
theorem driveFaults_of_one {k : FaultKind} (hk : k ∈ driveKinds)
    (h : f.faults &&& ~~~(s.link f.tier).reported = 1#4 <<< k.bit) :
    s.driveFaults f = (s.raiseFault f.tier k).modLink f.tier fun l => { l with reported := f.faults } := by
  rw [State.driveFaults, h]
  fin_cases hk <;> simp [driveKinds, FaultKind.bit]

/-- Steps 3 and 4 leave a tier alone that neither moves nor is followed (R156). -/
theorem handOn_standing (hm : (s.tier f.tier).state ≠ .moving) (hf : (s.tier f.tier).followed = false) :
    s.handOn f = ((s.driveFaults f).brakeStep f).linkStep f.tier := by
  rw [State.handOn, trailingRelease_of_not_moving hm, followCheck_of_not_followed hf]

/-- A SECURED tier with its brakes SET starts no brake watch (R24). -/
theorem brakeStep_secured (hst : (s.tier f.tier).state = .secured) (hset : f.brake = .set)
    (htimer : (s.tier f.tier).brakeTimer = .stopped) : s.brakeStep f = s := by
  have hwatch : s.brakeWatch f.tier true (s.prof f.tier).secureTimeout = s :=
    modTier_self (by simp only [htimer, if_true]; rw [← htimer])
  simp [State.brakeStep, hst, hset, hwatch]

/-- A SECURING tier without a quick stop waits while its brakes are not SET (R23). -/
theorem brakeStep_securing (hst : (s.tier f.tier).state = .securing) (hset : f.brake ≠ .set)
    (hstop : (s.tier f.tier).stop ≠ .quick) : s.brakeStep f = s := by
  simp [State.brakeStep, hst, hset, hstop]

/-- The brakes of a FAULTED tier are not looked at (R156). -/
theorem brakeStep_faulted (hst : (s.tier f.tier).state = .faulted) : s.brakeStep f = s := by
  simp [State.brakeStep, hst]

/-- The link record of a feedback whose drive faults and seven steps are done (R157, R158, R160). -/
def LinkRec.stepped (l : LinkRec) (f : Feedback) : LinkRec := { l with reported := f.faults, timer := false, lost := false }

/-- A feedback that has no new drive fault and no effect of its brake state on a standing tier leaves only its mark in the
link record (R156). -/
theorem handOn_quiet (hm : (s.tier f.tier).state ≠ .moving) (hf : (s.tier f.tier).followed = false)
    (hnew : f.faults &&& ~~~(s.link f.tier).reported = 0)
    (hbrake : (s.modLink f.tier fun l => { l with reported := f.faults }).brakeStep f =
      s.modLink f.tier fun l => { l with reported := f.faults }) :
    s.handOn f = s.modLink f.tier fun l => l.stepped f := by
  rw [handOn_standing hm hf, driveFaults_of_none hnew, hbrake, State.linkStep, modLink_modLink]
  rfl

/-- A feedback with one new drive fault takes a SECURED tier without a move, an entry, a grant and a fault to FAULTED
(R42, R160). -/
theorem handOn_secured_fault {k : FaultKind} (hr : s.Room 2) (hn : s.Unnamed f.tier)
    (h0 : (s.tier f.tier).fault.latched = 0) (hmove : (s.tier f.tier).move = none)
    (hst : (s.tier f.tier).state = .secured) (hk : k ∈ driveKinds)
    (hnew : f.faults &&& ~~~(s.link f.tier).reported = 1#4 <<< k.bit) :
    s.handOn f = ((s.modTier f.tier fun r => r.faulted k (s.cmdPos f.tier)).modLink f.tier fun l => l.stepped f).told
      [.faultRaised f.tier k .secured (s.cmdPos f.tier), .tierState f.tier .faulted] := by
  have hraise := raiseFault_standing hr hn h0 hmove (by simp [hst]) k
  rw [hst] at hraise
  rw [handOn_standing (by simp [hst]) (by simp [TierRec.followed, hst]), driveFaults_of_one hk hnew, hraise, told_modLink,
    brakeStep_faulted (by simp [TierRec.faulted]), State.linkStep, told_modLink, modLink_modLink]
  rfl

end Steps

/-! ### The synchronisation (R5, R21, R58) -/

section Synchronise

variable {s : State} {f : Feedback}

/-- The positions of a tier that a feedback synchronises: commanded and actual alike (R5, R21). -/
def TierRec.positioned (r : TierRec) (f : Feedback) : TierRec :=
  { r with act := some ⟨f.slew, f.tilt⟩, cmd := some ⟨f.slew, f.tilt⟩ }

/-- The state in which a feedback synchronises its tier: accepted, and its positions taken (R5, R155). -/
def State.positioned (s : State) (f : Feedback) : State :=
  (s.modTier f.tier fun r => r.positioned f).modLink f.tier fun l => l.accept f

theorem positioned_cmdPos (s : State) (f : Feedback) : (s.positioned f).cmdPos f.tier = ⟨f.slew, f.tilt⟩ := by
  simp [State.cmdPos, State.positioned, TierRec.positioned]

/-- Step 1 on a tier that is not tested takes the actual positions (R4). -/
theorem takePosition_of_not_testing (h : (s.tier f.tier).state ≠ .testing) :
    s.takePosition f = s.modTier f.tier fun r => { r with act := some ⟨f.slew, f.tilt⟩ } := by
  simp [State.takePosition, h]

/-- A feedback beyond the tilt maximum leaves its tier UNSYNCED, with its actual positions (R21). -/
theorem acceptFeedback_beyond (hst : (s.tier f.tier).state = .unsynced) (ht : (s.prof f.tier).tiltMax < f.tilt) :
    s.acceptFeedback f =
      (s.modTier f.tier fun r => { r with act := some ⟨f.slew, f.tilt⟩ }).modLink f.tier fun l => l.accept f := by
  have htake : (s.modLink f.tier fun l => l.accept f).takePosition f = _ := takePosition_of_not_testing (by simp [hst])
  rw [State.acceptFeedback, htake]
  exact (if_pos (by simp [hst])).trans (if_neg (Nat.not_le.mpr ht))

/-- The footprint at the positions of a feedback (R8). -/
def State.footprintAt (s : State) (f : Feedback) : Arc := footprint (s.prof f.tier) f.slew (tiltBand f.tilt)

/-- A feedback within the tilt maximum synchronises its tier: a free footprint is marked and the tier goes to SECURED or
SECURING by its brakes, and one that is not free gives MAP-CONFLICT; steps 3 to 7 follow (R21, R58). -/
theorem acceptFeedback_synchronises (hst : (s.tier f.tier).state = .unsynced) (ht : f.tilt ≤ (s.prof f.tier).tiltMax) :
    s.acceptFeedback f = State.handOn
      (if s.fm.allFree (s.footprintAt f) then
        (if f.brake = .set then
          State.enterSecured ((s.positioned f).modFloor fun m => m.mark f.tier (s.footprintAt f)) f.tier
        else State.enterSecuring ((s.positioned f).modFloor fun m => m.mark f.tier (s.footprintAt f)) f.tier).trigger
      else ((s.positioned f).latch f.tier .mapConflict).faultReaction f.tier) f := by
  have htake : (s.modLink f.tier fun l => l.accept f).takePosition f = _ := takePosition_of_not_testing (by simp [hst])
  have hpos : ((s.modLink f.tier fun l => l.accept f).takePosition f).cmdFromActual f.tier = s.positioned f := by
    rw [htake, State.cmdFromActual, modTier_modTier, modLink_modTier]
    have hclamp : clampTilt (s.prof f.tier) f.tilt = f.tilt := Nat.min_eq_left ht
    refine congrArg (fun x => State.modLink x f.tier fun l => l.accept f) (modTier_congr ?_)
    show ({ s.tier f.tier with
      act := some ⟨f.slew, f.tilt⟩, cmd := some ⟨f.slew, clampTilt (s.prof f.tier) f.tilt⟩ } : TierRec) = _
    rw [hclamp]
    rfl
  have hstand : (s.positioned f).standing f.tier = s.footprintAt f := by
    rw [State.standing, positioned_cmdPos]
    rfl
  have hstep : s.acceptFeedback f =
      (((s.modLink f.tier fun l => l.accept f).takePosition f).synchronise f).handOn f := by
    rw [State.acceptFeedback, htake]
    exact (if_pos (by simp [hst])).trans (if_pos ht)
  rw [hstep, State.synchronise, hpos, hstand]
  rfl

/-- The state with the footprint at a feedback's positions marked HELD, and `n` scan triggers more (R58, R101). -/
def State.marked (s : State) (f : Feedback) (n : Nat) : State :=
  { s with
    fm := s.fm.mark f.tier (s.footprintAt f)
    aa := { s.aa with scansDue := s.aa.scansDue + n } }

@[simp] theorem marked_tier (s : State) (f : Feedback) (n : Nat) (u : Tier) : (s.marked f n).tier u = s.tier u := rfl
@[simp] theorem marked_link (s : State) (f : Feedback) (n : Nat) (u : Tier) : (s.marked f n).link u = s.link u := rfl

section Landed

variable (hroom : s.Room 1) (hst : (s.tier f.tier).state = .unsynced) (ht : f.tilt ≤ (s.prof f.tier).tiltMax)
  (hfree : s.fm.allFree (s.footprintAt f) = true)

include hroom hst ht hfree

/-- A feedback with SET brakes synchronises its tier to SECURED, which gives two scan triggers (R21, R23, R101). -/
theorem acceptFeedback_secured (htimer : (s.tier f.tier).brakeTimer = .stopped) (hc : s.convActive = false)
    (hset : f.brake = .set) :
    s.acceptFeedback f = State.handOn ((((s.marked f 2).modTier f.tier fun r =>
      { r.positioned f with state := .secured }).modLink f.tier fun l =>
        l.accept f).told [.tierState f.tier .secured]) f := by
  rw [acceptFeedback_synchronises hst ht, if_pos hfree, if_pos hset, enterSecured_eq (by exact hroom) (by exact hc)]
  simp only [told_trigger, State.positioned, modTier_trigger, modLink_trigger, modLink_modFloor, modTier_modFloor,
    modLink_modTier, modTier_modTier]
  refine congrArg (fun x => State.handOn ((State.modLink x f.tier fun l => l.accept f).told _) f) (modTier_congr ?_)
  show ({ (s.tier f.tier).positioned f with state := .secured, brakeTimer := .stopped } : TierRec) = _
  rw [← htimer]
  rfl

/-- A feedback whose brakes are not SET synchronises its tier to SECURING, a scan trigger (R21, R23, R101). -/
theorem acceptFeedback_securing (hset : f.brake ≠ .set) :
    s.acceptFeedback f = State.handOn ((((s.marked f 1).modTier f.tier fun r => { r.positioned f with
      state := .securing, brakeTimer := .secureWait (s.prof f.tier).secureTimeout }).modLink f.tier fun l =>
        l.accept f).told [.tierState f.tier .securing]) f := by
  rw [acceptFeedback_synchronises hst ht, if_pos hfree, if_neg hset, enterSecuring_eq (by exact hroom)]
  simp only [told_trigger, State.positioned, modTier_trigger, modLink_trigger, modLink_modFloor, modTier_modFloor,
    modLink_modTier, modTier_modTier]
  rfl

end Landed

/-- A feedback on a footprint that is not free leaves its tier FAULTED with MAP-CONFLICT (R21, R58). -/
theorem acceptFeedback_conflict (hroom : s.Room 2) (hst : (s.tier f.tier).state = .unsynced)
    (ht : f.tilt ≤ (s.prof f.tier).tiltMax) (hfree : s.fm.allFree (s.footprintAt f) = false)
    (h0 : (s.tier f.tier).fault.latched = 0) (hn : s.Unnamed f.tier) :
    s.acceptFeedback f = State.handOn (((s.modTier f.tier fun r =>
      (r.positioned f).faulted .mapConflict ⟨f.slew, f.tilt⟩).modLink f.tier fun l => l.accept f).told
        [.faultRaised f.tier .mapConflict .unsynced ⟨f.slew, f.tilt⟩, .tierState f.tier .faulted]) f := by
  have hpos : (s.positioned f).tier f.tier = (s.tier f.tier).positioned f :=
    modTier_tier s f.tier fun r => r.positioned f
  have hmet : ((s.positioned f).tier f.tier).state = .unsynced := by rw [hpos]; exact hst
  rw [acceptFeedback_synchronises hst ht, if_neg (by simp [hfree]),
    latch_faultReaction (by exact hroom) (by exact hn) (by rw [hpos]; exact h0) (by simp [hmet]),
    positioned_cmdPos, hmet, State.positioned, modLink_modTier, modTier_modTier]

end Synchronise

/-- A feedback record that is accepted, with what it leaves of its tier's record and of its link record written out on the
records that stand there (R156). -/
theorem feedbackRecord_leaves {s b : State} {f : Feedback} {F G : TierRec → TierRec} {L K : LinkRec → LinkRec}
    {rs : List Report} (h : s.Accepts f) (hs : s.acceptFeedback f = ((b.modTier f.tier F).modLink f.tier L).told rs)
    (hF : F (b.tier f.tier) = G (b.tier f.tier)) (hL : L (b.link f.tier) = K (b.link f.tier)) :
    exec (.feedbackRecord f.bytes) s = .next (((b.modTier f.tier G).modLink f.tier K).reported rs) := by
  rw [feedbackRecord_next h hs, modTier_congr hF, modLink_congr (s := b.modTier f.tier G) hL]

/-- The link record of a feedback without drive faults (R155, R157, R160). -/
theorem LinkRec.stepped_accept_of_none (l : LinkRec) {f : Feedback} (hf : f.faults = 0) :
    (l.accept f).stepped f = { l with answered := true, last := some f, reported := 0, timer := false, lost := false } := by
  simp [LinkRec.stepped, LinkRec.accept, hf]

/-- Settles O47: what the feedback leaves of its tier by its map, brakes and tilt, and then the steps that follow on a tier
that stands. -/
theorem synchronised : Obligations.Synchronised := by
  unfold Obligations.Synchronised
  rintro f l a s hrun hroom hframer htilt hslip hinst rfl hsent hnew hst hstop htimer h0 hn hc rfl
  have hacc : s.Accepts f := ⟨hrun, hframer, htilt, hslip, hinst, hsent, hnew⟩
  have hroom1 : s.Room 1 := by simp only [State.Room] at hroom ⊢; omega
  have hroom2 : s.Room 2 := by simp only [State.Room] at hroom ⊢; omega
  refine ⟨fun hf ht hfree hset => ?secured, fun hf ht hfree hset => ?securing, fun hf ht hfree => ?conflict,
    fun ht => ?beyond, fun k hk hf hrep ht hfree hset hmove => ?fault⟩
  case secured =>
    have hsynced := acceptFeedback_secured hroom1 hst ht hfree htimer hc hset
    rw [handOn_quiet (by simp) (by simp [TierRec.followed]) (by simp [hf])
      (brakeStep_secured (by simp) hset (by simp [TierRec.positioned, htimer])),
      told_modLink, modLink_modLink] at hsynced
    exact feedbackRecord_leaves hacc hsynced rfl (LinkRec.stepped_accept_of_none _ hf)
  case securing =>
    have hsynced := acceptFeedback_securing hroom1 hst ht hfree hset
    rw [handOn_quiet (by simp) (by simp [TierRec.followed]) (by simp [hf])
      (brakeStep_securing (by simp) hset (by simp [TierRec.positioned, hstop])),
      told_modLink, modLink_modLink] at hsynced
    exact feedbackRecord_leaves hacc hsynced rfl (LinkRec.stepped_accept_of_none _ hf)
  case conflict =>
    have hsynced := acceptFeedback_conflict hroom2 hst ht hfree h0 hn
    rw [handOn_quiet (by simp [TierRec.faulted]) (by simp [TierRec.followed, TierRec.faulted]) (by simp [hf])
      (brakeStep_faulted (by simp [TierRec.faulted])), told_modLink, modLink_modLink] at hsynced
    exact feedbackRecord_leaves hacc hsynced rfl (LinkRec.stepped_accept_of_none _ hf)
  case beyond =>
    have hsynced := (acceptFeedback_beyond hst ht).trans (told_nil _).symm
    exact feedbackRecord_leaves hacc hsynced rfl rfl
  case fault =>
    have hsynced := acceptFeedback_secured hroom1 hst ht hfree htimer hc hset
    have hfaults : f.faults &&& ~~~(s.link f.tier).reported = 1#4 <<< k.bit := by
      rw [hrep, hf, show ~~~(0 : BitVec 4) = BitVec.allOnes 4 from rfl, BitVec.and_allOnes]
    have hcmd : ((((s.marked f 2).modTier f.tier fun r => { r.positioned f with state := .secured }).modLink f.tier fun l =>
        l.accept f).told [.tierState f.tier .secured]).cmdPos f.tier = ⟨f.slew, f.tilt⟩ := by
      simp [State.cmdPos, TierRec.positioned]
    rw [handOn_secured_fault ((told_room _ _ _).mpr hroom) (by exact hn) (by simp [TierRec.positioned, h0])
      (by simp [TierRec.positioned, hmove]) (by simp) hk (by simpa [LinkRec.accept] using hfaults), hcmd, told_modTier,
      told_modLink, told_told, modLink_modTier, modTier_modTier, modLink_modLink] at hsynced
    exact feedbackRecord_leaves hacc hsynced rfl rfl

end Sys2Proof.Machine
end

section
/-! PROOFS. Power, RESET and RESTART begin a start-up (R18, R149, R191, R192). -/

namespace Sys2Proof.Machine

/-- A reset gives every tier its reset record, with its brake-weak restriction where that is kept (R18, R149). -/
theorem boot_tier (s : State) (keepWeak : Bool) (n : Tier) :
    (s.boot keepWeak).tier n = TierRec.reset (keepWeak && (s.tier n).brakeWeak) := by
  show (s.tiers.map fun r => TierRec.reset (keepWeak && r.brakeWeak)).get n = _
  simp [State.tier, Vector.get_eq_getElem]

/-- Steps 1 to 5 of start-up: the blocks reset, the settings loaded, and the levels taken at the pins (R191). -/
theorem startsUp_boot (s : State) (keepWeak : Bool) :
    s.StartsUp (s.boot keepWeak) fun n => keepWeak && (s.tier n).brakeWeak := by
  have hblocks : (s.boot keepWeak).BlocksReset fun n => keepWeak && (s.tier n).brakeWeak :=
    ⟨rfl, boot_tier s keepWeak, rfl, rfl, rfl, rfl, rfl, rfl, rfl, rfl, rfl, rfl, rfl, rfl, rfl, rfl, rfl⟩
  exact ⟨rfl, rfl, hblocks, rfl, rfl, rfl, rfl, rfl, rfl, rfl, rfl, rfl, rfl, rfl, rfl, rfl, rfl⟩

/-- Without a running store operation there is nothing to cut off (R186). -/
theorem cutStore_of_idle {s : State} (h : s.nvs.op = none) : s.cutStore = s := by
  simp [State.cutStore, h]

/-- Settles O12: each of the three commands runs steps 1 to 5, only the end of a RESTART with the restrictions kept. -/
theorem startUpBegins : Obligations.StartUpBegins := by
  unfold Obligations.StartUpBegins
  intro s
  refine ⟨fun hop hreset => ⟨s.boot false, ?_, startsUp_boot s false⟩,
    fun hheld => ⟨State.boot { s with pins := { s.pins with resetLow := false } } false, ?_, startsUp_boot _ false⟩,
    fun hrun hdue hop => ⟨s.boot true, ?_, startsUp_boot s true⟩⟩
  · show Host.Outcome.next s.powerOn = _
    simp [State.powerOn, cutStore_of_idle hop, hreset]
  · show Host.Outcome.next s.resetRises = _
    simp [State.resetRises, hheld]
  · show Host.Outcome.next (if s.running && decide (s.clp.restart = .due) then s.boot true else s) = _
    simp [State.running, hrun, hdue]

end Sys2Proof.Machine
end

section
/-! PROOFS. Requests to one tier: RELEASE by its checks and its column (R20, R22, R33, R34), the entries of the legality
table that change nothing (R34), and the offer of a GANG-MOVE (R39, R97). -/

namespace Sys2Proof.Machine

section Checks

variable {s : State} {b : Byte} {t : Tier}

/-- A byte that names an installed tier passes checks 1 and 2 (R33). -/
theorem withInstalled_of_names (h : s.Names b t) (k : Tier → Answer) : s.withInstalled b k = k t := by
  simp [State.withInstalled, withTier_of_some h.1, h.2]

/-- A byte that names no tier is refused RANGE (R33). -/
theorem withInstalled_of_none (h : tierOf b = none) (k : Tier → Answer) : s.withInstalled b k = s.refuse .range := by
  simp [State.withInstalled, State.withTier, h]

/-- A tier that is not installed is refused NO-TIER (R33). -/
theorem withInstalled_of_not_installed (h : tierOf b = some t) (hi : s.installed t = false) (k : Tier → Answer) :
    s.withInstalled b k = s.refuse .noTier := by
  simp [State.withInstalled, withTier_of_some h, hi]

/-- Checks 3 and 4 pass without fail-safe and without show lock on the tier's gang (R33). -/
theorem motionCheck_of_clear (hf : s.fsu.failsafe = none) (hl : s.showBarred t = false) : s.motionCheck t = none := by
  simp [State.motionCheck, hf, hl]

/-- Show lock does not stand against a gang none of whose tiers is locked (R33, check 4). -/
theorem showBarred_of_unlocked (h : ∀ u ∈ s.gangOf t, s.fsu.showLock.getLsbD u = false) : s.showBarred t = false :=
  List.any_eq_false.mpr fun u hu => by simp only [h u hu, Bool.false_eq_true, not_false_eq_true]

/-- Show lock does not stand against an unbarred tier alone (R33, check 4). -/
theorem showBarred_of_unbarred (h : s.Unbarred t) (hg : s.gangOf t = [t]) : s.showBarred t = false :=
  showBarred_of_unlocked fun u hu => by rw [hg, List.mem_singleton] at hu; rw [hu]; exact h.2

end Checks

/-! ### RELEASE (R22, R33, R34) -/

section Release

variable {s : State} {t : Tier}

/-- The RELEASE column of the legality table (R34). -/
def releaseColumn : TierState → Code
  | .unsynced => .state
  | .faulted => .state
  | .securing => .busy
  | .testing => .busy
  | _ => .ok

/-- The code of a RELEASE of an installed tier: that of the first failing check of R33, or of the column of R34. -/
def State.releaseCode (s : State) (t : Tier) : Code :=
  if s.fsu.failsafe ≠ none then .failsafe
  else if s.showBarred t = true then .showLocked
  else if (s.profiles.get t).valid = false then .profile
  else if (s.tier t).brakeWeak = true then .brake
  else releaseColumn (s.tier t).state

/-- A RELEASE answers its code, and acts only where that is OK on a SECURED tier (R22, R33, R34). -/
theorem tryRelease_eq :
    s.tryRelease t = (s.releaseCode t,
      if s.releaseCode t = .ok ∧ (s.tier t).state = .secured then s.enterReleasing t else s) := by
  unfold State.tryRelease State.releaseCode
  by_cases hf : s.fsu.failsafe = none
  case neg => simp [hf, Option.isSome_iff_ne_none]
  by_cases hl : s.showBarred t = true
  case pos => simp [hf, hl]
  by_cases hv : (s.profiles.get t).valid = false
  case pos => simp [hf, hl, hv]
  by_cases hw : (s.tier t).brakeWeak = true
  case pos => simp [hf, hl, hv, hw]
  cases hst : (s.tier t).state <;> simp [hf, hl, hv, hw, releaseColumn]

/-- RELEASE is never UNKNOWN (R180). -/
theorem releaseCode_ne_unknown : s.releaseCode t ≠ .unknown := by
  have hcolumn : releaseColumn (s.tier t).state ≠ .unknown := by cases (s.tier t).state <;> decide
  unfold State.releaseCode
  split_ifs <;> simp only [ne_eq, reduceCtorEq, not_false_eq_true, hcolumn]

/-- A tier that enters RELEASING: its state, its report and the RELEASE-WAIT timer (R22). -/
theorem enterReleasing_eq (hr : s.Room 1) :
    s.enterReleasing t = (s.modTier t fun r =>
      { r with state := .releasing, brakeTimer := .releaseWait (s.prof t).releaseTimeout }).told [.tierState t .releasing] := by
  rw [State.enterReleasing, enter_eq hr, told_modTier, modTier_modTier]

end Release

/-- Settles O15: RELEASE answers the code of its checks, and a taken one on a SECURED tier enters RELEASING. -/
theorem release : Obligations.Release := by
  unfold Obligations.Release
  refine ⟨fun tag b t s h hroom hn hu hv hw hst => ?_, fun tag b s h => ⟨fun hb => ?_, fun t c hb hc hkept => ?_⟩⟩
  · have hgang : s.gangOf t = [t] := by simp [State.gangOf, hst]
    have hcode : s.releaseCode t = .ok := by
      simp [State.releaseCode, hu.1, showBarred_of_unbarred hu hgang, hv, hw, hst, releaseColumn]
    have htry : s.tryRelease t = (.ok, s.enterReleasing t) := by simp [tryRelease_eq, hcode, hst]
    refine request_next h ?_ (by decide) rfl
    show s.withInstalled b _ = _
    rw [withInstalled_of_names hn, htry, enterReleasing_eq hroom]
  · exact request_same h (withInstalled_of_none hb _) (by decide)
  · cases hi : s.installed t
    case false =>
      obtain rfl : c = .noTier := by simpa [hi] using hc
      exact request_same h (withInstalled_of_not_installed hb hi _) (by decide)
    case true =>
      have hcode : c = s.releaseCode t := by rw [hc, hi]; rfl
      have htry : s.tryRelease t = (c, s) := by
        rw [tryRelease_eq, ← hcode]
        rcases hkept with hne | hne <;> simp [hne]
      refine request_same h ?_ (hcode ▸ releaseCode_ne_unknown)
      show s.withInstalled b _ = _
      rw [withInstalled_of_names ⟨hb, hi⟩, htry]

end Sys2Proof.Machine
end

section
/-! PROOFS. The entries of the legality table that change nothing (R34). -/

namespace Sys2Proof.Machine

section Columns

variable {s : State} {b : Byte} {t : Tier}

/-- SECURE where the legality table has N (R34). -/
theorem secure_of_idle (h : (s.tier t).state ∈ [.unsynced, .secured, .securing, .testing, .faulted]) : s.secure t = s := by
  cases hst : (s.tier t).state <;> simp [hst] at h <;> simp [State.secure, hst]

/-- A HALT on a tier without an active walk leaves its walk record (R136). -/
theorem haltWalk_of_inactive (h : (s.tier t).walk.active = false) : s.haltWalk t = s := by
  simp [State.haltWalk, h]

/-- HALT where the legality table has N (R34). -/
theorem halt_of_idle (hw : (s.tier t).walk.active = false) (h : (s.tier t).state ∈ [.unsynced, .securing, .faulted]) :
    s.halt t = s := by
  rw [State.halt, haltWalk_of_inactive hw]
  cases hst : (s.tier t).state <;> simp [hst] at h <;> rfl

/-- HALT on a standing or settling tier removes the entry that names it (R34, R35). -/
theorem halt_standing (h : (s.tier t).state ∈ [.secured, .releasing, .ready, .settling]) :
    s.halt t = (s.haltWalk t).removeEntryOf t .cancelled := by
  have hst : ((s.haltWalk t).tier t).state = (s.tier t).state := by
    unfold State.haltWalk
    split <;> simp [State.modWalk]
  rw [State.halt]
  cases hx : (s.tier t).state <;> simp [hx] at h <;> simp [hst, hx]

/-- A tier that no entry names loses none. -/
theorem removeEntryOf_of_none (h : s.entryOf t = none) (c : Code) : s.removeEntryOf t c = s := by
  simp [State.removeEntryOf, h]

/-- PAUSE on a tier that neither moves, stands paused nor is tested (R34). -/
theorem servePause_of_idle (hn : s.Names b t)
    (h : (s.tier t).state ∈ [.unsynced, .secured, .releasing, .ready, .settling, .securing, .faulted]) :
    s.servePause b = s.refuse .state := by
  rw [State.servePause, withInstalled_of_names hn]
  cases hst : (s.tier t).state <;> simp [hst] at h <;> rfl

/-- RESUME on a tier that neither moves, stands paused nor is tested (R34). -/
theorem serveResume_of_idle (hn : s.Names b t) (hm : s.motionCheck t = none)
    (h : (s.tier t).state ∈ [.unsynced, .secured, .releasing, .ready, .settling, .securing, .faulted]) :
    s.serveResume b = s.refuse .state := by
  rw [State.serveResume, withInstalled_of_names hn, hm]
  cases hst : (s.tier t).state <;> simp [hst] at h <;> rfl

/-- RESUME on a tier that moves (R34). -/
theorem serveResume_moving (hn : s.Names b t) (hm : s.motionCheck t = none) (h : (s.tier t).state = .moving) :
    s.serveResume b = s.accept := by
  rw [State.serveResume, withInstalled_of_names hn, hm, h]

/-- RESUME on a tier that is tested (R34). -/
theorem serveResume_testing (hn : s.Names b t) (hm : s.motionCheck t = none) (h : (s.tier t).state = .testing) :
    s.serveResume b = s.refuse .busy := by
  rw [State.serveResume, withInstalled_of_names hn, hm, h]

/-- The MOVE column of the legality table where it has a code (R34). -/
theorem queueCheck_of_refused {c : Code} (h : (s.tier t).state ∈ [.unsynced, .secured, .moving, .paused, .securing, .faulted] ∧
    c = .state ∨ (s.tier t).state = .testing ∧ c = .busy) : s.queueCheck t = some c := by
  cases hst : (s.tier t).state <;> simp [hst] at h <;> simp [State.queueCheck, hst, h]

/-- The MOVE column of the legality table where it has Q (R34). -/
theorem queueCheck_of_standing (h : (s.tier t).state ∈ [.releasing, .ready, .settling]) : s.queueCheck t = none := by
  cases hst : (s.tier t).state <;> simp [hst] at h <;> simp [State.queueCheck, hst]

/-- MOVE on a tier that does not move and whose column has a code (R34). -/
theorem serveMove_refused {a : MoveArgs} {c : Code} (ha : moveLegal a = true) (hn : s.Names b t)
    (hm : s.motionCheck t = none) (hst : (s.tier t).state ≠ .moving) (hq : s.queueCheck t = some c) :
    s.serveMove b a = s.refuse c := by
  rw [State.serveMove, if_pos ha, withInstalled_of_names hn, hm]
  dsimp only
  split
  case h_1 hmove _ => exact absurd hmove hst
  case h_2 => rw [hq]

/-- ROUTE on a tier whose column has a code (R34). -/
theorem serveRoute_refused {start run : Byte} {auto maint : Bool} {c : Code} (hn : s.Names b t)
    (hm : s.motionCheck t = none) (hq : s.queueCheck t = some c) : s.serveRoute b start run auto maint = s.refuse c := by
  rw [State.serveRoute, withInstalled_of_names hn, hm, hq]

/-- BRAKE-TEST on a tier that is neither SECURED nor tested (R34). -/
theorem serveTest_of_idle (hn : s.Names b t) (hf : s.fsu.failsafe = none)
    (h : (s.tier t).state ∈ [.unsynced, .releasing, .ready, .moving, .paused, .settling, .securing, .faulted]) :
    s.serveTest b = s.refuse .state := by
  rw [State.serveTest, withInstalled_of_names hn, hf]
  cases hst : (s.tier t).state <;> simp [hst] at h <;> rfl

/-- BRAKE-TEST on a tier that is tested (R34). -/
theorem serveTest_testing (hn : s.Names b t) (hf : s.fsu.failsafe = none) (h : (s.tier t).state = .testing) :
    s.serveTest b = s.refuse .busy := by
  rw [State.serveTest, withInstalled_of_names hn, hf, h]
  rfl

/-- CLEAR-FAULTS on a tier that is not FAULTED (R34). -/
theorem serveClear_of_not_faulted (hn : s.Names b t) (h : (s.tier t).state ≠ .faulted) : s.serveClear b = s.accept := by
  rw [State.serveClear, withInstalled_of_names hn, if_neg h]

/-- A byte that names a tier is not the one that means all of them. -/
theorem ne_all_of_names (hn : s.Names b t) : b ≠ 0xFF := by
  rintro rfl
  have hnone : tierOf 0xFF = none := by decide
  exact absurd hn.1 (by rw [hnone]; exact Option.some_ne_none t |>.symm)

/-- The command CLEAR-FAULTS of a byte that names a tier is that tier's request. -/
theorem exec_clearFaults (tag : Byte) (hn : s.Names b t) :
    exec (.clearFaults tag b) s = s.during fun x => x.request tag (.clearFaults b) := by
  show s.during (fun x => x.request tag (if b = 0xFF then .clearFaultsAll else .clearFaults b)) = _
  rw [if_neg (ne_all_of_names hn)]

end Columns

/-- Settles O16: each cell of the table by the lemma of its column. -/
theorem legalityTable : Obligations.LegalityTable := by
  unfold Obligations.LegalityTable
  intro tag b t s h hn hf hl
  have hm : s.motionCheck t = none := motionCheck_of_clear hf hl
  refine ⟨fun hst => ?secure, fun hw hst => ?halt, fun hw hst he => ?haltStanding, fun hst => ⟨?pause, ?resume⟩,
    fun hst => ?pausePaused, fun hst => ?resumeMoving, fun hst => ⟨?pauseTesting, ?resumeTesting⟩,
    fun a ha hst => ?move, fun a ha hst => ?moveTesting, fun start run auto maint hst => ?route,
    fun start run auto maint hst => ?routeTesting, fun hst => ?brakeTest, fun hst => ?brakeTestTesting, fun hst => ?clear⟩
  case secure =>
    have hserve : s.serveSecure b = s.accept := (withInstalled_of_names hn _).trans (by rw [secure_of_idle hst])
    exact request_same h hserve (by decide)
  case halt =>
    have hserve : s.serveHalt b = s.accept := (withInstalled_of_names hn _).trans (by rw [halt_of_idle hw hst])
    exact request_same h hserve (by decide)
  case haltStanding =>
    have hserve : s.serveHalt b = s.accept := (withInstalled_of_names hn _).trans (by
      rw [halt_standing hst, haltWalk_of_inactive hw, removeEntryOf_of_none he])
    exact request_same h hserve (by decide)
  case pause => exact request_same h (servePause_of_idle hn hst) (by decide)
  case resume => exact request_same h (serveResume_of_idle hn hm hst) (by decide)
  case pausePaused =>
    have hserve : s.servePause b = s.accept := (withInstalled_of_names hn _).trans (by rw [hst])
    exact request_same h hserve (by decide)
  case resumeMoving => exact request_same h (serveResume_moving hn hm hst) (by decide)
  case pauseTesting =>
    have hserve : s.servePause b = s.refuse .busy := (withInstalled_of_names hn _).trans (by rw [hst])
    exact request_same h hserve (by decide)
  case resumeTesting => exact request_same h (serveResume_testing hn hm hst) (by decide)
  case move =>
    have hnot : (s.tier t).state ≠ .moving := by rintro hx; simp [hx] at hst
    have hq : s.queueCheck t = some .state :=
      queueCheck_of_refused (.inl ⟨by simp only [List.mem_cons] at hst ⊢; tauto, rfl⟩)
    exact request_same h (serveMove_refused ha hn hm hnot hq) (by decide)
  case moveTesting =>
    exact request_same h (serveMove_refused ha hn hm (by simp [hst]) (queueCheck_of_refused (.inr ⟨hst, rfl⟩))) (by decide)
  case route => exact request_same h (serveRoute_refused hn hm (queueCheck_of_refused (.inl ⟨hst, rfl⟩))) (by decide)
  case routeTesting =>
    exact request_same h (serveRoute_refused hn hm (queueCheck_of_refused (.inr ⟨hst, rfl⟩))) (by decide)
  case brakeTest => exact request_same h (serveTest_of_idle hn hf hst) (by decide)
  case brakeTestTesting => exact request_same h (serveTest_testing hn hf hst) (by decide)
  case clear => rw [exec_clearFaults tag hn]; exact request_same h (serveClear_of_not_faulted hn hst) (by decide)

end Sys2Proof.Machine
end

section
/-! PROOFS. What a request makes of the arbiter's queue and of the tiers of a hall, one after another: the removal of an entry
(R98), and one operation applied to each tier in turn (R38, R40). -/

namespace Sys2Proof.Machine

/-! ### Changes gathered -/

section Gathered

variable {s : State} {t : Tier}

/-- Room for many reports is room for fewer (R182). -/
theorem room_mono {m n : Nat} (h : s.Room n) (hmn : m ≤ n) : s.Room m :=
  Nat.le_trans (Nat.add_le_add_left hmn _) h

@[simp] theorem modTier_prof (s : State) (t u : Tier) (f : TierRec → TierRec) : (s.modTier t f).prof u = s.prof u := rfl

/-- Changes of two tiers' records do not meet. -/
theorem modTier_comm {u : Tier} (h : t ≠ u) (f g : TierRec → TierRec) :
    (s.modTier t f).modTier u g = (s.modTier u g).modTier t f := by
  have hval : t.val ≠ u.val := fun e => h (Fin.ext e)
  simp only [State.modTier, vector_get_set_ne _ h.symm, vector_get_set_ne _ h, Vector.set_comm _ _ hval]

/-- The state with `n` scan triggers more (R101). -/
def State.triggers (s : State) (n : Nat) : State := { s with aa := { s.aa with scansDue := s.aa.scansDue + n } }

@[simp] theorem triggers_zero (s : State) : s.triggers 0 = s := rfl

@[simp] theorem told_triggers (s : State) (rs : List Report) (n : Nat) : (s.told rs).triggers n = (s.triggers n).told rs := rfl

theorem modTier_triggers (s : State) (t : Tier) (f : TierRec → TierRec) (n : Nat) :
    (s.modTier t f).triggers n = (s.triggers n).modTier t f := rfl

/-- The record that a tier on the walk of a HALT keeps: an active walk will end (R136). -/
theorem haltWalk_eq :
    s.haltWalk t = s.modTier t fun r => { r with walk := { r.walk with ending := r.walk.ending || r.walk.active } } := by
  unfold State.haltWalk State.modWalk
  split
  case isTrue h => exact modTier_congr (by simp [h])
  case isFalse h =>
    have hkept : ((s.tier t).walk.ending || (s.tier t).walk.active) = (s.tier t).walk.ending := by simp [h]
    exact (modTier_self (by simp only [hkept])).symm

end Gathered

/-! ### Entries of LINK origin (R98) -/

section Entries

variable {s : State} {t : Tier} {e : Entry}

/-- The arbiter's queue without an entry, which is a scan trigger (R98). -/
def State.unqueue (s : State) (e : Entry) : State :=
  { s with aa := { s.aa with queue := s.aa.queue.erase e, scansDue := s.aa.scansDue + 1 } }

@[simp] theorem told_unqueue (s : State) (rs : List Report) (e : Entry) :
    (s.told rs).unqueue e = (s.unqueue e).told rs := rfl

/-- The removal of an entry of origin LINK: the queue without it, its report, a scan trigger (R98). -/
theorem removeEntry_link (hr : s.Room 1) (he : e.origin = .link) (c : Code) :
    s.removeEntry e c = (s.unqueue e).told [.requestDropped e.tier e.members e.kind .link c] := by
  have hreport := report_eq_told (s := { s with aa := { s.aa with queue := s.aa.queue.erase e } })
    (r := .requestDropped e.tier e.members e.kind .link c) hr
  simp only [State.removeEntry, State.dropEntry, he, hreport, told_trigger]
  rfl

/-- The removal of the entry that names a tier, of origin LINK (R35, R98). -/
theorem removeEntryOf_link (hr : s.Room 1) (hent : s.entryOf t = some e) (he : e.origin = .link) (c : Code) :
    s.removeEntryOf t c = (s.unqueue e).told [.requestDropped e.tier e.members e.kind .link c] := by
  rw [State.removeEntryOf, hent]
  exact removeEntry_link hr he c

end Entries

/-! ### One operation applied to each tier in turn (R38, R40, R171) -/

section EachGang

variable {f : State → Tier → State} {ts : List Tier} {s : State}

/-- Tiers that move with no other are taken one by one: `g` says what stands after each beginning of the list. -/
theorem eachGang_of_prefixes (g : List Tier → State) (hs : g [] = s) (hnd : ts.Nodup)
    (hstep : ∀ pre u post, ts = pre ++ u :: post → (g pre).gangOf u = [u] ∧ f (g pre) u = g (pre ++ [u])) :
    State.eachGang f ts s = g ts := by
  have hfold : ∀ post pre, ts = pre ++ post →
      (post.foldl (fun (acc : State × List Tier) t =>
        if acc.2.contains t then acc else (f acc.1 t, acc.2 ++ acc.1.gangOf t)) (g pre, pre)).1 = g ts := by
    intro post
    induction post with
    | nil => intro pre hts; simp [hts]
    | cons u post ih =>
      intro pre hts
      obtain ⟨halone, hnext⟩ := hstep pre u post hts
      have hnew : u ∉ pre := by
        rw [hts, List.nodup_append] at hnd
        exact fun hmem => hnd.2.2 u hmem u List.mem_cons_self rfl
      simp only [List.foldl_cons, List.contains_eq_mem, hnew, decide_false, Bool.false_eq_true, if_false, halone, hnext]
      simpa only [List.contains_eq_mem] using ih (pre ++ [u]) (by simp [hts])
  rw [← hs]
  exact hfold ts [] rfl

/-- An operation that acts on one tier of a list alone, and leaves every other of them as it is, is taken once. -/
theorem eachGang_of_one {t : Tier} (hnd : ts.Nodup) (ht : t ∈ ts) (halone : s.gangOf t = [t])
    (hbefore : ∀ u ∈ ts, u ≠ t → s.gangOf u = [u] ∧ f s u = s)
    (hafter : ∀ u ∈ ts, u ≠ t → (f s t).gangOf u = [u] ∧ f (f s t) u = f s t) :
    State.eachGang f ts s = f s t := by
  have hall := eachGang_of_prefixes (f := f) (s := s) (fun pre => if t ∈ pre then f s t else s) (by simp) hnd
    (fun pre u post hts => by
      have hu : u ∈ ts := by simp [hts]
      by_cases hut : u = t
      · subst hut
        have hnew : u ∉ pre := by
          rw [hts, List.nodup_append] at hnd
          exact fun hmem => hnd.2.2 u hmem u List.mem_cons_self rfl
        simp [hnew, halone]
      · by_cases hpre : t ∈ pre
        · simpa [hpre] using hafter u hu hut
        · simpa [hpre, Ne.symm hut] using hbefore u hu hut)
  simpa [ht] using hall

/-- An operation that leaves each tier of a list as it is does nothing. -/
theorem eachGang_of_none (hnd : ts.Nodup) (h : ∀ u ∈ ts, s.gangOf u = [u] ∧ f s u = s) : State.eachGang f ts s = s :=
  eachGang_of_prefixes (fun _ => s) rfl hnd fun pre u post hts => h u (by simp [hts])

end EachGang

section Hall

variable {s : State}

theorem allTiers_nodup : allTiers.Nodup := by decide

theorem mem_allTiers (t : Tier) : t ∈ allTiers := by fin_cases t <;> decide

/-- The installed tiers are those of the installed-tier set. -/
theorem mem_installedTiers {t : Tier} : t ∈ s.installedTiers ↔ s.installed t = true := by
  simp [State.installedTiers, mem_allTiers]

theorem installedTiers_nodup (s : State) : s.installedTiers.Nodup := allTiers_nodup.filter _

theorem installedTiers_length (s : State) : s.installedTiers.length ≤ 12 := List.length_filter_le _ _

/-- The state in which each tier of a list has its record from `F`. -/
def State.withRecords (s : State) (ts : List Tier) (F : Tier → TierRec) : State :=
  { s with tiers := Vector.ofFn fun u => if u ∈ ts then F u else s.tier u }

theorem withRecords_tier (s : State) (ts : List Tier) (F : Tier → TierRec) (u : Tier) :
    (s.withRecords ts F).tier u = if u ∈ ts then F u else s.tier u := by
  simp [State.withRecords, State.tier, Vector.get_eq_getElem]

@[simp] theorem withRecords_nil (s : State) (F : Tier → TierRec) : s.withRecords [] F = s := by
  have htiers : (Vector.ofFn fun u => s.tier u) = s.tiers := by
    ext i hi
    simp [State.tier, Vector.get_eq_getElem]
  simp [State.withRecords, htiers]

/-- A further tier's record changed to the one it has from `F`. -/
theorem withRecords_modTier {ts : List Tier} {F : Tier → TierRec} {u : Tier} {f : TierRec → TierRec} (hu : u ∉ ts)
    (hf : f (s.tier u) = F u) : (s.withRecords ts F).modTier u f = s.withRecords (ts ++ [u]) F := by
  have hset : f ((s.withRecords ts F).tier u) = F u := by rw [withRecords_tier, if_neg hu, hf]
  have htiers : (s.withRecords ts F).tiers.set u (f ((s.withRecords ts F).tier u)) =
      (s.withRecords (ts ++ [u]) F).tiers := by
    rw [hset]
    ext i hi
    by_cases h : u.val = i
    · subst h; simp [State.withRecords]
    · have hne : (⟨i, hi⟩ : Tier) ≠ u := fun e => h (congrArg Fin.val e).symm
      simp [State.withRecords, Vector.getElem_set_ne, h, hne]
  exact congrArg (fun v => { s.withRecords ts F with tiers := v }) htiers

end Hall

/-! ### SECURE and SECURE-ALL (R20, R23, R35, R38) -/

section Secure

variable {s : State} {t : Tier}

/-- SECURE on a READY or RELEASING tier (R23, R34, R35). -/
theorem secure_released (h : (s.tier t).state = .ready ∨ (s.tier t).state = .releasing) :
    s.secure t = (s.removeEntryOf t .cancelled).enterSecuring t := by
  rcases h with h | h <;> simp [State.secure, h]

/-- The record of a tier that has been sent its brake SET (R23). -/
def TierRec.secured (r : TierRec) (d : ProfileData) : TierRec :=
  { r with state := .securing, brakeTimer := .secureWait d.secureTimeout }

/-- SECURE-ALL on a hall of READY tiers without entries secures each installed tier, in ascending order (R38). -/
theorem secureAll_ready (hr : s.Room 12) (hq : s.aa.queue = [])
    (hst : ∀ t, s.installed t = true → (s.tier t).state = .ready) :
    State.eachGang State.secure s.installedTiers s =
      (s.withRecords s.installedTiers fun t => (s.tier t).secured (s.prof t)).told
        (s.installedTiers.map fun t => .tierState t .securing) := by
  refine eachGang_of_prefixes (fun pre => (s.withRecords pre fun t => (s.tier t).secured (s.prof t)).told
    (pre.map fun t => .tierState t .securing)) (by simp) (installedTiers_nodup s) fun pre u post hts => ?_
  have hnd := installedTiers_nodup s
  have hlen := installedTiers_length s
  rw [hts, List.nodup_append] at hnd
  rw [hts] at hlen
  have hnew : u ∉ pre := fun hmem => hnd.2.2 u hmem u List.mem_cons_self rfl
  have hready : (s.tier u).state = .ready := hst u (mem_installedTiers.mp (by simp [hts]))
  generalize hx : (s.withRecords pre fun t => (s.tier t).secured (s.prof t)).told
    (pre.map fun t => .tierState t .securing) = x
  have hu : x.tier u = s.tier u := by rw [← hx, told_tier, withRecords_tier, if_neg hnew]
  have hqueue : x.entryOf u = none := by
    rw [← hx]
    show s.aa.queue.find? _ = none
    rw [hq]
    rfl
  have hroom : x.Room 1 := by
    have hbefore : s.Room (pre.length + 1) := room_mono hr (by simp at hlen; omega)
    rw [← hx, told_room, List.length_map]
    exact hbefore
  refine ⟨by rw [State.gangOf, hu, hready], ?_⟩
  rw [secure_released (by simp [hu, hready]), removeEntryOf_of_none hqueue, enterSecuring_eq hroom, ← hx, told_modTier,
    withRecords_modTier hnew rfl, told_told, List.map_append]
  rfl

end Secure

/-- Settles O17: SECURE by the state of its tier, and SECURE-ALL as its walk over the installed tiers. -/
theorem secure : Obligations.Secure := by
  unfold Obligations.Secure
  refine ⟨fun tag b t s h hroom hn => ⟨fun he hst => ?standing, fun e he ho hst => ?queued, fun he hst => ?settling⟩,
    fun tag s h hroom hq hst => ?all⟩
  case standing =>
    have hsecure : s.secure t = _ := (secure_released hst).trans (by
      rw [removeEntryOf_of_none he, enterSecuring_eq (room_mono hroom (by decide))])
    exact request_next h ((withInstalled_of_names hn _).trans (congrArg State.accept hsecure)) (by decide) rfl
  case queued =>
    have hsecure : s.secure t = _ := (secure_released hst).trans (by
      rw [removeEntryOf_link (room_mono hroom (by decide)) he ho,
        enterSecuring_eq ((told_room _ _ _).mpr hroom), told_modTier, told_told])
    exact request_next h ((withInstalled_of_names hn _).trans (congrArg State.accept hsecure)) (by decide) rfl
  case settling =>
    have hsecure : s.secure t = (s.setSecurePending t).told [] := by
      simp [State.secure, hst, removeEntryOf_of_none he]
    exact request_next h ((withInstalled_of_names hn _).trans (congrArg State.accept hsecure)) (by decide) rfl
  case all =>
    refine ⟨(s.withRecords s.installedTiers fun t => (s.tier t).secured (s.prof t)).tiers,
      request_next h (congrArg State.accept (secureAll_ready hroom hq hst)) (by decide) rfl, fun t => ?_⟩
    have htier := withRecords_tier s s.installedTiers (fun t => (s.tier t).secured (s.prof t)) t
    simp only [mem_installedTiers] at htier
    exact htier

end Sys2Proof.Machine
end

section
/-! PROOFS. Halting and pausing a tier that runs a move of its own (R28, R29, R85, R86). -/

namespace Sys2Proof.Machine

section OneTier

variable {s : State} {t : Tier} {m : MoveRec}

@[simp] theorem modTiers_singleton (s : State) (t : Tier) (f : TierRec → TierRec) : s.modTiers [t] f = s.modTier t f := rfl

@[simp] theorem modMoves_singleton (s : State) (t : Tier) (f : MoveRec → MoveRec) :
    s.modMoves [t] f = s.modTier t fun r => { r with move := r.move.map f } := rfl

/-- The tiers of a move of one tier. -/
theorem Single_tiers (h : s.Single t m) : m.tiers = [t] := by
  rw [MoveRec.tiers, h.2.1, h.2.2]

/-- A tier that runs a move of its own moves with no other (R40). -/
theorem gangOf_of_single (h : s.Single t m) : s.gangOf t = [t] := by
  rw [State.gangOf, h.1]
  cases (s.tier t).state <;> simp only [Single_tiers h]

/-- The record of a tier whose move is brought to rest by a stop request, with its generators braked (R85, R86). -/
def TierRec.stopping (r : TierRec) (q : StopReq) (m : MoveRec) (p : ProfileData) (auto : Bool) : TierRec :=
  { r with stop := q, move := some { m.braked p with auto := m.auto || auto } }

/-- A stop that leaves the auto-secure flag as it is. -/
theorem stopping_false (r : TierRec) (q : StopReq) (m : MoveRec) (p : ProfileData) :
    r.stopping q m p false = { r with stop := q, move := some (m.braked p) } := by
  simp only [TierRec.stopping, Bool.or_false]
  rfl

/-- A slew axis with a braking distance to go keeps its speed when it is braked (R85). -/
theorem brake_of_brakes {p : ProfileData} (h : m.Brakes p) :
    m.slew.brake p.slewAcc =
      { m.slew with rem := min m.slew.rem (braking p.slewAcc m.slew.speed), latch := true } := by
  obtain ⟨hunfinished, hrem, hbrake⟩ := h
  have hleft : min m.slew.rem (braking p.slewAcc m.slew.speed) ≠ 0 := by omega
  simp [SlewGen.brake, hunfinished, hleft]

/-- A move whose slew axis brakes is not finished. -/
theorem braked_not_finished {p : ProfileData} (h : m.Brakes p) : (m.braked p).finished = false := by
  simp [MoveRec.finished, MoveRec.braked, h.1]

/-- A move that has not finished does not end (R26). -/
theorem finishMove_of_unfinished (h : ∀ x, (s.tier t).move = some x → x.finished = false) : s.finishMove t = s := by
  unfold State.finishMove
  dsimp only
  split
  case h_1 x _ hx => rw [if_neg (by simp [h x hx])]
  case h_2 => rfl

/-- A stop request and the braking of a running move of one tier (R85, R86). -/
theorem setStop_brakeMove (h : s.Single t m) (hb : m.Brakes (s.prof t)) (q : StopReq) :
    ((s.setStop m.tiers q).brakeMove m).finishMove t = s.modTier t fun r => r.stopping q m (s.prof t) false := by
  have hbrake : (s.setStop m.tiers q).brakeMove m = s.modTier t fun r => r.stopping q m (s.prof t) false := by
    rw [State.setStop, State.brakeMove, Single_tiers h, h.2.1, modTiers_singleton, modMoves_singleton, modTier_modTier]
    refine modTier_congr ?_
    show ({ s.tier t with stop := q, move := (s.tier t).move.map fun (r : MoveRec) =>
      { r with slew := r.slew.brake (s.prof t).slewAcc, tilt := r.tilt.brake (s.prof t).tiltAcc } } : TierRec) = _
    simp [h.1, brake_of_brakes hb, TierRec.stopping, MoveRec.braked]
  rw [hbrake, finishMove_of_unfinished]
  intro x hx
  rw [modTier_tier] at hx
  obtain rfl : _ = x := Option.some.inj hx
  exact braked_not_finished hb

/-- A controlled halt of a running move of one tier (R28, R85). -/
theorem controlledHalt_running (h : s.Single t m) (hst : (s.tier t).state = .moving) (hstop : (s.tier t).stop = .none)
    (hb : m.Brakes (s.prof t)) (reason : MoveReason) (auto : Bool) :
    s.controlledHalt t reason auto = s.modTier t fun r => r.stopping (.halt reason) m (s.prof t) auto := by
  cases auto
  case false =>
    simp only [State.controlledHalt, h.1, hst, hstop, Bool.false_eq_true, if_false]
    exact setStop_brakeMove h hb _
  case true =>
    have hauto : s.setAuto m.tiers = s.modTier t fun r => { r with move := some { m with auto := true } } := by
      rw [State.setAuto, Single_tiers h, modMoves_singleton]
      exact modTier_congr (by simp [h.1])
    have hsingle : (s.setAuto m.tiers).Single t { m with auto := true } := by
      rw [hauto]; exact ⟨by simp, h.2⟩
    have hset := setStop_brakeMove hsingle (by rw [hauto]; exact hb) (.halt reason)
    simp only [State.controlledHalt, h.1, hst, hstop, if_true]
    refine hset.trans ?_
    rw [hauto, modTier_modTier]
    exact modTier_congr (by simp [TierRec.stopping, MoveRec.braked])

/-- A controlled halt of a pausing tier makes its pause a halt (R28, R85). -/
theorem controlledHalt_pausing (h : s.Single t m) (hst : (s.tier t).state = .moving) (hstop : (s.tier t).stop = .pause)
    (reason : MoveReason) :
    s.controlledHalt t reason false = s.modTier t fun r => { r with stop := .halt reason } := by
  simp only [State.controlledHalt, h.1, hst, hstop, Bool.false_eq_true, if_false, Single_tiers h]
  rfl

/-- HALT on a running tier brakes its move, and an active walk will end (R28, R34, R85, R136). -/
theorem halt_running (h : s.Single t m) (hst : (s.tier t).state = .moving) (hstop : (s.tier t).stop = .none)
    (hb : m.Brakes (s.prof t)) :
    s.halt t = s.modTier t fun r => { r with
      stop := .halt .halted
      walk := { r.walk with ending := r.walk.ending || r.walk.active }
      move := some (m.braked (s.prof t)) } := by
  have hrec : (s.haltWalk t).tier t =
      { s.tier t with walk := { (s.tier t).walk with ending := (s.tier t).walk.ending || (s.tier t).walk.active } } := by
    rw [haltWalk_eq, modTier_tier]
  have hcontrolled : (s.haltWalk t).controlledHalt t .halted false =
      (s.haltWalk t).modTier t fun r => r.stopping (.halt .halted) m (s.prof t) false := by
    rw [controlledHalt_running (m := m) ⟨by rw [hrec]; exact h.1, h.2⟩ (by rw [hrec]; exact hst)
      (by rw [hrec]; exact hstop) (by rw [haltWalk_eq]; exact hb), haltWalk_eq, modTier_prof]
  have hhalt : s.halt t = (s.haltWalk t).controlledHalt t .halted false := by simp only [State.halt, hrec, hst]
  rw [hhalt, hcontrolled, haltWalk_eq, modTier_modTier]
  simp only [stopping_false]

/-- HALT on a pausing tier without a walk makes its pause a halt (R28, R85). -/
theorem halt_pausing (h : s.Single t m) (hst : (s.tier t).state = .moving) (hstop : (s.tier t).stop = .pause)
    (hw : (s.tier t).walk.active = false) : s.halt t = s.modTier t fun r => { r with stop := .halt .halted } := by
  rw [State.halt, haltWalk_of_inactive hw, hst]
  exact controlledHalt_pausing h hst hstop .halted

/-- HALT on a standing or settling tier removes its entry of origin LINK (R34, R35, R98, R136). -/
theorem halt_queued {e : Entry} (hr : s.Room 1) (hst : (s.tier t).state ∈ [.secured, .releasing, .ready, .settling])
    (he : s.entryOf t = some e) (ho : e.origin = .link) :
    s.halt t = ((s.unqueue e).modTier t fun r =>
      { r with walk := { r.walk with ending := r.walk.ending || r.walk.active } }).told
        [.requestDropped e.tier e.members e.kind .link .cancelled] := by
  rw [halt_standing hst, haltWalk_eq]
  exact removeEntryOf_link (by exact hr) (by exact he) ho _

/-- PAUSE on a running tier without auto-secure brakes its move (R29, R86). -/
theorem pauseMove_running (h : s.Single t m) (hstop : (s.tier t).stop = .none) (hauto : m.auto = false)
    (hb : m.Brakes (s.prof t)) :
    s.pauseMove t m = (s.modTier t fun r => { r with stop := .pause, move := some (m.braked (s.prof t)) }).accept := by
  have hbrake := setStop_brakeMove h hb .pause
  simp only [stopping_false] at hbrake
  simp [State.pauseMove, hauto, hstop, hbrake]

end OneTier

/-- HALT-ALL on a hall of pausing tiers without walks makes each pause a halt (R28, R38). -/
theorem haltAll_pausing {s : State} (hst : ∀ t, s.installed t = true → (s.tier t).state = .moving ∧
      (s.tier t).stop = .pause ∧ (s.tier t).walk.active = false ∧ ∃ m, s.Single t m) :
    State.eachGang State.halt s.installedTiers s =
      s.withRecords s.installedTiers fun t => { s.tier t with stop := .halt .halted } := by
  refine eachGang_of_prefixes (fun pre => s.withRecords pre fun t => { s.tier t with stop := .halt .halted }) (by simp)
    (installedTiers_nodup s) fun pre u post hts => ?_
  have hnd := installedTiers_nodup s
  rw [hts, List.nodup_append] at hnd
  have hnew : u ∉ pre := fun hmem => hnd.2.2 u hmem u List.mem_cons_self rfl
  obtain ⟨hmoving, hpause, hwalk, m, hm⟩ := hst u (mem_installedTiers.mp (by simp [hts]))
  generalize hx : (s.withRecords pre fun t => { s.tier t with stop := .halt .halted }) = x
  have hu : x.tier u = s.tier u := by rw [← hx, withRecords_tier, if_neg hnew]
  rw [← hu] at hmoving hpause hwalk
  have hsingle : x.Single u m := by rw [State.Single, hu]; exact hm
  refine ⟨gangOf_of_single hsingle, ?_⟩
  rw [halt_pausing hsingle hmoving hpause hwalk, ← hx, withRecords_modTier hnew rfl]

/-- Settles O18: HALT and PAUSE brake the move, HALT on a standing tier removes its entry, and HALT-ALL is its walk over the
installed tiers. -/
theorem haltAndPause : Obligations.HaltAndPause := by
  unfold Obligations.HaltAndPause
  refine ⟨fun tag b t m s h hn hm hst hstop hunfinished hrem hbrake => ⟨?halt, fun hauto => ?pause⟩,
    fun tag b t e s h hroom hn hst he ho => ?standing, fun tag s h hst => ?all⟩
  case halt =>
    have hhalt := (halt_running hm hst hstop ⟨hunfinished, hrem, hbrake⟩).trans (told_nil _).symm
    exact request_next h ((withInstalled_of_names hn _).trans (congrArg State.accept hhalt)) (by decide) rfl
  case pause =>
    have hpause : s.servePause b = s.pauseMove t m := (withInstalled_of_names hn _).trans (by rw [hst, hm.1])
    rw [pauseMove_running hm hstop hauto ⟨hunfinished, hrem, hbrake⟩, ← told_nil (State.modTier s t _)] at hpause
    exact request_next h hpause (by decide) rfl
  case standing =>
    have hhalt := halt_queued hroom hst he ho
    exact request_next h ((withInstalled_of_names hn _).trans (congrArg State.accept hhalt)) (by decide) rfl
  case all =>
    refine ⟨(s.withRecords s.installedTiers fun t => { s.tier t with stop := .halt .halted }).tiers,
      request_next h (congrArg State.accept ((haltAll_pausing hst).trans (told_nil _).symm)) (by decide) rfl, fun t => ?_⟩
    have htier := withRecords_tier s s.installedTiers (fun t => { s.tier t with stop := .halt .halted }) t
    simp only [mem_installedTiers] at htier
    exact htier

end Sys2Proof.Machine
end

section
/-! PROOFS. The end of a move of one tier (R26, R27, R29, R55, R56): the settle timer, the placement of its footprint, or the
fault where it cannot be placed, and what fail-safe, show lock and a trip make of it. -/

namespace Sys2Proof.Machine

/-! ### The settle timer (R27) -/

section Settle

variable {s : State} {t : Tier}

/-- A tier that enters READY: its state, its report and a scan trigger (R22, R27, R101). -/
theorem enterReady_eq (hr : s.Room 1) :
    s.enterReady t =
      (s.trigger.modTier t fun r => { r with state := .ready, brakeTimer := .stopped }).told [.tierState t .ready] := by
  rw [State.enterReady, enter_eq hr, told_trigger, modTier_trigger]

/-- The settle timer runs out while secure pending is set (R27). -/
theorem settleExpire_pending (hr : s.Room 1) (hp : (s.tier t).securePending = true) :
    s.settleExpire t = (s.modTier t fun r =>
      { r with state := .securing, brakeTimer := .secureWait (s.prof t).secureTimeout, settleTimer := none,
               securePending := false }).told [.tierState t .securing] := by
  simp only [State.settleExpire, hp, if_true]
  rw [enterSecuring_eq (by exact hr), modTier_modTier]
  rfl

/-- The settle timer runs out while secure pending is not set (R27). -/
theorem settleExpire_ready (hr : s.Room 1) (hp : (s.tier t).securePending = false) :
    s.settleExpire t = (s.trigger.modTier t fun r =>
      { r with state := .ready, brakeTimer := .stopped, settleTimer := none, securePending := false }).told
        [.tierState t .ready] := by
  simp only [State.settleExpire, hp, Bool.false_eq_true, if_false]
  rw [enterReady_eq (by exact hr), ← modTier_trigger, modTier_trigger, modTier_trigger, modTier_modTier]

/-- The record of a tier that settles, its settle timer running or run out at its start (R27). -/
def TierRec.rested (r : TierRec) (d : ProfileData) : TierRec :=
  { r with
    state := restState d r.securePending
    brakeTimer := if restState d r.securePending = .securing then .secureWait d.secureTimeout else .stopped
    settleTimer := if d.settleTime ≠ 0 then some d.settleTime else none
    securePending := decide (d.settleTime ≠ 0) && r.securePending }

/-- A tier that enters SETTLING passes it at once where its settle time is 0 (R27). -/
theorem enterSettling_eq (hr : s.Room 2) :
    s.enterSettling t =
      ((s.triggers (restTriggers (restState (s.prof t) (s.tier t).securePending))).modTier t fun r =>
        r.rested (s.prof t)).told (restReports t (restState (s.prof t) (s.tier t).securePending)) := by
  have hroom (f : TierRec → TierRec) : ((s.modTier t f).told [.tierState t .settling]).Room 1 := (told_room _ _ _).mpr hr
  rw [State.enterSettling, enter_eq (room_mono hr (by decide)), told_modTier, modTier_modTier]
  by_cases h0 : (s.prof t).settleTime = 0
  case neg =>
    have hrest (p : Bool) : restState (s.prof t) p = .settling := by simp [restState, h0]
    rw [if_neg (by exact h0), hrest]
    refine congrArg (fun x => State.told x _) (modTier_congr ?_)
    simp [TierRec.rested, hrest, h0]
  case pos =>
    rw [if_pos (by exact h0)]
    cases hp : (s.tier t).securePending
    case false =>
      have hrest : restState (s.prof t) false = .ready := by simp [restState, h0]
      rw [settleExpire_ready (hroom _) (by simpa using hp), told_trigger, told_modTier, told_told, modTier_trigger,
        modTier_modTier, hrest]
      refine congrArg (fun x => State.told x _) (modTier_congr (s := s.trigger) ?_)
      simp [TierRec.rested, hp, hrest, h0]
    case true =>
      have hrest : restState (s.prof t) true = .securing := by simp [restState, h0]
      rw [settleExpire_pending (hroom _) (by simpa using hp), told_modTier, told_told, modTier_modTier, hrest]
      refine congrArg (fun x => State.told x _) (modTier_congr ?_)
      simp [TierRec.rested, hp, hrest, h0]

end Settle

/-! ### The end of a move (R26, R55, R56) -/

section EndMove

variable {s : State} {t : Tier} {m : MoveRec} {p : Pos}

/-- The state without the grant of a tier, its allocation freed, which is a scan trigger (R100). -/
def State.ungrant (s : State) (t : Tier) : State :=
  { s with aa := { s.aa with grants := s.aa.grants.filter fun g => !g.names t, scansDue := s.aa.scansDue + 1 } }

/-- The removal of a grant that names the tier (R100). -/
theorem freeGrant_of_named (h : s.aa.grants.any (fun g => g.names t) = true) : s.freeGrant t = s.ungrant t := by
  rw [State.freeGrant, if_pos h]
  rfl

/-- A tier whose grant has gone and that no entry names is named by neither. -/
theorem unnamed_ungrant (h : s.entryOf t = none) : (s.ungrant t).Unnamed t := by
  refine ⟨h, ?_⟩
  simp [State.ungrant]

/-- The MOVE-END report of a move of one tier of origin LINK (R32). -/
theorem moveEnd_link (hr : s.Room 1) (ho : m.origin = .link) (hm : m.members = []) (reason : MoveReason) :
    s.moveEnd t m reason = s.told [.moveEnd t none reason (s.cmdPos t)] := by
  simp [State.moveEnd, ho, hm, report_eq_told hr]

/-- A footprint that can be placed at the end of a move, a scan trigger (R54, R55). -/
theorem trimAll_placed (h : s.fm.canPlace t [] (s.standing t) = true) :
    s.trimAll [t] = ((s.modFloor fun f => f.place t (s.standing t)).trigger, []) := by
  simp [State.trimAll, h]

/-- A footprint that cannot be placed at the end of a move: the tier owns nothing any more, a scan trigger (R55, R56). -/
theorem trimAll_blocked (h : s.fm.canPlace t [] (s.standing t) = false) :
    s.trimAll [t] = ((s.modFloor fun f => f.freeAll t).trigger, [t]) := by
  simp [State.trimAll, h]

/-- The record of a tier that settles at the position it stands at when its move goes (R26, R27). -/
theorem rested_eq_settled {r : TierRec} (h : r.cmd = some p) (d : ProfileData) (auto : Bool) :
    TierRec.rested { r with move := none, stop := .none, stoodStill := false, securePending := r.securePending || auto } d =
      r.settled p d auto := by
  rw [TierRec.settled, ← h]
  rfl

/-- A tier whose move has ended on the map settles (R26, R27). -/
theorem leaveMove_settles (hr : s.Room 2) (hc : (s.tier t).cmd = some p) (auto : Bool) :
    s.leaveMove auto .settle [] t =
      ((s.triggers (restTriggers (restState (s.prof t) ((s.tier t).securePending || auto)))).modTier t fun r =>
        r.settled p (s.prof t) auto).told
        (restReports t (restState (s.prof t) ((s.tier t).securePending || auto))) := by
  simp only [State.leaveMove, decide_true, Bool.and_true, List.contains_nil, Bool.false_eq_true, if_false]
  rw [enterSettling_eq (by exact hr), modTier_triggers, modTier_modTier, modTier_tier]
  exact congrArg (fun x => State.told x _) (modTier_congr (s := s.triggers _) (rested_eq_settled (by exact hc) _ _))

/-- A fault takes a tier whose move record has gone to FAULTED (R42). -/
theorem faultReaction_moveless (hr : s.Room 1) (hn : s.Unnamed t) (hmove : (s.tier t).move = none)
    (hst : (s.tier t).state ≠ .testing) :
    s.faultReaction t = (s.modTier t fun r =>
      { r with state := .faulted, brakeTimer := .stopped, securePending := false, settleTimer := none,
               testTimer := none }).told [.tierState t .faulted] := by
  have hstill : s.faultReaction t =
      (s.modTier t fun r => { r with securePending := false, settleTimer := none, testTimer := none }).enter t .faulted := by
    have hnone : (s.tier t).move.map MoveRec.stopGenerators = (s.tier t).move := by simp [hmove]
    have hkept : (s.modTier t fun r => { r with move := r.move.map MoveRec.stopGenerators }) = s :=
      modTier_self (by simp only [hnone])
    simp [State.faultReaction, hmove, hst, hkept, freeGrant_of_unnamed hn, removeEntryOf_of_unnamed hn]
  rw [hstill, enter_eq (by exact hr), modTier_modTier]

/-- A first fault takes a tier whose move record has gone to FAULTED, with its FAULT and TIER-STATE reports (R42, R163). -/
theorem raiseFault_moveless (hr : s.Room 2) (hn : s.Unnamed t) (h0 : (s.tier t).fault.latched = 0)
    (hmove : (s.tier t).move = none) (hst : (s.tier t).state ∉ [.unsynced, .faulted, .testing]) (k : FaultKind) :
    s.raiseFault t k = (s.modTier t fun r => r.faulted k (s.cmdPos t)).told
      [.faultRaised t k (s.tier t).state (s.cmdPos t), .tierState t .faulted] := by
  simp only [List.mem_cons, List.not_mem_nil, or_false, not_or] at hst
  obtain ⟨hsynced, hwell, hidle⟩ := hst
  have hlatch := latch_first (room_mono hr (by decide)) h0 k
  have hreact : (s.latch t k).faultReaction t = _ :=
    faultReaction_moveless (by rw [hlatch, told_room]; exact hr) (by rw [hlatch]; exact hn)
      (by rw [hlatch, told_tier, modTier_tier]; exact hmove) (by rw [hlatch, told_tier, modTier_tier]; exact hidle)
  rw [State.raiseFault, gangOf_of_no_move hmove]
  split
  case h_1 h => exact absurd h hsynced
  case h_2 h => exact absurd h hwell
  case h_3 =>
    rw [List.foldl_cons, List.foldl_nil, List.foldl_cons, List.foldl_nil, hreact, hlatch, told_modTier, told_told,
      modTier_modTier]
    rfl

/-- A tier whose move has ended where its footprint cannot be placed is FAULTED with MAP-CONFLICT (R55, R163). -/
theorem leaveMove_conflicts (hr : s.Room 2) (hn : s.Unnamed t) (h0 : (s.tier t).fault.latched = 0)
    (hc : (s.tier t).cmd = some p) (hst : (s.tier t).state ∉ [.unsynced, .faulted, .testing]) (auto : Bool) :
    s.leaveMove auto .settle [t] t = (s.modTier t fun r => r.conflicted p).told
      [.faultRaised t .mapConflict (s.tier t).state p, .tierState t .faulted] := by
  have hcmd (f : TierRec → TierRec) (hf : (f (s.tier t)).cmd = (s.tier t).cmd) : (s.modTier t f).cmdPos t = p := by
    simp [State.cmdPos, hf, hc]
  simp only [State.leaveMove, decide_true, Bool.and_true, List.contains_cons, BEq.rfl, Bool.true_or, if_true]
  rw [raiseFault_moveless (by exact hr) (by exact hn) (by rw [modTier_tier]; exact h0) (by rw [modTier_tier])
    (by rw [modTier_tier]; exact hst), hcmd _ rfl, modTier_tier, modTier_modTier]
  refine congrArg (fun x => State.told x _) (modTier_congr ?_)
  show _ = TierRec.conflicted _ _
  simp [TierRec.conflicted, TierRec.faulted, hc]

/-- The end of a move of one tier whose footprint can be placed: it is placed, the allocation freed, MOVE-END reported, and
the tier settles (R26, R27, R32, R55). -/
theorem endMove_placed (hr : s.Room 3) (hl : m.leader = t) (hm : m.members = []) (ho : m.origin = .link)
    (hc : (s.tier t).cmd = some p) (hp : s.fm.canPlace t [] (s.standing t) = true)
    (hg : s.aa.grants.any (fun g => g.names t) = true) (reason : MoveReason) :
    s.endMove m reason .settle =
      ((((s.modFloor fun f => f.place t (s.standing t)).trigger.ungrant t).triggers
        (restTriggers (restState (s.prof t) ((s.tier t).securePending || m.auto)))).modTier t fun r =>
          r.settled p (s.prof t) m.auto).told
        (.moveEnd t none reason p :: restReports t (restState (s.prof t) ((s.tier t).securePending || m.auto))) := by
  have htiers : m.tiers = [t] := by rw [MoveRec.tiers, hl, hm]
  have hcmd : s.cmdPos t = p := by simp [State.cmdPos, hc]
  rw [State.endMove, htiers, trimAll_placed hp, hl]
  dsimp only
  rw [freeGrant_of_named (by exact hg), List.foldl_cons, List.foldl_nil, List.foldl_cons, List.foldl_nil,
    moveEnd_link (by exact room_mono hr (by decide)) ho hm, leaveMove_settles ((told_room _ _ _).mpr hr) (by exact hc),
    told_triggers, told_modTier, told_told]
  rw [← hcmd]
  rfl

/-- The end of a move of one tier whose footprint cannot be placed: the tier owns nothing and is FAULTED (R55). -/
theorem endMove_blocked (hr : s.Room 3) (hl : m.leader = t) (hm : m.members = []) (ho : m.origin = .link)
    (hc : (s.tier t).cmd = some p) (hp : s.fm.canPlace t [] (s.standing t) = false)
    (hg : s.aa.grants.any (fun g => g.names t) = true) (h0 : (s.tier t).fault.latched = 0) (hent : s.entryOf t = none)
    (hst : (s.tier t).state ∉ [.unsynced, .faulted, .testing]) (reason : MoveReason) :
    s.endMove m reason .settle =
      (((s.modFloor fun f => f.freeAll t).trigger.ungrant t).modTier t fun r => r.conflicted p).told
        [.moveEnd t none reason p, .faultRaised t .mapConflict (s.tier t).state p, .tierState t .faulted] := by
  have htiers : m.tiers = [t] := by rw [MoveRec.tiers, hl, hm]
  have hcmd : s.cmdPos t = p := by simp [State.cmdPos, hc]
  have hun : ((s.modFloor fun f => f.freeAll t).trigger.ungrant t).Unnamed t := unnamed_ungrant hent
  rw [State.endMove, htiers, trimAll_blocked hp, hl]
  dsimp only
  rw [freeGrant_of_named (by exact hg), List.foldl_cons, List.foldl_nil, List.foldl_cons, List.foldl_nil,
    moveEnd_link (by exact room_mono hr (by decide)) ho hm,
    leaveMove_conflicts ((told_room _ _ _).mpr hr) (by exact hun) (by exact h0) (by exact hc)
      (by exact hst), told_modTier, told_told]
  rw [← hcmd]
  rfl

end EndMove

end Sys2Proof.Machine
end

section
/-! PROOFS. The setpoint interval (R19, R79, R151) and the records of the drive link (R153 to R157): a tier whose generators do
not run, and the interval that ends or pauses a move of one tier (R26, R27, R29, R55). -/

namespace Sys2Proof.Machine

/-! ### Records handed over and sent (R153, R154) -/

section Records

variable {s : State} {t : Tier}

/-- A record at the tail of the transmit list (R153). -/
def State.handed (s : State) (r : SetpointRecord) : State :=
  { s with dlp := { s.dlp with txList := s.dlp.txList ++ [r] } }

/-- A record of a tier that has none in the transmit list joins its tail (R153). -/
theorem handRecord_new {r : SetpointRecord} (h : ∀ x ∈ s.dlp.txList, x.tier ≠ r.tier) : s.handRecord r = s.handed r := by
  have hnone : s.dlp.txList.any (fun x => decide (x.tier = r.tier)) = false := by simpa using h
  simp [State.handRecord, hnone, State.handed]

/-- A record of a tier that has one in the transmit list takes its place (R153). -/
theorem handRecord_again {r : SetpointRecord} (h : ∃ x ∈ s.dlp.txList, x.tier = r.tier) :
    s.handRecord r =
      { s with dlp := { s.dlp with txList := s.dlp.txList.map fun x => if x.tier = r.tier then r else x } } := by
  have hsome : s.dlp.txList.any (fun x => decide (x.tier = r.tier)) = true := by simpa using h
  simp [State.handRecord, hsome]

/-- A setpoint record names its tier (R152). -/
theorem setpointRecord_tier : (s.setpointRecord t).tier = t := by
  cases hst : (s.tier t).state <;> simp [State.setpointRecord, hst, State.recordOf]

/-- A tier that does not move, or is under a quick stop, has no generators running (R79, R88). -/
theorem runningMove_of_quiet (h : (s.tier t).state = .moving → (s.tier t).stop = .quick) : s.runningMove t = none := by
  unfold State.runningMove
  split
  case h_1 hm _ => simp [h hm]
  case h_2 => rfl

/-- The interval of a tier whose generators do not run hands over the record of its state (R19, R151). -/
theorem interval_quiet (h : (s.tier t).state = .moving → (s.tier t).stop = .quick) :
    s.interval t = s.handRecord (s.setpointRecord t) := by
  simp [State.interval, runningMove_of_quiet h]

/-- The bytes of a feedback record reach the framer as its fields: discarded where its tier is not installed, else tested
against the tier's link record (R153). -/
theorem driveBytes_feedback {f : Feedback} (hframer : s.dlp.framer = .hunting) (htilt : f.tilt < 32768)
    (hslip : f.slip < 65536) : s.driveBytes f.bytes = if s.installed f.tier then s.testFeedback f else s := by
  have hstart : s.driveByte 0x5B = s.setDriveFramer (.record []) := by simp [State.driveByte, hframer]
  calc s.driveBytes f.bytes
      = (s.setDriveFramer (.record [])).driveBytes f.afterStart := by rw [← hstart]; rfl
    _ = (s.setDriveFramer .hunting).completeRecord f.afterStart :=
        driveBytes_record _ [] _ rfl (List.ne_nil_of_length_pos (by simp [f.afterStart_length]))
          (by simp [f.afterStart_length])
    _ = s.completeRecord f.afterStart := by rw [setDriveFramer_self hframer]
    _ = if s.installed f.tier then s.testFeedback f else s := by
      simp [State.completeRecord, feedbackOf_afterStart htilt hslip]

/-- A feedback that does not answer the latest record sent, or answers it again, is stale (R155). -/
theorem testFeedback_stale {f : Feedback}
    (h : (s.link f.tier).latestSent ≠ some f.parity ∨ (s.link f.tier).answered = true) :
    s.testFeedback f = s.modLink f.tier fun l => { l with stale := min 65535 (l.stale + 1) } := by
  have hstale : (s.link f.tier).accepts f = false := by
    rcases h with h | h <;> simp [LinkRec.accepts, h]
  simp only [State.testFeedback, hstale, Bool.false_eq_true, if_false]
  rfl

end Records

/-- Settles O41: the record of the tier's state handed over, the record at the head of the list sent, and the feedback that
is discarded or stale. -/
theorem intervalStanding : Obligations.IntervalStanding := by
  unfold Obligations.IntervalStanding
  refine ⟨fun t s r hrun hrec hquiet => ?interval, fun r rest s hrun htx => ?sent,
    fun f s hrun hframer htilt hslip => ⟨fun hi => ?absent, fun hi hstale => ?stale⟩⟩
  case interval =>
    have hr : r = s.setpointRecord t := by
      rw [hrec, State.setpointRecord]
      cases hst : (s.tier t).state <;> simp [State.recordOf]
      exact hquiet hst
    have htier : r.tier = t := hr ▸ setpointRecord_tier
    have hinterval : s.interval t = s.handRecord r := hr ▸ interval_quiet hquiet
    refine ⟨fun hi => ?_, fun hi hnew => ?_, fun hi hold => ?_⟩
    · exact (during_next hrun _).trans (by rw [if_neg (by simp [hi])]; rfl)
    · exact (during_next hrun _).trans (by
        rw [if_pos hi, hinterval, handRecord_new (by simpa only [htier] using hnew)]; rfl)
    · exact (during_next hrun _).trans (by
        rw [if_pos hi, hinterval, handRecord_again (by simpa only [htier] using hold), htier]; rfl)
  case sent => exact (during_next hrun _).trans (by simp only [State.recordSent, htx]; rfl)
  case absent =>
    have hdrive : exec (.feedbackRecord f.bytes) s = _ := duringDrive_during (by rw [hrun]; decide) _
    rw [hdrive, during_next hrun, driveBytes_feedback hframer htilt hslip, if_neg (by simp [hi])]
    rfl
  case stale =>
    have hdrive : exec (.feedbackRecord f.bytes) s = _ := duringDrive_during (by rw [hrun]; decide) _
    rw [hdrive, during_next hrun, driveBytes_feedback hframer htilt hslip, if_pos hi, testFeedback_stale hstale]
    rfl

/-! ### The interval of a running move of one tier (R79, R83) -/

section Running

variable {s : State} {t : Tier} {m : MoveRec}

/-- The generators of a moving tier of its own run unless it is under a quick stop (R79). -/
theorem runningMove_of_single (h : s.Single t m) (hst : (s.tier t).state = .moving) (hstop : (s.tier t).stop ≠ .quick) :
    s.runningMove t = some m := by
  simp [State.runningMove, hst, h.1, hstop, h.2.1]

/-- The cap of a move's slew axis at this interval (R80, R91). -/
def State.capNow (s : State) (m : MoveRec) : Nat := s.slewCap m (s.creepNow m)

/-- A move record after the step of this interval, with the profile of its tier (R79, R83). -/
def State.stepped (s : State) (m : MoveRec) (d : ProfileData) : MoveRec :=
  { m with
    slew := SlewGen.step { m.slew with creep := s.creepNow m } d.slewAcc (s.capNow m)
    tilt := m.tilt.step d.tiltAcc d.tiltSpeed }

/-- A commanded position after the step of this interval (R83). -/
def State.steppedPos (s : State) (m : MoveRec) (d : ProfileData) (p : Pos) : Pos :=
  ⟨advance m.dir p.slew (m.slew.stepLength d.slewAcc (s.capNow m)),
    tiltAdvance m.tilt.dir p.tilt (m.tilt.stepLength d.tiltAcc d.tiltSpeed)⟩

/-- The step of the generators of a tier of its own (R79, R83). -/
theorem stepMove_single {p : Pos} (h : s.Single t m) (hc : (s.tier t).cmd = some p) :
    s.stepMove m = s.modTier t fun r =>
      { r with cmd := some (s.steppedPos m (s.prof t) p), move := some (s.stepped m (s.prof t)) } := by
  have hmove := h.1
  simp only [State.stepMove, Single_tiers h, h.2.1, modMoves_singleton, modTiers_singleton, modTier_modTier]
  exact modTier_congr (by simp only [hmove, hc, Option.map_some]; rfl)

end Running

section Finish

variable {s : State} {t : Tier} {m : MoveRec}

/-- A finished move ends with the reason its stop request gives (R26). -/
theorem finishMove_ends {e : MoveReason} (hst : (s.tier t).state = .moving) (hmove : (s.tier t).move = some m)
    (hfin : m.finished = true) (hstop : (s.tier t).stop = .none ∧ e = .atTarget ∨ (s.tier t).stop = .halt e ∨
      (s.tier t).stop = .pause ∧ s.atTargets t m = true ∧ e = .atTarget) :
    s.finishMove t = s.endMove m e .settle := by
  rcases hstop with ⟨hstop, rfl⟩ | hstop | ⟨hstop, hat, rfl⟩
  · simp [State.finishMove, hst, hmove, hfin, hstop]
  · simp [State.finishMove, hst, hmove, hfin, hstop]
  · simp [State.finishMove, hst, hmove, hfin, hstop, hat]

/-- A finished move of one tier that pauses short of its targets leaves it PAUSED (R26, R29). -/
theorem finishMove_pauses (hst : (s.tier t).state = .moving) (h : s.Single t m)
    (hfin : m.finished = true) (hstop : (s.tier t).stop = .pause) (hat : s.atTargets t m = false) :
    s.finishMove t = s.enter t .paused := by
  simp [State.finishMove, hst, h.1, hfin, hstop, hat, Single_tiers h]

/-- A tier of its own stands at its targets where its commanded position is theirs (R26). -/
theorem atTargets_single {p : Pos} (hl : m.leader = t) (hc : (s.tier t).cmd = some p) :
    s.atTargets t m = decide (p = ⟨m.targetSlew, m.targetTilt⟩) := by
  cases p
  simp [State.atTargets, hl, State.cmdPos, hc]

end Finish

section Interval

variable {s : State} {t : Tier} {m : MoveRec} {p : Pos}

/-- The state of a running tier of its own after the step of an interval, with the record of its new positions handed over
(R79, R83, R151). -/
def State.advanced (s : State) (t : Tier) (m : MoveRec) (p : Pos) : State :=
  (s.handed ⟨t, (s.steppedPos m (s.prof t) p).slew, (s.steppedPos m (s.prof t) p).tilt, true, .normal, 0⟩).modTier t fun r =>
    { r with cmd := some (s.steppedPos m (s.prof t) p), move := some (s.stepped m (s.prof t)) }

theorem advanced_tier : (s.advanced t m p).tier t =
    { s.tier t with cmd := some (s.steppedPos m (s.prof t) p), move := some (s.stepped m (s.prof t)) } := modTier_tier _ _ _

/-- The standing footprint of a tier after the step of an interval (R8, R83). -/
theorem advanced_standing : (s.advanced t m p).standing t =
    footprint (s.prof t) (s.steppedPos m (s.prof t) p).slew (tiltBand (s.steppedPos m (s.prof t) p).tilt) := by
  have hcmd : (s.advanced t m p).cmdPos t = s.steppedPos m (s.prof t) p := by rw [State.cmdPos, advanced_tier]; rfl
  rw [State.standing, hcmd]
  rfl

/-- The interval of a running tier of its own steps its generators and hands over the record of its new positions, before the
move ends (R79, R151). -/
theorem interval_running (h : s.Single t m) (hst : (s.tier t).state = .moving) (hstop : (s.tier t).stop ≠ .quick)
    (hc : (s.tier t).cmd = some p) (hnew : ∀ x ∈ s.dlp.txList, x.tier ≠ t) :
    s.interval t = (s.advanced t m p).finishMove t := by
  have hrec : (s.stepMove m).setpointRecord t =
      ⟨t, (s.steppedPos m (s.prof t) p).slew, (s.steppedPos m (s.prof t) p).tilt, true, .normal, 0⟩ := by
    simp [stepMove_single h hc, State.setpointRecord, hst, hstop, State.recordOf, State.cmdPos]
  simp only [State.interval, runningMove_of_single h hst hstop]
  rw [hrec, handRecord_new (by rw [stepMove_single h hc]; exact hnew), stepMove_single h hc]
  rfl

/-- What the end of its move makes of a tier that has been stepped is what it makes of the tier before the step (R26). -/
theorem modTier_steps_under (x : State) (F G : TierRec → TierRec) (g : Floor → Floor) (n : Nat) :
    ((((x.modTier t F).modFloor g).trigger.ungrant t).triggers n).modTier t G =
      (((x.modFloor g).trigger.ungrant t).triggers n).modTier t fun r => G (F r) :=
  modTier_modTier (((x.modFloor g).trigger.ungrant t).triggers n) t F G

end Interval

/-- Settles O43: the interval steps the generators and hands the record over, and the finished move ends on the map or off it,
or pauses. -/
theorem moveEnds : Obligations.MoveEnds := by
  unfold Obligations.MoveEnds
  rintro t m p p' c a w slew tilt s x hrun hroom hi hm ho hst hc hg hnew rfl rfl rfl rfl hslew htilt rfl rfl rfl
  have htier := advanced_tier (s := s) (t := t) (m := m) (p := p)
  have hstands := advanced_standing (s := s) (t := t) (m := m) (p := p)
  have hfin : (s.stepped m (s.prof t)).finished = true := by rw [MoveRec.finished]; exact Bool.and_eq_true_iff.mpr ⟨hslew, htilt⟩
  have hmoving : ((s.advanced t m p).tier t).state = .moving := by rw [htier]; exact hst
  have hmove : ((s.advanced t m p).tier t).move = some (s.stepped m (s.prof t)) := by rw [htier]
  have hcmd : ((s.advanced t m p).tier t).cmd = some (s.steppedPos m (s.prof t) p) := by rw [htier]
  have hkept : ((s.advanced t m p).tier t).stop = (s.tier t).stop := by rw [htier]
  have hat : (s.advanced t m p).atTargets t (s.stepped m (s.prof t)) =
      decide (s.steppedPos m (s.prof t) p = ⟨m.targetSlew, m.targetTilt⟩) := atTargets_single (by exact hm.2.1) hcmd
  have hrunning : (s.tier t).stop ≠ .quick →
      (if s.installed t then s.interval t else s) = (s.advanced t m p).finishMove t := fun hstop => by
    rw [if_pos hi, interval_running hm hst hstop hc hnew]
  refine ⟨fun e hstop => ?ends, fun hstop hshort => ?pauses⟩
  case ends =>
    have hquick : (s.tier t).stop ≠ .quick := by
      rcases hstop with ⟨h, -⟩ | h | ⟨h, -⟩ <;> simp [h]
    have hend : (if s.installed t then s.interval t else s) =
        (s.advanced t m p).endMove (s.stepped m (s.prof t)) e .settle := by
      rw [hrunning hquick]
      refine finishMove_ends hmoving hmove hfin ?_
      rw [hkept, hat]
      exact hstop.imp id (Or.imp id fun ⟨h, hp, he⟩ => ⟨h, decide_eq_true hp, he⟩)
    refine ⟨fun hp => ?_, fun hp h0 hent => ?_⟩
    · have hplaced := endMove_placed (by exact hroom) (by exact hm.2.1) (by exact hm.2.2) (by exact ho) hcmd
        (by rw [hstands]; exact hp) (by exact hg) e
      refine during_reported hrun (hend.trans (hplaced.trans ?_))
      rw [hstands, htier, State.advanced, modTier_steps_under]
      rfl
    · have hblocked := endMove_blocked (by exact hroom) (by exact hm.2.1) (by exact hm.2.2) (by exact ho) hcmd
        (by rw [hstands]; exact hp) (by exact hg) (by rw [htier]; exact h0) (by exact hent) (by simp [hmoving]) e
      refine during_reported hrun (hend.trans (hblocked.trans ?_))
      rw [hmoving, ← triggers_zero (State.ungrant _ t), State.advanced, modTier_steps_under]
      rfl
  case pauses =>
    have hpause : (s.advanced t m p).finishMove t = (s.advanced t m p).enter t .paused :=
      finishMove_pauses hmoving ⟨hmove, hm.2⟩ hfin (by rw [hkept]; exact hstop)
        (by rw [hat]; exact decide_eq_false hshort)
    refine during_reported hrun ((hrunning (by simp [hstop])).trans (hpause.trans ?_))
    rw [enter_eq (by exact room_mono hroom (by decide)), State.advanced, modTier_modTier]
    rfl

end Sys2Proof.Machine
end

section
/-! PROOFS. The timers of a tier that run out: brake timers and the feedback timer fault it (R22 to R24, R157, R163), the settle
timer and the test timer let it go on (R27, R147, R149). -/

namespace Sys2Proof.Machine

section Timers

variable {s : State} {t : Tier}

/-- A brake timer that runs out faults a standing tier with BRAKE-STUCK (R22, R23, R24, R163). -/
theorem brakeExpire_standing (hr : s.Room 2) (hn : s.Unnamed t) (h0 : (s.tier t).fault.latched = 0)
    (hmove : (s.tier t).move = none) (hst : (s.tier t).state ∈ [.secured, .releasing, .ready, .settling, .securing]) :
    s.brakeExpire t = (s.modTier t fun r => r.faulted .brakeStuck (s.cmdPos t)).told
      [.faultRaised t .brakeStuck (s.tier t).state (s.cmdPos t), .tierState t .faulted] := by
  have htier : (s.modTier t fun r => { r with brakeTimer := .stopped }).tier t = { s.tier t with brakeTimer := .stopped } :=
    modTier_tier _ _ _
  have hcmd : (s.modTier t fun r => { r with brakeTimer := .stopped }).cmdPos t = s.cmdPos t := by
    rw [State.cmdPos, htier]; rfl
  rw [State.brakeExpire, raiseFault_standing (by exact hr) (by exact hn) (by rw [htier]; exact h0) (by rw [htier]; exact hmove)
    (by rw [htier]; exact hst), hcmd, htier, modTier_modTier]
  rfl

/-- The feedback timer that runs out faults a standing tier with LINK-LOST (R157, R163). -/
theorem feedbackExpire_standing (hr : s.Room 2) (hn : s.Unnamed t) (h0 : (s.tier t).fault.latched = 0)
    (hmove : (s.tier t).move = none) (hst : (s.tier t).state ∈ [.secured, .releasing, .ready, .settling, .securing])
    (ht : (s.link t).timer = true) :
    s.feedbackExpire t = ((s.modTier t fun r => r.faulted .linkLost (s.cmdPos t)).modLink t fun l =>
      { l with timer := false, lost := true }).told
        [.faultRaised t .linkLost (s.tier t).state (s.cmdPos t), .tierState t .faulted] := by
  rw [State.feedbackExpire, if_pos ht,
    raiseFault_standing (by exact hr) (by exact hn) (by exact h0) (by exact hmove) (by exact hst)]
  rfl

/-- A test timer that runs out: the verdict's record, the report, the allocation and the return to SECURED (R147, R149). -/
theorem testExpire_eq {n : Nat} {x : TestRec} (hr : s.Room 2) (ht : (s.tier t).testTimer = some n)
    (hx : (s.tier t).test = some x) (hg : s.aa.grants.any (fun g => g.names t) = true) (hc : s.convActive = false) :
    s.testExpire t = ((s.ungrant t).trigger.modTier t fun r =>
      { r with
        state := .secured
        brakeTimer := .stopped
        testTimer := none
        brakeWeak := weakAfter x.verdict (s.tier t).brakeWeak
        test := some { x with result := some x.verdict } }).told
      [.brakeTest t x.verdict x.lastSlip x.slipLimit (weakAfter x.verdict (s.tier t).brakeWeak),
        .tierState t .secured] := by
  simp only [State.testExpire, ht, hx]
  rw [report_eq_told (by exact room_mono hr (by decide)), freeGrant_of_named (by exact hg)]
  have hsecured (y : State) (rs : List Report) (F : TierRec → TierRec) (hy : y.Room (rs.length + 1))
      (hcy : y.convActive = false) : (((y.modTier t F).told rs).ungrant t).enterSecured t =
        ((y.ungrant t).trigger.modTier t fun r => { F r with state := .secured, brakeTimer := .stopped }).told
          (rs ++ [.tierState t .secured]) := by
    have henter := enterSecured_eq (s := ((y.ungrant t).modTier t F).told rs) (t := t)
      ((told_room _ _ _).mpr hy) hcy
    rw [told_trigger, told_modTier, told_told, modTier_trigger, modTier_modTier] at henter
    exact henter
  exact hsecured s _ _ hr hc

end Timers

/-- Settles O48: each of the three brake timers and the feedback timer, on a standing tier. -/
theorem timersFault : Obligations.TimersFault := by
  unfold Obligations.TimersFault
  intro t n s hrun hroom hn hmove h0 hst
  have hbrake := brakeExpire_standing hroom hn h0 hmove hst
  refine ⟨fun ht => ?release, fun ht => ?secure, fun ht => ?watch, fun ht => ?feedback⟩
  case release =>
    have hexpire : s.releaseWaitExpire t = s.brakeExpire t := by simp only [State.releaseWaitExpire, ht]
    exact during_reported (f := fun x => x.releaseWaitExpire t) hrun (hexpire.trans hbrake)
  case secure =>
    have hexpire : s.secureWaitExpire t = s.brakeExpire t := by simp only [State.secureWaitExpire, ht]
    exact during_reported (f := fun x => x.secureWaitExpire t) hrun (hexpire.trans hbrake)
  case watch =>
    have hexpire : s.watchExpire t = s.brakeExpire t := by simp only [State.watchExpire, ht]
    exact during_reported (f := fun x => x.watchExpire t) hrun (hexpire.trans hbrake)
  case feedback => exact during_reported hrun (feedbackExpire_standing hroom hn h0 hmove hst ht)

/-- Settles O49: the settle timer by secure pending, and the test timer by the verdict of the last slip. -/
theorem settleAndTestEnd : Obligations.SettleAndTestEnd := by
  unfold Obligations.SettleAndTestEnd
  refine ⟨fun t n s hrun hroom ht => ⟨fun hp => ?securing, fun hp => ?ready⟩,
    fun t n x v weak s hrun hroom ht hx hg hc hv => ?test⟩
  case securing =>
    have hexpire : s.settleTimeout t = s.settleExpire t := by rw [State.settleTimeout, if_pos (by simp [ht])]
    exact during_reported hrun (hexpire.trans (settleExpire_pending hroom hp))
  case ready =>
    have hexpire : s.settleTimeout t = s.settleExpire t := by rw [State.settleTimeout, if_pos (by simp [ht])]
    refine during_reported hrun ((hexpire.trans (settleExpire_ready hroom hp)).trans ?_)
    refine congrArg (fun y => State.told y _) (modTier_congr (s := s.trigger) ?_)
    rw [trigger_tier, ← hp]
  case test =>
    have hverdict : v = x.verdict ∧ weak = weakAfter x.verdict (s.tier t).brakeWeak := by
      rw [← Prod.mk.injEq, hv, TestRec.verdict]
      cases x.lastSlip with
      | none => rfl
      | some d => by_cases hd : x.slipLimit < d <;> simp [hd, weakAfter]
    obtain ⟨rfl, rfl⟩ := hverdict
    exact during_reported (f := fun y => y.testExpire t) hrun (testExpire_eq hroom ht hx hg hc)

end Sys2Proof.Machine
end

section
/-! PROOFS. RESUME of a paused tier or gang (R30, R40, R87, R94), the retarget of a moving tier (R37, R51, R89), and the offer of
a GANG-MOVE (R39, R97). -/

namespace Sys2Proof.Machine

/-! ### RESUME (R30, R87) -/

section Resume

variable {s : State} {b : Byte} {t u : Tier} {m x : MoveRec}

/-- RESUME on a paused tier that passes checks 3 and 4 restarts its move (R30, R34). -/
theorem serveResume_paused (hn : s.Names b t) (hm : s.motionCheck t = none) (hst : (s.tier t).state = .paused)
    (hmove : (s.tier t).move = some m) : s.serveResume b = (s.resumeMove m).accept := by
  rw [State.serveResume, withInstalled_of_names hn, hm, hst, hmove]

/-- The record of a tier whose move restarts with slew distance `d` to go (R30, R87). -/
def TierRec.resumed (r : TierRec) (m : MoveRec) (d now : Nat) : TierRec :=
  { r with state := .moving, brakeTimer := .stopped, stop := .none, move := some (m.resume d now) }

/-- The record that RESUME gives a tier from its own record (R87). -/
def TierRec.resume (r : TierRec) (d : Nat) : TierRec :=
  { r with
    state := .moving
    brakeTimer := .stopped
    stop := .none
    move := r.move.map fun x => x.resume d (r.cmd.getD ⟨0, 0⟩).tilt }

theorem resume_eq_resumed (hmove : (s.tier t).move = some m) (d : Nat) :
    (s.tier t).resume d = (s.tier t).resumed m d (s.cmdPos t).tilt := by
  simp only [TierRec.resume, hmove]
  rfl

/-- The restart of a move of one tier (R30, R87). -/
theorem resumeMove_single (hr : s.Room 1) (h : s.Single t m) :
    s.resumeMove m = (s.modTier t fun r =>
      r.resumed m (distance m.dir (s.cmdPos t).slew m.targetSlew) (s.cmdPos t).tilt).told [.tierState t .moving] := by
  simp only [State.resumeMove, Single_tiers h, h.2.1, List.foldl_cons, List.foldl_nil, State.setStop, modTiers_singleton]
  rw [enter_eq hr, told_modTier, modTier_modTier, told_modTier, modTier_modTier]
  exact congrArg (fun x => State.told x _) (modTier_congr (resume_eq_resumed h.1 _))

/-- The restart of a gang of two, the leader first (R40, R87, R94). -/
theorem resumeMove_pair (hr : s.Room 2) (htu : t ≠ u) (hl : m.leader = t) (hm : m.members = [u])
    (ht : (s.tier t).move = some x) {y : MoveRec} (hu : (s.tier u).move = some y) :
    s.resumeMove m = ((s.modTier t fun r =>
      r.resumed x (distance m.dir (s.cmdPos t).slew m.targetSlew) (s.cmdPos t).tilt).modTier u fun r =>
      r.resumed y (distance m.dir (s.cmdPos t).slew m.targetSlew) (s.cmdPos u).tilt).told
        [.tierState t .moving, .tierState u .moving] := by
  have htiers : m.tiers = [t, u] := by rw [MoveRec.tiers, hl, hm]
  have hmerge (F G F' G' : TierRec → TierRec) :
      (((s.modTier t F).modTier u G).modTier t F').modTier u G' =
        (s.modTier t fun r => F' (F r)).modTier u fun r => G' (G r) := by
    rw [modTier_comm htu.symm, modTier_modTier, modTier_modTier]
  have hrest : s.resumeMove m = ((s.modTier t fun r => r.resume (distance m.dir (s.cmdPos t).slew m.targetSlew)).modTier u
      fun r => r.resume (distance m.dir (s.cmdPos t).slew m.targetSlew)).told [.tierState t .moving, .tierState u .moving] := by
    simp only [State.resumeMove, htiers, hl, List.foldl_cons, List.foldl_nil, State.setStop, State.modTiers]
    rw [enter_eq (room_mono hr (by decide)), enter_eq ((told_room _ _ _).mpr hr)]
    simp only [told_modTier, told_told, hmerge]
    rfl
  have hother (F : TierRec → TierRec) : (s.modTier t F).tier u = s.tier u := modTier_tier_ne s htu.symm F
  rw [hrest]
  refine congrArg (fun x => State.told x _) ?_
  have hleader (d : Nat) : (s.modTier t fun r => r.resume d) = s.modTier t fun r => r.resumed x d (s.cmdPos t).tilt :=
    modTier_congr (resume_eq_resumed ht d)
  rw [hleader]
  refine modTier_congr ?_
  rw [hother]
  exact resume_eq_resumed hu _

/-- A gang of two moves together while its move lasts (R40). -/
theorem gangOf_paused (hst : (s.tier t).state = .paused) (hmove : (s.tier t).move = some m) : s.gangOf t = m.tiers := by
  rw [State.gangOf, hst, hmove]

/-- The tilt generator of a tier that stands at its target tilt restarts finished (R87, R94). -/
theorem resume_at_tilt (m : MoveRec) (d : Nat) :
    m.resume d m.targetTilt =
      { m with
        slew := { m.slew with speed := 0, latch := false, rem := d, finished := decide (d = 0) }
        tilt := { m.tilt with speed := 0, latch := false, rem := 0, finished := true } } := by
  simp [MoveRec.resume, SlewGen.resume, TiltGen.resume, tiltGap]

/-- A tilt distance is 0 exactly at the target. -/
theorem tiltGap_eq_zero_iff {a c : Nat} : tiltGap a c = 0 ↔ a = c := by
  unfold tiltGap
  omega

end Resume

/-- Settles O19: RESUME restarts the move of a tier, or of a gang of two named by either of its tiers. -/
theorem resumePaused : Obligations.ResumePaused := by
  unfold Obligations.ResumePaused
  refine ⟨fun tag b t m s h hroom hn hu hm hst => ?alone,
    fun tag b t u v m x d s h hroom hn hv htu hbt hbu hst hsu hmt hmu hl hms hlx hmx hdir htarget htilt htilt' hd => ?gang⟩
  case alone =>
    have hcheck : s.motionCheck t = none := motionCheck_of_clear hu.1 (showBarred_of_unbarred hu (gangOf_of_single hm))
    have hresume := serveResume_paused hn hcheck hst hm.1
    rw [resumeMove_single hroom hm] at hresume
    refine (request_next (r := .resume b) h hresume (by decide) rfl).trans ?_
    simp only [TierRec.resumed, MoveRec.resume, SlewGen.resume, TiltGen.resume, tiltGap_eq_zero_iff]
    rfl
  case gang =>
    obtain ⟨n, hmv, hln, hnm, hdn, htn⟩ : ∃ n, (s.tier v).move = some n ∧ n.leader = t ∧ n.members = [u] ∧ n.dir = m.dir ∧
        n.targetSlew = m.targetSlew := by
      rcases hv with rfl | rfl
      · exact ⟨m, hmt, hl, hms, rfl, rfl⟩
      · exact ⟨x, hmu, hlx, hmx, hdir, htarget⟩
    have hsv : (s.tier v).state = .paused := by rcases hv with rfl | rfl <;> assumption
    have hgang : s.gangOf v = [t, u] := by rw [gangOf_paused hsv hmv, MoveRec.tiers, hln, hnm]
    have hbarred : s.showBarred v = false := showBarred_of_unlocked fun y hy => by
      rw [hgang] at hy
      rcases List.mem_pair.mp hy with rfl | rfl
      · exact hbt.2
      · exact hbu.2
    have hresume := serveResume_paused hn (motionCheck_of_clear hbt.1 hbarred) hsv hmv
    rw [resumeMove_pair hroom htu hln hnm hmt hmu, hdn, htn, ← hd, ← htilt, ← htilt'] at hresume
    refine (request_next (r := .resume b) h hresume (by decide) rfl).trans ?_
    simp only [TierRec.resumed, resume_at_tilt]
    rfl

end Sys2Proof.Machine
end

section
/-! PROOFS. The retarget of a moving tier (R37, R51, R89), and the offer of a GANG-MOVE (R39, R97). -/

namespace Sys2Proof.Machine

/-! ### The distance of a retarget (R37, test 2) -/

section Distance

variable {m : MoveRec} {c x : Slew}

/-- The two ways round the ring between two different positions make one turn (R1). -/
theorem turn_of_toNat_sub_ne_zero (h : (x - c).toNat ≠ 0) : (c - x).toNat = 16777216 - (x - c).toNat := by
  have hx := x.isLt
  have hc := c.isLt
  simp only [BitVec.toNat_sub] at h ⊢
  omega

/-- A target behind the tier has no retarget distance (R37). -/
theorem retargetDistance_behind (h : m.dir = .cw ∧ 8388608 < (x - c).toNat ∨
    m.dir = .ccw ∧ 1 ≤ (x - c).toNat ∧ (x - c).toNat ≤ 8388608) : retargetDistance m c (some x) = none := by
  rcases h with ⟨hdir, hfar⟩ | ⟨hdir, hne, hnear⟩
  · simp only [retargetDistance, hdir]
    exact if_pos hfar
  · simp only [retargetDistance, hdir, if_neg (Nat.one_le_iff_ne_zero.mp hne)]
    exact if_pos hnear

/-- The retarget distance of a target ahead of the tier, and of the kept target (R37). -/
theorem retargetDistance_ahead {a : Option Slew} {r : Nat}
    (h : a = none ∧ x = m.targetSlew ∧ r = m.slew.rem ∨
      a = some x ∧ m.dir = .cw ∧ (x - c).toNat ≤ 8388608 ∧ r = (x - c).toNat ∨
      a = some x ∧ m.dir = .ccw ∧ (c - x).toNat < 8388608 ∧ r = (c - x).toNat) :
    retargetDistance m c a = some r := by
  rcases h with ⟨rfl, -, rfl⟩ | ⟨rfl, hdir, hnear, rfl⟩ | ⟨rfl, hdir, hnear, rfl⟩
  · rfl
  · simp only [retargetDistance, hdir]
    exact if_neg (Nat.not_lt.mpr hnear)
  · by_cases h0 : (x - c).toNat = 0
    · have hsame : (c - x).toNat = 0 := by
        have hx := x.isLt
        have hc := c.isLt
        simp only [BitVec.toNat_sub] at h0 ⊢
        omega
      simp only [retargetDistance, hdir, h0, if_true, hsame]
    · have hturn := turn_of_toNat_sub_ne_zero h0
      have hfar : ¬ (x - c).toNat ≤ 8388608 := by omega
      simp only [retargetDistance, hdir, if_neg h0, hturn]
      exact if_neg hfar

end Distance

/-! ### The tests of a retarget (R37) -/

section Retarget

variable {s : State} {b : Byte} {t : Tier} {m : MoveRec} {a : MoveArgs}

/-- MOVE on a moving tier of its own is its retarget (R34, R37). -/
theorem serveMove_moving (ha : moveLegal a = true) (hn : s.Names b t) (hu : s.Unbarred t) (h : s.Single t m)
    (hst : (s.tier t).state = .moving) : s.serveMove b a = s.retargetMove t m a := by
  rw [State.serveMove, if_pos ha, withInstalled_of_names hn,
    motionCheck_of_clear hu.1 (showBarred_of_unbarred hu (gangOf_of_single h)), hst, h.1]

/-- Test 1: a move that is not a plain running LINK move (R37). -/
theorem retargetMove_state (h : m.auto = true ∨ (s.tier t).stop ≠ .none ∨ m.origin ≠ .link) :
    s.retargetMove t m a = s.refuse .state := by
  rcases h with h | h | h <;> simp [State.retargetMove, h]

/-- A plain running LINK move of one tier (R37, test 1). -/
abbrev State.Plain (s : State) (t : Tier) (m : MoveRec) : Prop :=
  m.auto = false ∧ (s.tier t).stop = .none ∧ m.members = [] ∧ m.origin = .link

/-- Test 2: a target behind the tier (R37). -/
theorem retargetMove_reverse (h : s.Plain t m) (hd : retargetDistance m (s.cmdPos t).slew a.slew = none) :
    s.retargetMove t m a = s.refuse .reverse := by
  obtain ⟨hauto, hstop, hmem, hlink⟩ := h
  simp [State.retargetMove, hauto, hstop, hmem, hlink, hd]

variable {r : Nat} (h : s.Plain t m) (hd : retargetDistance m (s.cmdPos t).slew a.slew = some r)

include h hd

/-- Test 3: another tilt than the move's (R37). -/
theorem retargetMove_range {y : Nat} (hy : a.tilt = some y) (hne : clampTilt (s.prof t) y ≠ m.targetTilt) :
    s.retargetMove t m a = s.refuse .range := by
  obtain ⟨hauto, hstop, hmem, hlink⟩ := h
  simp [State.retargetMove, hauto, hstop, hmem, hlink, hd, hy, hne]

/-- A retarget that passes tests 1 to 3 (R37). -/
theorem retargetMove_passed (htilt : ∀ y, a.tilt = some y → clampTilt (s.prof t) y = m.targetTilt) :
    s.retargetMove t m a =
      if r < braking (s.prof t).slewAcc m.slew.speed then s.refuse .short
      else
        match s.claim t with
        | none => s.refuse .claim
        | some k =>
          if s.retargetPasses t m k (a.slew.getD m.targetSlew) r then
            (s.takeRetarget t m k (a.slew.getD m.targetSlew) r a.auto).accept
          else s.refuse .claim := by
  obtain ⟨hauto, hstop, hmem, hlink⟩ := h
  have hsame : (a.tilt.map fun x => decide (clampTilt (s.prof t) x ≠ m.targetTilt)).getD false = false := by
    cases hy : a.tilt with
    | none => rfl
    | some y => simp [htilt y hy]
  simp only [State.retargetMove, hauto, hstop, hmem, hlink, hd, hsame]
  rfl

end Retarget

/-! ### A retarget on the floor and the zones (R37, test 5; R51) -/

section Floor

variable {s : State} {t : Tier} {m : MoveRec} {k : ClaimRec} {x : Slew} {r f : Nat}

/-- Test 5: the length, the conflicts, the cells beyond the old end, and the zones (R37, R51). -/
theorem retargetPasses_iff (hf : f = (k.offset + m.slew.progress + r) / 65536 + k.lm + k.rm) :
    s.retargetPasses t m k x r = true ↔
      f + 1 - k.release ≤ 256 ∧ s.mapConflict = false ∧
        (∀ g ∈ (stepArc k.dir k.origin (k.finish + 1) (f + 1)).cells, s.fm.at g = .free) ∧
        s.zoneDecision m.cls (stepArc k.dir k.origin k.release (f + 1)) (decide (m.band ≠ 0))
          [footprint (s.prof t) x (tiltBand m.targetTilt)] = .pass := by
  have hend : k.newFinish m.slew.progress r = f := hf.symm
  simp only [State.retargetPasses, State.retargetable, ClaimRec.retargeted, ClaimRec.arc, hend, Bool.and_eq_true, decide_eq_true_eq, Bool.not_eq_true', List.all_eq_true, and_assoc]

/-- A retarget taken: the new end of the claim, a scan trigger where it lies before the old one, and the new target, distance
and latch (R37, R51, R89). -/
theorem takeRetarget_eq (hm : (s.tier t).move = some m) (hauto : m.auto = false)
    (hf : f = (k.offset + m.slew.progress + r) / 65536 + k.lm + k.rm) (auto : Bool) :
    s.takeRetarget t m k x r auto = ({ s with
        fm := s.fm.retarget t k f
        aa := { s.aa with scansDue := s.aa.scansDue + if f < k.finish then 1 else 0 } } : State).modTier t fun q =>
      { q with move := some { m with
        targetSlew := x
        auto := auto
        slew := { m.slew with rem := r, latch := false, finished := m.slew.finished && decide (r = 0) } } } := by
  have hend : k.newFinish m.slew.progress r = f := hf.symm
  simp only [State.takeRetarget, modMoves_singleton, triggerIf_eq, hend, decide_eq_true_eq]
  refine modTier_congr ?_
  show ({ s.tier t with move := (s.tier t).move.map _ } : TierRec) = _
  rw [hm, Option.map_some, hauto, Bool.false_or]
  rfl

end Floor

/-- Settles O21: the tests of a retarget in their order, and the retarget that passes them. -/
theorem retarget : Obligations.Retarget := by
  unfold Obligations.Retarget
  refine ⟨fun tag b t m a s h hn hu hm hst ha => ⟨fun hno => ?state, fun x hauto hstop hlink hx hback => ?reverse⟩, ?_⟩
  case state =>
    exact request_same h ((serveMove_moving ha hn hu hm hst).trans (retargetMove_state hno)) (by decide)
  case reverse =>
    have hd : retargetDistance m (s.cmdPos t).slew a.slew = none := by rw [hx]; exact retargetDistance_behind hback
    exact request_same h ((serveMove_moving ha hn hu hm hst).trans
      (retargetMove_reverse ⟨hauto, hstop, hm.2.2, hlink⟩ hd)) (by decide)
  rintro tag b t m k a x c r f s h hn hu hm hst hstop hauto hlink hk ha rfl hto hf
  have hserve := serveMove_moving ha hn hu hm hst
  have hplain : s.Plain t m := ⟨hauto, hstop, hm.2.2, hlink⟩
  have hd : retargetDistance m (s.cmdPos t).slew a.slew = some r := retargetDistance_ahead hto
  have htarget : a.slew.getD m.targetSlew = x := by
    rcases hto with ⟨ha, rfl, -⟩ | ⟨ha, -⟩ | ⟨ha, -⟩ <;> simp [ha]
  refine ⟨fun y hy hne => ?range, fun htilt => ⟨fun hshort => ?short, fun hlong hno => ?claim,
    fun hlong hlen hconf hfree hzone => ?taken⟩⟩
  case range => exact request_same h (hserve.trans (retargetMove_range hplain hd hy hne)) (by decide)
  all_goals
    have hpassed := hserve.trans (retargetMove_passed hplain hd htilt)
    rw [hk, htarget] at hpassed
  case short =>
    rw [if_pos hshort] at hpassed
    exact request_same h hpassed (by decide)
  case claim =>
    have hfails : ¬ s.retargetPasses t m k x r = true := by
      rw [retargetPasses_iff hf]
      rintro ⟨hlen, hconf, hfree, hzone⟩
      rcases hno with hlong | hyes | ⟨g, hg, hheld⟩ | hbars
      · omega
      · simp [hconf] at hyes
      · exact hheld (hfree g hg)
      · exact hbars hzone
    simp only [if_neg (Nat.not_lt.mpr hlong), if_neg hfails] at hpassed
    exact request_same h hpassed (by decide)
  case taken =>
    simp only [if_neg (Nat.not_lt.mpr hlong), if_pos ((retargetPasses_iff hf).mpr ⟨hlen, hconf, hfree, hzone⟩),
      takeRetarget_eq hm.1 hauto hf] at hpassed
    exact request_next h (hpassed.trans (congrArg State.accept (told_nil _).symm)) (by decide) rfl

/-! ### GANG-MOVE (R39, R97) -/

section GangMove

variable {s : State} {b b0 b1 : Byte} {t u : Tier} {a : MoveArgs} {d : DirArg}

/-- An unbarred READY tier passes the checks on a member of a GANG-MOVE (R33, R34, R39). -/
theorem memberCheck_ready (hn : s.Names b t) (hu : s.Unbarred t) (hst : (s.tier t).state = .ready) :
    s.memberCheck b = .ok t := by
  have hgang : s.gangOf t = [t] := by simp [State.gangOf, hst]
  have hmotion : s.motionCheck t = none := motionCheck_of_clear hu.1 (showBarred_of_unbarred hu hgang)
  have hqueue : s.queueCheck t = none := queueCheck_of_standing (by simp [hst])
  simp [State.memberCheck, hn.1, hn.2, hmotion, hqueue]

/-- Both members of a GANG-MOVE of two pass when each does (R39). -/
theorem membersCheck_pair (h0 : s.memberCheck b0 = .ok t) (h1 : s.memberCheck b1 = .ok u) :
    s.membersCheck [b0, b1] = .ok [t, u] := by
  simp [State.membersCheck, h0, h1]

/-- A GANG-MOVE of two whose members pass goes on to its RANGE cases (R39). -/
theorem serveGangMove_pair {b2 b3 : Byte} (h0 : s.memberCheck b0 = .ok t) (h1 : s.memberCheck b1 = .ok u) :
    s.serveGangMove 2 b0 b1 b2 b3 a = s.gangOffer 2 [t, u] a := by
  have htake : [b0, b1, b2, b3].take (2 : Byte).toNat = [b0, b1] := rfl
  rw [State.serveGangMove, htake, membersCheck_pair h0 h1]
  rfl

variable (ha : moveLegal a = true) (hd : dirOfCode a.dir.toNat = some d) (htilt : a.tilt = none)

include ha hd htilt

/-- A GANG-MOVE that names a tier twice, or tiers that do not stand contiguous (R39). -/
theorem gangOffer_range (h : t = u ∨ s.contiguous (resolveDir d (s.cmdPos t).slew a.slew) t [u] = false) :
    s.gangOffer 2 [t, u] a = s.refuse .range := by
  rcases h with h | h <;> simp [State.gangOffer, moveWay, ha, hd, htilt, h]

/-- A GANG-MOVE of two contiguous tiers that has a way to go is offered (R39). -/
theorem gangOffer_offers (htu : t ≠ u) (hc : s.contiguous (resolveDir d (s.cmdPos t).slew a.slew) t [u] = true)
    (hz : zeroAt a (s.prof t) (s.cmdPos t) = false) :
    s.gangOffer 2 [t, u] a =
      s.offer { moveEntryOf s t a d with kind := .gangMove, members := [u], targetTilt := none } := by
  simp [State.gangOffer, moveWay, ha, hd, htilt, htu, hc, hz, State.moveEntry, moveEntryOf, moveClass]

end GangMove

section Offer

variable {s : State} {e : Entry}

/-- An offer of an entry whose tiers no other names, with room and an arc that fits, becomes an entry (R97). -/
theorem offer_queued (hn : ∀ t ∈ e.tiers, s.entryOf t = none) (hlen : s.aa.queue.length < 8) (hfit : s.entryFits e = true) :
    s.offer e = (s.enqueue e, .queued, []) := by
  have hbusy : s.aa.queue.any (fun q => e.tiers.any q.names) = false := by
    rw [List.any_eq_false]
    intro q hq
    rw [List.any_eq_true]
    rintro ⟨t, ht, hnames⟩
    exact List.find?_eq_none.mp (hn t ht) q hq hnames
  simp [State.offer, State.offerCheck, hbusy, Nat.not_le.mpr hlen, hfit]

end Offer

/-- Settles O22: a GANG-MOVE of two READY tiers refused by its RANGE cases, or queued. -/
theorem gangMoveOffered : Obligations.GangMoveOffered := by
  unfold Obligations.GangMoveOffered
  rintro tag b0 b1 b2 b3 t u a d e s h hn0 hn1 hu0 hu1 hst0 hst1 ha hd htilt hz rfl
  have hserve : s.serveGangMove 2 b0 b1 b2 b3 a = s.gangOffer 2 [t, u] a :=
    serveGangMove_pair (memberCheck_ready hn0 hu0 hst0) (memberCheck_ready hn1 hu1 hst1)
  refine ⟨fun hrange => ?range, fun htu hc he0 he1 hlen hfit => ?queued⟩
  case range => exact request_same h (hserve.trans (gangOffer_range ha hd htilt hrange)) (by decide)
  case queued =>
    have hoffer := offer_queued (s := s)
      (e := { moveEntryOf s t a d with kind := .gangMove, members := [u], targetTilt := none })
      (fun v hv => by rcases List.mem_pair.mp hv with rfl | rfl <;> assumption) hlen hfit
    have hqueued := hserve.trans ((gangOffer_offers ha hd htilt htu hc hz).trans hoffer)
    rw [← told_nil (State.enqueue s _)] at hqueued
    exact request_next h hqueued (by decide) rfl

end Sys2Proof.Machine
end

section
/-! PROOFS. A trip application (R31, R56, R71, R72, R88): what it takes from the list, the tiers it finds, and the quick stop of a
moving or paused tier of its own. -/

namespace Sys2Proof.Machine

/-! ### The list of waiting applications (R72) -/

section Due

variable {i : Input}

/-- A list without an inactive report of the input loses none. -/
theorem dropReports_of_not_mem {l : List TripItem} (h : .inactiveReport i ∉ l) : dropReports i l = (l, 0) := by
  induction l with
  | nil => rfl
  | cons x l ih =>
    have hl := ih fun hmem => h (List.mem_cons_of_mem _ hmem)
    cases x with
    | application j => by_cases hj : j = i <;> simp [dropReports, hj, hl]
    | inactiveReport j =>
      have hj : j ≠ i := by rintro rfl; exact h List.mem_cons_self
      simp [dropReports, hj, hl]

/-- The oldest application of an input leaves the list with the inactive report that waits for it (R72). -/
theorem takeApplication_head {late rest : List TripItem} {cleared : List Report}
    (h : late = [] ∧ cleared = [] ∨ late = [.inactiveReport i] ∧ cleared = [.trip i false []])
    (hrest : .inactiveReport i ∉ rest) :
    ∃ n ≤ 1, takeApplication i (.application i :: late ++ rest) = some (rest, n) ∧
      cleared = List.replicate n (.trip i false []) := by
  have hdrop := dropReports_of_not_mem hrest
  rcases h with ⟨rfl, rfl⟩ | ⟨rfl, rfl⟩
  · exact ⟨0, by decide, by simp [takeApplication, hdrop], rfl⟩
  · exact ⟨1, by decide, by simp [takeApplication, dropReports, hdrop], rfl⟩

end Due

/-- Several reports queued where they all find room (R182). -/
theorem reportAll_eq_told {s : State} {rs : List Report} (h : s.Room rs.length) : s.reportAll rs = s.told rs := by
  induction rs generalizing s with
  | nil => exact (told_nil s).symm
  | cons r rs ih =>
    have hone : s.report r = s.told [r] := report_eq_told (room_mono h (by simp))
    have hrest : (s.told [r]).Room rs.length := by rw [told_room]; exact room_mono h (by simp; omega)
    show (s.report r).reportAll rs = _
    rw [hone, ih hrest, told_told]
    rfl

/-! ### The tiers found (R71) -/

section Found

variable {s : State} {i : Input} {t : Tier}

/-- An application that touches no claim finds no tier (R71). -/
theorem tripFinds_of_none (h : ∀ u, s.installed u = true → (s.tier u).state = .moving ∨ (s.tier u).state = .paused →
    s.claimTripped i u = false) : s.tripFinds i = [] := by
  rw [State.tripFinds, List.filter_eq_nil_iff]
  intro u hu
  rw [mem_installedTiers] at hu
  simpa using h u hu

/-- An application that touches one tier's claim finds that tier (R71). -/
theorem tripFinds_of_one (hi : s.installed t = true) (hst : (s.tier t).state = .moving ∨ (s.tier t).state = .paused)
    (hc : s.claimTripped i t = true)
    (hother : ∀ u, u ≠ t → s.installed u = true → (s.tier u).state = .moving ∨ (s.tier u).state = .paused →
      s.claimTripped i u = false) : s.tripFinds i = [t] := by
  have hsame : ∀ u ∈ allTiers, (s.installed u && (decide ((s.tier u).state = .moving ∨ (s.tier u).state = .paused) &&
      s.claimTripped i u)) = decide (u = t) := by
    intro u _
    by_cases hut : u = t
    · subst hut; simp [hi, hst, hc]
    · simpa [hut] using hother u hut
  have hone : allTiers.filter (fun u => decide (u = t)) = [t] := by fin_cases t <;> decide
  rw [State.tripFinds, State.installedTiers, List.filter_filter, ← hone]
  refine List.filter_congr fun u hu => ?_
  rw [← hsame u hu, Bool.and_comm]

/-- The tiers a trip application stops where it finds none (R71). -/
theorem tripStops_of_none (h : s.tripFinds i = []) : s.tripStops i = [] := by
  simp [State.tripStops, h]

/-- The tiers a trip application stops where it finds one tier of its own that is not stopped already (R71). -/
theorem tripStops_of_one (h : s.tripFinds i = [t]) (hg : s.gangOf t = [t]) (hstop : (s.tier t).stop ≠ .quick) :
    s.tripStops i = [t] := by
  have hone : allTiers.filter (fun u => decide (u = t)) = [t] := by fin_cases t <;> decide
  rw [State.tripStops, h, List.flatMap_singleton, hg, ← hone]
  refine List.filter_congr fun u _ => ?_
  by_cases hut : u = t
  · subst hut; simp [hone, hstop]
  · simp [hone, hut]

/-- A trip application that finds one tier stops it, and reports it (R71). -/
theorem tripStop_of_one (h : s.tripFinds i = [t]) (hg : s.gangOf t = [t]) (hstop : (s.tier t).stop ≠ .quick) :
    s.tripStop i = (s.quickStop t).report (.trip i true [t]) := by
  rw [State.tripStop, tripStops_of_one h hg hstop, h]
  simp [State.eachGang]

end Found

/-! ### The quick stop (R31, R56, R88) -/

section QuickStop

variable {s : State} {t : Tier} {m : MoveRec}

/-- The quick stop of a moving tier of its own: its generators stand, and MOVE-END BARRIER is reported (R31, R88). -/
theorem quickStop_moving (hr : s.Room 1) (h : s.Single t m) (ho : m.origin = .link) (hst : (s.tier t).state = .moving)
    (hstop : (s.tier t).stop ≠ .quick) :
    s.quickStop t = (s.modTier t fun r =>
      { r with stop := .quick, stoodStill := false, move := some m.stopGenerators }).told
        [.moveEnd t none .barrier (s.cmdPos t)] := by
  have hstops : (s.modTiers m.tiers fun r =>
      { r with stop := .quick, stoodStill := false, move := r.move.map MoveRec.stopGenerators }) =
      s.modTier t fun r => { r with stop := .quick, stoodStill := false, move := some m.stopGenerators } := by
    rw [Single_tiers h, modTiers_singleton]
    exact modTier_congr (by rw [h.1]; rfl)
  have hcmd : (s.modTier t fun r =>
      { r with stop := .quick, stoodStill := false, move := some m.stopGenerators }).cmdPos t = s.cmdPos t := by
    rw [State.cmdPos, modTier_tier]
    rfl
  have hquick : s.quickStop t = m.tiers.foldl (fun s u => s.moveEnd u m .barrier) (s.modTiers m.tiers fun r =>
      { r with stop := .quick, stoodStill := false, move := r.move.map MoveRec.stopGenerators }) := by
    simp only [State.quickStop, h.1, hst]
  rw [hquick, hstops, Single_tiers h, List.foldl_cons, List.foldl_nil, moveEnd_link (by exact hr) ho h.2.2, hcmd]

/-- Trimming and the freeing of the allocation leave the tier records (R55, R100). -/
theorem trimAll_freeGrant_tier (s : State) (t u : Tier) : (((s.trimAll [t]).1.freeGrant t).tier u) = s.tier u := by
  unfold State.trimAll State.freeGrant
  dsimp only
  split <;> split <;> rfl

/-- A tier that was not SECURING leaves a trimmed move as it leaves any other (R26, R31). -/
theorem leaveTrimmed_eq_leaveMove (hst : (s.tier t).state ≠ .securing) (auto : Bool) (failed : List Tier) :
    s.leaveTrimmed auto failed t = s.leaveMove auto .settle failed t := by
  simp [State.leaveTrimmed, State.leaveMove, hst]

/-- The trim at the actual position of a tier of its own ends its move there with reason BARRIER (R31, R56). -/
theorem endAtActual_single (hr : s.Room 1) (h : s.Single t m) (ho : m.origin = .link)
    (hst : (s.tier t).state ≠ .securing) :
    s.endAtActual m true = (s.cmdFromActual t).endMove m .barrier .settle := by
  have hroom : (((s.cmdFromActual t).trimAll [t]).1.freeGrant t).Room 1 := by
    unfold State.trimAll State.freeGrant
    dsimp only
    split <;> split <;> exact hr
  have hstate : (((((s.cmdFromActual t).trimAll [t]).1.freeGrant t).moveEnd t m .barrier).tier t).state =
      (s.tier t).state := by
    rw [moveEnd_link hroom ho h.2.2, told_tier, trimAll_freeGrant_tier, State.cmdFromActual, modTier_tier]
    split <;> rfl
  simp only [State.endAtActual, State.endMove, Single_tiers h, h.2.1, List.foldl_cons, List.foldl_nil, if_true]
  exact leaveTrimmed_eq_leaveMove (by rw [hstate]; exact hst) _ _

/-- The standing footprint of a tier put at a position (R8). -/
theorem standing_modTier (s : State) (t : Tier) (q : Pos) :
    (s.modTier t fun r => { r with cmd := some q }).standing t = footprint (s.prof t) q.slew (tiltBand q.tilt) := by
  simp [State.standing, State.cmdPos]

/-- The quick stop of a paused tier of its own ends its move at its actual position, at once (R31, R56). -/
theorem quickStop_paused {p : Pos} (hr : s.Room 1) (h : s.Single t m) (ho : m.origin = .link)
    (hst : (s.tier t).state = .paused) (ha : (s.tier t).act = some p) :
    s.quickStop t = (s.modTier t fun r =>
      { r with cmd := some ⟨p.slew, clampTilt (s.prof t) p.tilt⟩ }).endMove m .barrier .settle := by
  have hquick : s.quickStop t = s.endAtActual m true := by simp only [State.quickStop, h.1, hst]
  have hactual : s.cmdFromActual t = s.modTier t fun r => { r with cmd := some ⟨p.slew, clampTilt (s.prof t) p.tilt⟩ } :=
    modTier_congr (by rw [ha])
  rw [hquick, endAtActual_single hr h ho (by simp [hst]), hactual]

section Paused

variable {p q : Pos} (hr : s.Room 3) (h : s.Single t m) (ho : m.origin = .link) (hst : (s.tier t).state = .paused)
  (ha : (s.tier t).act = some p) (hq : q = ⟨p.slew, min p.tilt (s.prof t).tiltMax⟩)
  (hg : s.aa.grants.any (fun g => g.names t) = true)

include hr h ho hst ha hq hg

/-- A paused tier that can be placed at its actual position settles there (R31, R56). -/
theorem quickStop_paused_placed
    (hp : s.fm.canPlace t [] (footprint (s.prof t) q.slew (tiltBand q.tilt)) = true) :
    s.quickStop t =
      ((((s.modFloor fun f => f.place t (footprint (s.prof t) q.slew (tiltBand q.tilt))).trigger.ungrant t).triggers
        (restTriggers (restState (s.prof t) ((s.tier t).securePending || m.auto)))).modTier t fun r =>
          r.settled q (s.prof t) m.auto).told
        (.moveEnd t none .barrier q :: restReports t (restState (s.prof t) ((s.tier t).securePending || m.auto))) := by
  subst hq
  have htier := modTier_tier s t fun r => { r with cmd := some ⟨p.slew, clampTilt (s.prof t) p.tilt⟩ }
  have hplaced := endMove_placed (s := s.modTier t fun r => { r with cmd := some ⟨p.slew, clampTilt (s.prof t) p.tilt⟩ })
    hr h.2.1 h.2.2 ho (by rw [htier]) (by rw [standing_modTier]; exact hp) hg .barrier
  rw [standing_modTier, htier, modTier_steps_under] at hplaced
  exact (quickStop_paused (room_mono hr (by decide)) h ho hst ha).trans hplaced

/-- A paused tier that cannot be placed at its actual position is FAULTED there (R56). -/
theorem quickStop_paused_blocked
    (hp : s.fm.canPlace t [] (footprint (s.prof t) q.slew (tiltBand q.tilt)) = false)
    (h0 : (s.tier t).fault.latched = 0) (hent : s.entryOf t = none) :
    s.quickStop t =
      (((s.modFloor fun f => f.freeAll t).trigger.ungrant t).modTier t fun r => r.conflicted q).told
        [.moveEnd t none .barrier q, .faultRaised t .mapConflict .paused q, .tierState t .faulted] := by
  subst hq
  have htier := modTier_tier s t fun r => { r with cmd := some ⟨p.slew, clampTilt (s.prof t) p.tilt⟩ }
  have hblocked := endMove_blocked (s := s.modTier t fun r => { r with cmd := some ⟨p.slew, clampTilt (s.prof t) p.tilt⟩ })
    hr h.2.1 h.2.2 ho (by rw [htier]) (by rw [standing_modTier]; exact hp) hg (by rw [htier]; exact h0) hent
    (by rw [htier]; simp [hst]) .barrier
  rw [htier, ← triggers_zero (State.ungrant _ t), modTier_steps_under, hst] at hblocked
  exact (quickStop_paused (room_mono hr (by decide)) h ho hst ha).trans hblocked

end Paused

end QuickStop

/-- The state with the list of waiting applications and reports set (R72). -/
def State.withDue (s : State) (due : List TripItem) : State := { s with zu := { s.zu with due := due } }

/-- An application that leaves the list with `n` inactive reports, after what its stops leave and report (R71, R72). -/
theorem tripApplication_next {s y : State} {i : Input} {rest : List TripItem} {n : Nat} {rs : List Report}
    (hrun : s.phase = .running) (htake : takeApplication i s.zu.due = some (rest, n))
    (hstop : (s.withDue rest).tripStop i = y.told rs) (hy : y.Room (rs.length + n)) :
    exec (.tripApplication i) s = .next (y.reported (rs ++ List.replicate n (.trip i false []))) := by
  have happly : s.tripApply i = ((s.withDue rest).tripStop i).reportAll (List.replicate n (.trip i false [])) := by
    simp only [State.tripApply, htake]
    rfl
  refine during_reported (f := fun x => x.tripApply i) hrun ?_
  rw [happly, hstop, reportAll_eq_told (by rw [told_room, List.length_replicate]; exact hy), told_told]

/-- A tier that settles reports one state or two (R27). -/
theorem restReports_length (t : Tier) (x : TierState) : (restReports t x).length ≤ 2 := by
  unfold restReports
  split <;> simp

/-- Settles O51: the application leaves the list with its inactive report, and stops the tier whose claim it touches, moving or
paused, or none. -/
theorem tripStops : Obligations.TripStops := by
  unfold Obligations.TripStops
  intro i t m late rest cleared s hrun hroom hlate hrest hdue
  obtain ⟨n, hn, htake, rfl⟩ := takeApplication_head hlate hrest
  rw [← hdue] at htake
  refine ⟨fun hclear => ?none, fun hi hm ho hst hstop hc hother => ?moving, ?paused⟩
  case none =>
    have hfinds : (s.withDue rest).tripFinds i = [] := tripFinds_of_none hclear
    have hstops : (s.withDue rest).tripStop i = (s.withDue rest).told [.trip i true []] := by
      rw [State.tripStop, tripStops_of_none hfinds, hfinds]
      exact report_eq_told (by exact room_mono hroom (by decide))
    exact tripApplication_next hrun htake hstops (by exact room_mono hroom (by simp; omega))
  case moving =>
    have hfinds : (s.withDue rest).tripFinds i = [t] := tripFinds_of_one hi (.inl hst) hc hother
    have hquick := quickStop_moving (s := s.withDue rest) (room_mono hroom (by decide)) hm ho hst hstop
    have hstops := tripStop_of_one hfinds (gangOf_of_single (s := s.withDue rest) hm) hstop
    rw [hquick, told_report (by exact room_mono hroom (by simp))] at hstops
    exact tripApplication_next hrun htake hstops (by exact room_mono hroom (by simp; omega))
  case paused =>
    rintro p q a w hroom hi hm ho hst hstop hact hc hother hg hq rfl rfl
    have hfinds : (s.withDue rest).tripFinds i = [t] := tripFinds_of_one hi (.inr hst) hc hother
    have hstops := tripStop_of_one hfinds (gangOf_of_single (s := s.withDue rest) hm) hstop
    have hroom3 : s.Room 3 := room_mono hroom (by decide)
    refine ⟨fun hp => ?placed, fun hp h0 hent => ?blocked⟩
    case placed =>
      have hquick := quickStop_paused_placed (s := s.withDue rest) hroom3 hm ho hst hact hq hg hp
      have hlen := restReports_length t (restState (s.prof t) ((s.tier t).securePending || m.auto))
      have hroom4 : (restReports t (restState (s.prof t) ((s.tier t).securePending || m.auto))).length + 1 + 1 ≤ 5 := by omega
      have hroom5 : (restReports t (restState (s.prof t) ((s.tier t).securePending || m.auto)) ++
          [Report.trip i true [t]]).length + 1 + n ≤ 5 := by rw [List.length_append, List.length_singleton]; omega
      rw [hquick, told_report (by exact room_mono hroom hroom4), List.cons_append] at hstops
      have hnext := tripApplication_next hrun htake hstops (by exact room_mono hroom hroom5)
      rw [List.cons_append, List.append_assoc] at hnext
      exact hnext
    case blocked =>
      have hquick := quickStop_paused_blocked (s := s.withDue rest) hroom3 hm ho hst hact hq hg hp h0 hent
      rw [hquick, told_report (by exact room_mono hroom (by simp))] at hstops
      exact tripApplication_next hrun htake hstops (by exact room_mono hroom (by simp; omega))

end Sys2Proof.Machine
end

section
/-! PROOFS. Fail-safe and show lock on a tier that moves, stands paused or is tested (R28, R31, R148, R171, R174), and the flush
of the queue (R172). -/

namespace Sys2Proof.Machine

/-! ### The flush of the queue (R172) -/

section Flush

variable {s : State}

/-- The state with an empty queue, one scan trigger for each entry that stood in it (R98, R172). -/
def State.flushed (s : State) : State :=
  { s with aa := { s.aa with queue := [], scansDue := s.aa.scansDue + s.aa.queue.length } }

theorem flushed_of_empty (h : s.aa.queue = []) : s.flushed = s := by
  simp only [State.flushed, h, List.length_nil, Nat.add_zero]
  rw [← h]

/-- The report of an entry of origin LINK flushed by fail-safe (R98, R172). -/
def flushReport (e : Entry) : Report := .requestDropped e.tier e.members e.kind .link .failsafe

/-- The flush of a queue of LINK entries reports each of them, from the head on (R98, R172). -/
theorem flushQueue_link (hr : s.Room s.aa.queue.length) (ho : ∀ e ∈ s.aa.queue, e.origin = .link) :
    s.flushQueue = s.flushed.told (s.aa.queue.map flushReport) := by
  have hfold : ∀ (l : List Entry) (x : State), x.aa.queue = l → x.Room l.length → (∀ e ∈ l, e.origin = .link) →
      l.foldl (fun s e => s.removeEntry e .failsafe) x = x.flushed.told (l.map flushReport) := by
    intro l
    induction l with
    | nil => intro x hx _ _; rw [flushed_of_empty hx]; exact (told_nil x).symm
    | cons e l ih =>
      intro x hx hroom hlink
      have hqueue : (x.unqueue e).aa.queue = l := by simp [State.unqueue, hx]
      have hcount : (x.unqueue e).flushed = x.flushed := by
        simp only [State.flushed, hqueue, hx, List.length_cons]
        simp only [State.unqueue, Nat.add_assoc, Nat.add_comm 1]
      have hremove : x.removeEntry e .failsafe = (x.unqueue e).told [flushReport e] :=
        removeEntry_link (room_mono hroom (by simp)) (hlink e List.mem_cons_self) _
      rw [List.foldl_cons, hremove, ih ((x.unqueue e).told [flushReport e]) hqueue
        ((told_room _ _ _).mpr (room_mono hroom (by simp; omega))) fun y hy => hlink y (List.mem_cons_of_mem _ hy)]
      show ((x.unqueue e).flushed.told [flushReport e]).told _ = _
      rw [hcount, told_told]
      rfl
  exact hfold s.aa.queue s rfl hr ho

/-- Fail-safe leaves a conversion unit that follows no tiers (R129). -/
theorem failsafeConversion_of_idle (hc : s.convActive = false) : s.failsafeConversion = s := by
  unfold State.failsafeConversion
  cases hstate : s.cu.state <;> simp [State.convActive, hstate] at hc ⊢

end Flush

/-! ### The entry of fail-safe (R171) -/

section Failsafe

variable {s y : State} {c : Cause} {rs : List Report}

/-- The state with fail-safe active (R171). -/
def State.failsafed (s : State) (c : Cause) : State := { s with fsu := { s.fsu with failsafe := some c } }

/-- The stops of fail-safe, for each installed tier in turn (R171). -/
def State.failsafeStops (s : State) : State :=
  State.eachGang (fun s t => s.safetyStop .failsafe true t) s.installedTiers s

/-- The entry of fail-safe while no conversion is followed: the reports of its stops, its own, and those of the flush, in
whichever order the flush and the abort are made (R171, R172). -/
theorem enterFailsafe_eq (hf : s.fsu.failsafe = none) (hstops : (s.failsafed c).failsafeStops = y.told rs)
    (hc : y.convActive = false) (ho : ∀ e ∈ y.aa.queue, e.origin = .link)
    (hr : y.Room (rs.length + 1 + y.aa.queue.length)) :
    s.enterFailsafe c = y.useFree.flushed.told (rs ++ .failsafe true c :: y.aa.queue.map flushReport) := by
  have hreport : (y.told rs).report (.failsafe true c) = y.told (rs ++ [.failsafe true c]) :=
    told_report (room_mono hr (by omega))
  have hflush : (y.told (rs ++ [.failsafe true c])).useFree.flushQueue =
      (y.useFree.flushed.told (rs ++ [.failsafe true c])).told (y.aa.queue.map flushReport) :=
    flushQueue_link ((told_room _ _ _).mpr (by simpa using hr)) ho
  rw [told_told] at hflush
  have hafter : State.failsafeConversion (y.useFree.flushed.told (rs ++ [.failsafe true c] ++ y.aa.queue.map flushReport)) =
      y.useFree.flushed.told (rs ++ [.failsafe true c] ++ y.aa.queue.map flushReport) := failsafeConversion_of_idle hc
  have hbefore : (y.told (rs ++ [.failsafe true c])).useFree.failsafeConversion =
      (y.told (rs ++ [.failsafe true c])).useFree := failsafeConversion_of_idle hc
  have henter : s.enterFailsafe c =
      if Config.abortBeforeFlush (y.told (rs ++ [.failsafe true c])).freeCount then
        (y.told (rs ++ [.failsafe true c])).useFree.failsafeConversion.flushQueue
      else (y.told (rs ++ [.failsafe true c])).useFree.flushQueue.failsafeConversion := by
    rw [← hreport, ← hstops]
    simp only [State.enterFailsafe, hf, Option.isSome_none, Bool.false_eq_true, if_false]
    rfl
  rw [henter, hbefore, hflush, hafter, ite_self, List.append_assoc]
  rfl

/-- A SECURED tier receives no stop (R171). -/
theorem safetyStop_secured {t : Tier} (h : (s.tier t).state = .secured) (reason : MoveReason) (test : Bool) :
    s.safetyStop reason test t = s := by
  simp [State.safetyStop, h]

/-- A SECURED tier moves with no other (R40). -/
theorem gangOf_secured {t : Tier} (h : (s.tier t).state = .secured) : s.gangOf t = [t] := by
  simp [State.gangOf, h]

/-- In a hall of SECURED tiers fail-safe stops none (R171). -/
theorem failsafeStops_none (h : ∀ t, s.installed t = true → (s.tier t).state = .secured) : s.failsafeStops = s :=
  eachGang_of_none (installedTiers_nodup s) fun u hu =>
    ⟨gangOf_secured (h u (mem_installedTiers.mp hu)), safetyStop_secured (h u (mem_installedTiers.mp hu)) _ _⟩

/-- The stops of fail-safe in a hall whose other tiers are SECURED are the one tier's stop (R171). -/
theorem failsafeStops_one {t : Tier} {F : TierRec → TierRec} (hi : s.installed t = true)
    (hother : ∀ u, u ≠ t → s.installed u = true → (s.tier u).state = .secured) (hg : s.gangOf t = [t])
    (hstop : s.safetyStop .failsafe true t = (y.modTier t F).told rs) (hy : y.tiers = s.tiers) :
    s.failsafeStops = (y.modTier t F).told rs := by
  have hkept (u : Tier) (hu : u ≠ t) : ((s.safetyStop .failsafe true t).tier u) = s.tier u := by
    rw [hstop, told_tier, modTier_tier_ne _ hu]
    exact congrArg (fun v => v.get u) hy
  rw [← hstop]
  refine eachGang_of_one (installedTiers_nodup s) (mem_installedTiers.mpr hi) hg (fun u hu hut => ?_) fun u hu hut => ?_
  · have hsecured := hother u hut (mem_installedTiers.mp hu)
    exact ⟨gangOf_secured hsecured, safetyStop_secured hsecured _ _⟩
  · have hsecured : ((s.safetyStop .failsafe true t).tier u).state = .secured := by
      rw [hkept u hut]; exact hother u hut (mem_installedTiers.mp hu)
    exact ⟨gangOf_secured hsecured, safetyStop_secured hsecured _ _⟩

end Failsafe

/-! ### The stop of one tier (R28, R31, R148, R171, R174) -/

section Stops

variable {s : State} {t : Tier} {m : MoveRec}

/-- A running tier is halted with auto-secure (R28, R171, R174). -/
theorem safetyStop_running (h : s.Single t m) (hst : (s.tier t).state = .moving) (hstop : (s.tier t).stop = .none)
    (hb : m.Brakes (s.prof t)) (reason : MoveReason) (test : Bool) :
    s.safetyStop reason test t = s.modTier t fun r =>
      { r with stop := .halt reason, move := some { m.braked (s.prof t) with auto := true } } := by
  have hhalt : s.safetyStop reason test t = s.controlledHalt t reason true := by simp [State.safetyStop, hst, hstop]
  rw [hhalt, controlledHalt_running h hst hstop hb]
  simp only [TierRec.stopping, Bool.or_true]

/-- A tier under a quick stop is secured, with its claim and its allocation kept (R31, R171). -/
theorem safetyStop_quick (hr : s.Room 1) (h : s.Single t m) (hst : (s.tier t).state = .moving)
    (hstop : (s.tier t).stop = .quick) (reason : MoveReason) (test : Bool) :
    s.safetyStop reason test t = (s.modTier t fun r =>
      { r with state := .securing, brakeTimer := .secureWait (s.prof t).secureTimeout }).told [.tierState t .securing] := by
  have hsecure : s.safetyStop reason test t = s.enterSecuring t := by
    simp [State.safetyStop, hst, hstop, State.secureQuick, gangOf_of_single h]
  rw [hsecure, enterSecuring_eq hr]

/-- A paused move ends at once, with auto-secure (R28, R55, R171, R174). -/
theorem safetyStop_paused {p : Pos} (hr : s.Room 3) (h : s.Single t m) (ho : m.origin = .link)
    (hst : (s.tier t).state = .paused) (hc : (s.tier t).cmd = some p) (hp : s.fm.canPlace t [] (s.standing t) = true)
    (hg : s.aa.grants.any (fun g => g.names t) = true) (reason : MoveReason) (test : Bool) :
    s.safetyStop reason test t =
      (((s.modFloor fun f => f.place t (s.standing t)).trigger.ungrant t).modTier t fun r =>
        r.settled p (s.prof t) true).told (.moveEnd t none reason p :: restReports t (restState (s.prof t) true)) := by
  have hend : s.safetyStop reason test t = s.endMove { m with auto := m.auto || true } reason .settle := by
    simp [State.safetyStop, hst, State.controlledHalt, h.1]
  have hrest : restTriggers (restState (s.prof t) true) = 0 := by
    unfold restState
    split <;> rfl
  have hplaced := endMove_placed (m := { m with auto := m.auto || true }) hr h.2.1 h.2.2 ho hc hp hg reason
  simp only [Bool.or_true, hrest, triggers_zero] at hplaced
  rw [hend, ← hplaced]
  simp only [Bool.or_true]

/-- A running test is aborted, and the tier returns to SECURED (R148, R171). -/
theorem safetyStop_testing {y : TestRec} (hr : s.Room 2) (hst : (s.tier t).state = .testing)
    (hy : (s.tier t).test = some y) (hg : s.aa.grants.any (fun g => g.names t) = true) (hc : s.convActive = false)
    (reason : MoveReason) :
    s.safetyStop reason true t = ((s.ungrant t).trigger.modTier t fun r =>
      { r with
        state := .secured
        brakeTimer := .stopped
        testTimer := none
        test := some { y with result := some .aborted } }).told
      [.brakeTest t .aborted y.lastSlip y.slipLimit (s.tier t).brakeWeak, .tierState t .secured] := by
  have hstop : s.safetyStop reason true t = (s.abortTest t).enterSecured t := by simp [State.safetyStop, hst]
  have habort : s.abortTest t = ((s.ungrant t).modTier t fun r =>
      { r with testTimer := none, test := some { y with result := some .aborted } }).told
        [.brakeTest t .aborted y.lastSlip y.slipLimit (s.tier t).brakeWeak] := by
    have hrecord : (s.modTier t fun r =>
        { r with testTimer := none, test := r.test.map fun x => { x with result := some .aborted } }) =
        s.modTier t fun r => { r with testTimer := none, test := some { y with result := some .aborted } } :=
      modTier_congr (by rw [hy]; rfl)
    simp only [State.abortTest, hy, Option.getD_some, hrecord]
    rw [report_eq_told (by exact room_mono hr (by decide)), freeGrant_of_named (by exact hg)]
    rfl
  rw [hstop, habort, enterSecured_eq ((told_room _ _ _).mpr hr) (by exact hc), told_trigger, told_modTier, told_told,
    modTier_trigger, modTier_modTier]
  rfl

/-- A READY tier is secured (R171, R174). -/
theorem safetyStop_ready (h : (s.tier t).state = .ready) (reason : MoveReason) (test : Bool) :
    s.safetyStop reason test t = s.enterSecuring t := by
  simp [State.safetyStop, h]

/-- A tier in a state in which show lock stops nothing (R174). -/
theorem safetyStop_of_idle (h : (s.tier t).state ∈ [.unsynced, .secured, .securing, .testing, .faulted])
    (reason : MoveReason) : s.safetyStop reason false t = s := by
  cases hst : (s.tier t).state <;> simp [hst] at h <;> simp [State.safetyStop, hst]

end Stops

/-! ### FORCE-FAILSAFE and SHOW-LOCK (R171, R174) -/

section Requests

variable {s y : State} {tag : Byte} {t : Tier} {rs : List Report} {F : TierRec → TierRec}

/-- FORCE-FAILSAFE by what its stops leave (R171, R172). -/
theorem forceFailsafe_next (h : s.Handles) (hf : s.fsu.failsafe = none)
    (hstops : (s.failsafed .forced).failsafeStops = y.told rs) (hclp : y.clp = s.clp) (hc : y.convActive = false)
    (ho : ∀ e ∈ y.aa.queue, e.origin = .link) (hr : s.Room (rs.length + 1 + y.aa.queue.length)) :
    exec (.forceFailsafe tag) s = .next (y.useFree.flushed.replied tag 0xA0 .ok []
      (rs ++ .failsafe true .forced :: y.aa.queue.map flushReport)) := by
  have henter := enterFailsafe_eq hf hstops hc ho (by rw [State.Room, hclp]; exact hr)
  exact request_next h (congrArg State.accept henter) (by decide) hclp

/-- FORCE-FAILSAFE in a hall without entries whose other tiers are SECURED (R171). -/
theorem forceFailsafe_one (h : s.Handles) (hf : s.fsu.failsafe = none) (hi : s.installed t = true)
    (hother : ∀ u, u ≠ t → s.installed u = true → (s.tier u).state = .secured) (hg : s.gangOf t = [t])
    (hstop : (s.failsafed .forced).safetyStop .failsafe true t = (y.modTier t F).told rs) (htiers : y.tiers = s.tiers)
    (hclp : y.clp = s.clp) (hq : y.aa.queue = []) (hc : y.convActive = false) (hr : s.Room (rs.length + 1)) :
    exec (.forceFailsafe tag) s =
      .next ((y.useFree.modTier t F).replied tag 0xA0 .ok [] (rs ++ [.failsafe true .forced])) := by
  have hstops : (s.failsafed .forced).failsafeStops = (y.modTier t F).told rs :=
    failsafeStops_one (s := s.failsafed .forced) hi hother hg hstop htiers
  have hnext := forceFailsafe_next (tag := tag) h hf hstops hclp hc (by rw [modTier_aa, hq]; simp)
    (by rw [modTier_aa, hq]; exact hr)
  rw [flushed_of_empty (by exact hq), modTier_aa, hq] at hnext
  exact hnext

/-- The state with tiers added to the show-lock set (R174). -/
def State.showLocked (s : State) (set : TierSet) : State :=
  { s with fsu := { s.fsu with showLock := s.fsu.showLock ||| set } }

/-- A tier set that fits names the tiers of its low bits alone (R174). -/
theorem not_aboveTiers {w : BitVec 16} (h : w.toNat < 4096) : aboveTiers w = false := by
  have hzero : w.extractLsb' 12 4 = 0 := by
    apply BitVec.eq_of_toNat_eq
    simp [Nat.shiftRight_eq_div_pow]
    omega
  simp [aboveTiers, hzero]

/-- SHOW-LOCK of one installed tier that is not locked sends it its show stop (R174). -/
theorem addShow_one {w : BitVec 16} (hw : ∀ u : Tier, w.getLsbD u = decide (u = t)) (hi : s.installed t = true)
    (hl : s.fsu.showLock.getLsbD t = false) :
    s.addShow (lowTiers w) = (s.showLocked (lowTiers w)).showStop t := by
  have hone : allTiers.filter (fun u => decide (u = t)) = [t] := by fin_cases t <;> decide
  have hnew : (s.installedTiers.filter fun (u : Tier) => (lowTiers w).getLsbD u && !s.fsu.showLock.getLsbD u) = [t] := by
    rw [State.installedTiers, List.filter_filter, ← hone]
    refine List.filter_congr fun u _ => ?_
    have hbit : (lowTiers w).getLsbD u = decide (u = t) := by
      rw [← hw u, lowTiers, BitVec.getLsbD_extractLsb', decide_eq_true u.isLt, Bool.true_and, Nat.zero_add]
    rw [hbit]
    by_cases hut : u = t
    · subst hut; rw [hl, hi]; simp
    · simp [hut]
  simp only [State.addShow, hnew]
  rfl

/-- A show stop of a tier that no entry names is its stop (R174). -/
theorem showStop_unqueued (hstop : s.safetyStop .showStop false t = y.told rs) (hent : y.entryOf t = none) :
    s.showStop t = y.told rs := by
  rw [State.showStop, hstop]
  exact removeEntryOf_of_none (s := y.told rs) hent _

/-- A show stop removes the entry that names its tier, after the stop's own reports (R98, R174). -/
theorem showStop_queued {e : Entry} (hr : y.Room (rs.length + 1)) (hstop : s.safetyStop .showStop false t = y.told rs)
    (hent : y.entryOf t = some e) (ho : e.origin = .link) :
    s.showStop t = (y.unqueue e).told (rs ++ [.requestDropped e.tier e.members e.kind .link .showLocked]) := by
  rw [State.showStop, hstop, removeEntryOf_link ((told_room _ _ _).mpr hr) (by exact hent) ho, told_unqueue, told_told]

/-- SHOW-LOCK of one installed tier that is not locked, by what its show stop leaves (R174). -/
theorem showLock_next {w : BitVec 16} (h : s.Handles) (hfit : w.toNat < 4096)
    (hw : ∀ u : Tier, w.getLsbD u = decide (u = t)) (hi : s.installed t = true)
    (hl : s.fsu.showLock.getLsbD t = false) (hstop : (s.showLocked (lowTiers w)).showStop t = y.told rs)
    (hclp : y.clp = s.clp) : exec (.showLock tag w) s = .next (y.replied tag 0xA3 .ok [] rs) := by
  have hserve : s.serveShowLock w = (y.told rs).accept := by
    rw [State.serveShowLock, not_aboveTiers hfit, addShow_one hw hi hl, hstop]
    rfl
  exact request_next h hserve (by decide) hclp

end Requests

/-- Settles O30: the stop of the one tier that does not stand, what fail-safe makes of the queue, and the show stops. -/
theorem safetyStopsMoving : Obligations.SafetyStopsMoving := by
  unfold Obligations.SafetyStopsMoving
  constructor
  · rintro tag t s x h hroom hf hc hi hother hx
    obtain rfl : x = (s.failsafed .forced).useFree := hx
    refine ⟨fun m hq hm hst hstop hb => ?running, fun m hq hm hst hstop => ?quick,
      fun m p hq hm ho hst hcmd hp hg => ?paused, fun y hq hst hy hg => ?testing, fun hst hlen ho => ?queue⟩
    case running =>
      have hhalt := (safetyStop_running (s := s.failsafed .forced) hm hst hstop hb .failsafe true).trans (told_nil _).symm
      have hnext := forceFailsafe_one (tag := tag) h hf hi hother (gangOf_of_single hm) hhalt rfl rfl hq hc
        (room_mono hroom (by decide))
      exact hnext
    case quick =>
      have hsecure := safetyStop_quick (s := s.failsafed .forced) (room_mono hroom (by decide)) hm hst hstop .failsafe true
      have hnext := forceFailsafe_one (tag := tag) h hf hi hother (gangOf_of_single hm) hsecure rfl rfl hq hc
        (room_mono hroom (by simp))
      exact hnext
    case paused =>
      have hend := safetyStop_paused (s := s.failsafed .forced) (room_mono hroom (by decide)) hm ho hst hcmd hp hg
        .failsafe true
      have hlen := restReports_length t (restState (s.prof t) true)
      have hroom4 : (restReports t (restState (s.prof t) true)).length + 1 + 1 ≤ 9 := by omega
      have hnext := forceFailsafe_one (tag := tag) h hf hi hother (gangOf_of_single hm) hend rfl rfl hq hc
        (room_mono hroom hroom4)
      exact hnext
    case testing =>
      have habort := safetyStop_testing (s := s.failsafed .forced) (room_mono hroom (by decide)) hst hy hg hc .failsafe
      have hnext := forceFailsafe_one (tag := tag) h hf hi hother (by simp [State.gangOf, hst]) habort rfl rfl hq hc
        (room_mono hroom (by simp))
      exact hnext
    case queue =>
      have hsecured (u : Tier) (hu : s.installed u = true) : (s.tier u).state = .secured := by
        by_cases hut : u = t
        · rw [hut]; exact hst
        · exact hother u hut hu
      have hstops : (s.failsafed .forced).failsafeStops = (s.failsafed .forced).told [] :=
        (failsafeStops_none (s := s.failsafed .forced) hsecured).trans (told_nil _).symm
      have hroom' : 0 + 1 + s.aa.queue.length ≤ 9 := by omega
      have hnext := forceFailsafe_next (tag := tag) h hf hstops rfl hc ho (room_mono hroom hroom')
      exact hnext
  · rintro tag t w s x h hroom hfit hw hi hl hx
    obtain rfl : x = s.showLocked (lowTiers w) := hx
    refine ⟨fun m hent hm hst hstop hb => ?running, fun m p hroom hent hm ho hst hcmd hp hg => ?paused,
      fun e hent ho hst => ?idle, fun e hent ho hst => ?ready⟩
    case running =>
      have hhalt := (safetyStop_running (s := s.showLocked (lowTiers w)) hm hst hstop hb .showStop false).trans
        (told_nil _).symm
      have hnext := showLock_next (tag := tag) h hfit hw hi hl (showStop_unqueued hhalt hent) rfl
      exact hnext
    case paused =>
      have hend := safetyStop_paused (s := s.showLocked (lowTiers w)) hroom hm ho hst hcmd hp hg .showStop false
      have hnext := showLock_next (tag := tag) h hfit hw hi hl (showStop_unqueued hend hent) rfl
      exact hnext
    case idle =>
      have hidle := (safetyStop_of_idle (s := s.showLocked (lowTiers w)) hst .showStop).trans (told_nil _).symm
      have hdrop := showStop_queued (y := s.showLocked (lowTiers w)) (rs := []) (room_mono hroom (by decide)) hidle hent ho
      have hnext := showLock_next (tag := tag) h hfit hw hi hl hdrop rfl
      exact hnext
    case ready =>
      have hsecure := (safetyStop_ready (s := s.showLocked (lowTiers w)) hst .showStop false).trans
        (enterSecuring_eq (room_mono hroom (by decide)))
      have hnext := showLock_next (tag := tag) h hfit hw hi hl (showStop_queued hroom hsecure hent ho) rfl
      exact hnext

end Sys2Proof.Machine
end

section
/-! PROOFS. The admission of a move of a tier or of a gang by a scan (R25, R40, R50, R61, R77, R94, R103, R105 to R107). -/

namespace Sys2Proof.Machine

/-! ### A scan of one entry (R101, R102) -/

section Scan

variable {s y : State} {e : Entry} {n : Nat} {cap : Option Nat} {alloc : Nat} {derated : Bool} {rs : List Report}

/-- The state with its count of scan triggers set (R101). -/
def State.withScans (s : State) (n : Nat) : State := { s with aa := { s.aa with scansDue := n } }

/-- A scan that admits nothing behind a waiting entry raises no bypass count (R108). -/
theorem raiseBypass_nil (s : State) : s.raiseBypass [] = s := by
  simp [State.raiseBypass]

/-- The scan-end event leaves a conversion unit that follows no tiers (R101). -/
theorem convScanEnd_of_idle (hc : s.convActive = false) (admitted : Bool) : s.convScanEnd admitted = s := by
  unfold State.convScanEnd
  cases hstate : s.cu.state <;> simp [State.convActive, hstate] at hc ⊢

/-- A scan of the one entry that waits admits it where its tests pass (R102, R107). -/
theorem scan_of_pass (hq : s.aa.queue = [e]) (hh : s.hallClosed = false) (hj : s.judge e = .pass cap alloc derated)
    (hc : (s.startEntry e cap alloc derated).convActive = false) : s.scan = s.startEntry e cap alloc derated := by
  have hwalk : s.walkQueue = ⟨s.startEntry e cap alloc derated, [], [], true, false⟩ := by
    simp [State.walkQueue, hh, hq, Scan.visit, hj]
  rw [State.scan, hwalk, raiseBypass_nil, convScanEnd_of_idle hc]

/-- ADMISSION-SCAN on the one entry that waits, where its tests pass (R101, R107). -/
theorem admissionScan_pass (h : s.ScansOne n e) (hj : (s.withScans n).judge e = .pass cap alloc derated)
    (hstart : (s.withScans n).startEntry e cap alloc derated = y.told rs) (hcu : y.cu = s.cu) :
    exec .admissionScan s = .next (y.reported rs) := by
  obtain ⟨hrun, hc, hdue, hq, hh⟩ := h
  have hidle : ((s.withScans n).startEntry e cap alloc derated).convActive = false := by
    rw [hstart, State.convActive, told_cu, hcu]
    exact hc
  have hscan : s.dueScan = (s.withScans n).scan := by simp only [State.dueScan, hdue]; rfl
  have hpass : (s.withScans n).scan = _ := scan_of_pass (s := s.withScans n) hq hh hj hidle
  exact during_reported (f := State.dueScan) hrun (hscan.trans (hpass.trans hstart))

end Scan

/-! ### The tests of a move (R102 to R106) -/

section Tests

variable {s : State} {e : Entry} {t : Tier}

/-- The load test of a tier with a fresh sample of a vacant load (R103). -/
theorem loadTest_vacant {c load : Nat} (hr : (s.tier t).loadRange = false) (hs : s.sample t = .valid c load true)
    (hv : load ≤ (s.prof t).vacancyLimit) : s.loadTest [t] [] = .ok [] := by
  simp [State.loadTest, hr, State.sampleFresh, State.occupied, hs, Nat.not_lt.mpr hv]

/-- A move whose full demand fits passes the budget test at its full speed (R106). -/
theorem budgetTest_full (hk : e.kind ≠ .test) (hb : (s.entryNeed e).demand (s.entryNeed e).full ≤ s.remaining) :
    s.budgetTest e = .pass (some (s.entryNeed e).full) ((s.entryNeed e).demand (s.entryNeed e).full) false := by
  unfold State.budgetTest
  split
  case h_1 htest => exact absurd htest hk
  case h_2 => exact if_pos hb

/-- A move that can be granted, and that no zone forbids, goes on to the budget test (R104). -/
theorem claimTest_granted (hk : e.kind ≠ .test) (hv : s.entryValid e = true) (hz : s.entryZone e = .pass)
    (hg : s.grantable e.tiers (s.entryClaim e).arc = true) : s.claimTest e = s.budgetTest e := by
  simp [State.claimTest, hk, hv, hz, hg]

/-- A move of READY tiers that are not show-locked goes on to the claim test, a CONVERT move once its loads have passed
(R102, R103). -/
theorem judge_ready (hl : ∀ u ∈ e.tiers, s.fsu.showLock.getLsbD u = false)
    (hst : ∀ u ∈ e.tiers, (s.tier u).state = .ready) (hk : e.kind ≠ .test)
    (hload : e.cls = some .convert → s.zu.valid = true ∧ s.loadTest e.tiers [] = .ok []) :
    s.judge e = s.claimTest e := by
  have hlocked : e.tiers.any (fun u => s.fsu.showLock.getLsbD u) = false :=
    List.any_eq_false.mpr fun u hu => by rw [hl u hu]; exact Bool.false_ne_true
  have hfaulted : e.tiers.any (fun u => decide ((s.tier u).state = .faulted)) = false :=
    List.any_eq_false.mpr fun u hu => by simp [hst u hu]
  have hstands : e.tiers.all (s.standsFor e) = true := List.all_eq_true.mpr fun u hu => by
    unfold State.standsFor
    split
    case h_1 htest => exact absurd htest hk
    case h_2 => exact decide_eq_true (hst u hu)
  simp only [State.judge, hlocked, hfaulted, hstands, Bool.not_true, Bool.false_eq_true, if_false]
  split
  case isTrue hconvert => simp [hload hconvert]
  case isFalse => rfl

end Tests

/-! ### What an admission leaves (R25, R50, R61, R77, R107) -/

section Admission

variable {s : State} {e : Entry} {t u : Tier} {cap : Option Nat} {alloc : Nat} {derated : Bool}

/-- The state with the floor of an admission, the entry taken from the queue and its grant put in place (R107). -/
def State.granted (s : State) (e : Entry) (f : Floor) (cap : Option Nat) (alloc : Nat) (derated : Bool) : State :=
  { s with
    fm := f
    aa := { s.aa with
      queue := s.aa.queue.erase e
      grants := s.aa.grants ++ [⟨e.kind, e.tier, e.members, e.cls, alloc, cap, derated⟩] } }

/-- The admission of the one entry of a queue leaves it empty (R107). -/
theorem granted_of_one (hq : s.aa.queue = [e]) (f : Floor) :
    s.granted e f cap alloc derated =
      { s with
        fm := f
        aa := { s.aa with
          queue := []
          grants := s.aa.grants ++ [⟨e.kind, e.tier, e.members, e.cls, alloc, cap, derated⟩] } } := by
  simp [State.granted, hq]

/-- The record of a tier that an admission sets moving (R25). -/
def TierRec.started (r : TierRec) (m : MoveRec) : TierRec :=
  { r with state := .moving, brakeTimer := .stopped, stop := .none, stoodStill := false, move := some m }

/-- A tier enters MOVING with its move record (R25). -/
theorem enter_startMove (hr : s.Room 1) (m : MoveRec) :
    (s.enter t .moving).startMove m t = (s.modTier t fun r => r.started m).told [.tierState t .moving] := by
  rw [enter_eq hr, State.startMove, told_modTier, modTier_modTier]
  rfl

/-- The ADMITTED report of an entry (R107). -/
def admittedReport (e : Entry) (cap : Option Nat) (alloc : Nat) (derated : Bool) : Report :=
  .admitted e.tier e.members e.kind e.origin cap alloc derated

/-- The admission of a move of one tier that has a way to go (R25, R50, R107). -/
theorem startEntry_single (hr : s.Room 2) (hk : e.kind = .move) (ho : e.origin = .link) (hm : e.members = [])
    (hgo : (s.moveFrom e e.tier).finished = false) :
    s.startEntry e cap alloc derated =
      ((s.granted e (s.fm.grant e.tier (s.entryClaim e)) cap alloc derated).modTier e.tier fun r =>
        r.started (s.moveFrom e e.tier)).told [admittedReport e cap alloc derated, .tierState e.tier .moving] := by
  have hgrant : s.startEntry e cap alloc derated =
      ((((s.granted e (s.fm.grant e.tier (s.entryClaim e)) cap alloc derated).report
        (admittedReport e cap alloc derated)).enter e.tier .moving).startMove (s.moveFrom e e.tier) e.tier).finishMove e.tier := by
    simp only [State.startEntry, State.grantClaim, hk, ho, hm, Entry.tiers, List.map_cons, List.map_nil, List.foldl_cons,
      List.foldl_nil, reduceCtorEq, if_false, admittedReport, State.granted]
    rfl
  rw [hgrant, report_eq_told (by exact room_mono hr (by decide)), enter_startMove ((told_room _ _ _).mpr hr), told_modTier,
    told_told]
  refine finishMove_of_unfinished fun m hmove => ?_
  rw [told_tier, modTier_tier] at hmove
  exact Option.some.inj hmove ▸ hgo

/-- The admission of a gang of two that has a way to go, the leader first (R40, R61, R107). -/
theorem startEntry_pair (hr : s.Room 3) (hk : e.kind = .gangMove) (ho : e.origin = .link) (hm : e.members = [u])
    (htu : e.tier ≠ u) (hgo : (s.moveFrom e e.tier).finished = false) :
    s.startEntry e cap alloc derated =
      (((s.granted e (s.fm.grantGang e.tier [(e.tier, s.standing e.tier), (u, s.standing u)] (s.entryClaim e)) cap alloc
        derated).modTier e.tier fun r => r.started (s.moveFrom e e.tier)).modTier u fun r => r.started (s.moveFrom e u)).told
        [admittedReport e cap alloc derated, .tierState e.tier .moving, .tierState u .moving] := by
  have hgrant : s.startEntry e cap alloc derated =
      (((((((s.granted e (s.fm.grantGang e.tier [(e.tier, s.standing e.tier), (u, s.standing u)] (s.entryClaim e)) cap alloc
        derated).report (admittedReport e cap alloc derated)).enter e.tier .moving).startMove (s.moveFrom e e.tier)
          e.tier).enter u .moving).startMove (s.moveFrom e u) u)).finishMove e.tier := by
    simp only [State.startEntry, State.grantClaim, hk, ho, hm, Entry.tiers, List.map_cons, List.map_nil, List.foldl_cons,
      List.foldl_nil, reduceCtorEq, if_false, admittedReport, State.granted]
    rfl
  rw [hgrant, report_eq_told (by exact room_mono hr (by decide)),
    enter_startMove ((told_room _ _ _).mpr (by exact room_mono hr (by simp))), told_modTier, told_told,
    enter_startMove ((told_room _ _ _).mpr (by exact hr)), told_modTier, told_told]
  refine finishMove_of_unfinished fun m hmove => ?_
  rw [told_tier, modTier_tier_ne _ htu, modTier_tier] at hmove
  exact Option.some.inj hmove ▸ hgo

end Admission

/-- The demand of a motion at a speed (R105). -/
theorem demand_eq (x : Need) (v : Nat) :
    x.demand v = (if x.slews then (x.mass * v + 255) / 256 else 0) + x.tilt + x.hold := by
  simp [Need.demand, ceilDiv]

/-- The need of a move of one tier (R105). -/
theorem need_single (s : State) (c : MClass) (t : Tier) (slews tilts : Bool) :
    s.need (some c) [t] slews tilts =
      ⟨s.mass (some c) t, slews, if tilts then (s.mass (some c) t * (s.prof t).tiltSpeed + 7) / 8 else 0, (s.prof t).hold,
        if c = .maint then min s.site.creep (s.prof t).slewMax else (s.prof t).slewMax⟩ := by
  simp [State.need, State.massAll, State.slewMaxOf, ceilDiv]

/-- The need of a MAINT gang of two (R94, R105). -/
theorem need_pair (s : State) (t u : Tier) (slews tilts : Bool) :
    s.need (some .maint) [t, u] slews tilts =
      ⟨s.mass (some .maint) t + s.mass (some .maint) u, slews, 0, (s.prof t).hold + (s.prof u).hold,
        min s.site.creep (min (s.prof t).slewMax (s.prof u).slewMax)⟩ := by
  simp [State.need, State.massAll, State.slewMaxOf]

/-- ADMISSION-SCAN on a move that passes its tests and fits at its full speed (R102 to R107). -/
theorem admissionScan_full {s y : State} {e : Entry} {n full d : Nat} {rs : List Report} (h : s.ScansOne n e)
    (hl : ∀ u ∈ e.tiers, s.fsu.showLock.getLsbD u = false) (hst : ∀ u ∈ e.tiers, (s.tier u).state = .ready)
    (hk : e.kind ≠ .test)
    (hload : e.cls = some .convert → s.zu.valid = true ∧ (s.withScans n).loadTest e.tiers [] = .ok [])
    (hv : s.entryValid e = true) (hz : s.entryZone e = .pass) (hg : s.grantable e.tiers (s.entryClaim e).arc = true)
    (hfull : (s.entryNeed e).full = full) (hd : (s.entryNeed e).demand full = d) (hb : d ≤ s.remaining)
    (hstart : (s.withScans n).startEntry e (some full) d false = y.told rs) (hcu : y.cu = s.cu) :
    exec .admissionScan s = .next (y.reported rs) := by
  subst hfull hd
  have hjudge : (s.withScans n).judge e = .pass (some (s.entryNeed e).full) ((s.entryNeed e).demand (s.entryNeed e).full) false :=
    (judge_ready (s := s.withScans n) hl hst hk hload).trans
      ((claimTest_granted (s := s.withScans n) hk hv hz hg).trans (budgetTest_full (s := s.withScans n) hk hb))
  exact admissionScan_pass h hjudge hstart hcu

/-- The tilt generator at admission, from a tilt to its target (R77). -/
theorem tiltStart_eq (now y : Nat) :
    TiltGen.start now y = ⟨if now < y then .up else if y < now then .down else .none, 0, (y - now) + (now - y), false,
      decide (y = now)⟩ := by
  simp only [TiltGen.start, tiltGap_eq_zero_iff]
  rfl

/-- The tilt generator of a tier that does not tilt stands finished (R77, R94). -/
theorem tiltStart_same (y : Nat) : TiltGen.start y y = ⟨.none, 0, 0, false, true⟩ := by
  simp [TiltGen.start, tiltDir, tiltGap]

/-- Settles O53: the one entry of the queue passes its tests, of a tier or of a gang of two, and is admitted. -/
theorem scanAdmitsMove : Obligations.ScanAdmitsMove := by
  unfold Obligations.ScanAdmitsMove
  constructor
  · rintro t n full d mass cls x y now e w k s hscan hroom he hl hst rfl hgo hload rfl hfit hzone hgrant rfl hfull hd hbudget
    generalize e.auto = auto, e.bypass = bypass, e.sample = sample at he ⊢
    subst he
    have hneed : s.entryNeed ⟨.move, t, [], some cls, some x, some w, some y, auto, .link, bypass, sample⟩ =
        ⟨s.mass (some cls) t, decide (distance w (s.cmdPos t).slew x ≠ 0),
          if decide (y ≠ (s.cmdPos t).tilt) then (s.mass (some cls) t * (s.prof t).tiltSpeed + 7) / 8 else 0,
          (s.prof t).hold, full⟩ := by
      rw [hfull]
      exact need_single s cls t _ _
    have hdemand : (s.entryNeed ⟨.move, t, [], some cls, some x, some w, some y, auto, .link, bypass, sample⟩).demand full
        = d := by
      rw [hneed, demand_eq, hd]
      simp
    have hunfinished : ((s.withScans n).moveFrom
        ⟨.move, t, [], some cls, some x, some w, some y, auto, .link, bypass, sample⟩ t).finished = false := by
      show (decide (distance w (s.cmdPos t).slew x = 0) && decide (tiltGap y (s.cmdPos t).tilt = 0)) = false
      rcases hgo with hgo | hgo <;> simp [hgo, tiltGap_eq_zero_iff]
    have hvacant (hc : cls = .convert) : s.zu.valid = true ∧ (s.withScans n).loadTest [t] [] = .ok [] := by
      obtain ⟨hzones, hrange, c, load, hsample, hlimit⟩ := hload hc
      exact ⟨hzones, loadTest_vacant (s := s.withScans n) hrange hsample hlimit⟩
    have hstart := startEntry_single (s := s.withScans n) (cap := some full) (alloc := d) (derated := false) hroom rfl rfl rfl
      hunfinished
    rw [granted_of_one (by exact hscan.2.2.2.1)] at hstart
    refine (admissionScan_full hscan (by simpa [Entry.tiers] using hl) (by simpa [Entry.tiers] using hst) (by simp)
      (fun hc => hvacant (Option.some.inj hc)) hfit hzone hgrant (by rw [hneed]) hdemand hbudget hstart rfl).trans ?_
    refine congrArg (fun z => Host.Outcome.next (State.reported z _)) (modTier_congr ?_)
    rw [← tiltStart_eq]
    rfl
  · rintro t u n full d x e w k m s hscan hroom htu he hlt hlu hst hsu hgo rfl hcont hfit hzone hgrant hfull hd hbudget hm
    generalize e.auto = auto, e.bypass = bypass, e.sample = sample at he hm ⊢
    subst he
    have hneed : s.entryNeed ⟨.gangMove, t, [u], some .maint, some x, some w, none, auto, .link, bypass, sample⟩ =
        ⟨s.mass (some .maint) t + s.mass (some .maint) u, decide (distance w (s.cmdPos t).slew x ≠ 0), 0,
          (s.prof t).hold + (s.prof u).hold, full⟩ := by
      rw [hfull]
      exact need_pair s t u _ _
    have hdemand : (s.entryNeed
        ⟨.gangMove, t, [u], some .maint, some x, some w, none, auto, .link, bypass, sample⟩).demand full = d := by
      rw [hneed, demand_eq, hd]
      simp [hgo]
    have hmove (v : Tier) : (s.withScans n).moveFrom
        ⟨.gangMove, t, [u], some .maint, some x, some w, none, auto, .link, bypass, sample⟩ v = m (s.cmdPos v).tilt := by
      have hstill := tiltStart_same (s.cmdPos v).tilt
      have hslew : SlewGen.start (distance w (s.cmdPos t).slew x) =
          ⟨0, distance w (s.cmdPos t).slew x, false, false, 0, false⟩ := by simp [SlewGen.start, hgo]
      rw [hm, ← hstill, ← hslew, ← max_self (tiltBand (s.cmdPos v).tilt)]
      rfl
    have hunfinished : (m (s.cmdPos t).tilt).finished = false := by simp [hm, MoveRec.finished]
    have hstart := startEntry_pair (s := s.withScans n) (cap := some full) (alloc := d) (derated := false) hroom rfl rfl rfl
      htu (by rw [hmove]; exact hunfinished)
    rw [granted_of_one (by exact hscan.2.2.2.1), hmove, hmove] at hstart
    have hvalid : s.entryValid ⟨.gangMove, t, [u], some .maint, some x, some w, none, auto, .link, bypass, sample⟩ = true :=
      Bool.and_eq_true_iff.mpr ⟨hcont, hfit⟩
    have hlocks : ∀ v ∈ [t, u], s.fsu.showLock.getLsbD v = false :=
      List.forall_mem_cons.mpr ⟨hlt, List.forall_mem_singleton.mpr hlu⟩
    have hready : ∀ v ∈ [t, u], (s.tier v).state = .ready :=
      List.forall_mem_cons.mpr ⟨hst, List.forall_mem_singleton.mpr hsu⟩
    exact admissionScan_full hscan hlocks hready (by simp) (by simp) hvalid hzone hgrant (by rw [hneed]) hdemand hbudget
      hstart rfl

end Sys2Proof.Machine
end

section
/-! PROOFS. The Floor Map's operations (R43 to R63): what each leaves at a cell and in the claim records. -/

namespace Sys2Proof.Machine

/-! ### Cells and claim records -/

/-- An arc's membership test finds exactly its cells (R2). -/
theorem Arc.mem_iff_cells {a : Arc} {g : Cell} : a.mem g = true ↔ g ∈ a.cells := by
  rw [Arc.mem_cells, Arc.mem, decide_eq_true_iff]
  constructor
  · intro h
    exact ⟨(g - a.first).toNat, h, by rw [BitVec.ofNat_toNat, BitVec.setWidth_eq, add_sub_cancel]⟩
  · rintro ⟨i, hi, rfl⟩
    have : (a.first + BitVec.ofNat 8 i - a.first).toNat = i % 256 := by simp
    exact this ▸ (Nat.mod_le i 256).trans_lt hi

theorem mapCellsFrom_getElem? (f : Cell → CellState → CellState) (i k : Nat) (l : List CellState) :
    (mapCellsFrom f i l)[k]? = l[k]?.map (f (BitVec.ofNat 8 (i + k))) := by
  induction l generalizing i k with
  | nil => simp [mapCellsFrom]
  | cons c cs ih =>
    cases k with
    | zero => simp [mapCellsFrom]
    | succ k => simp [mapCellsFrom, ih, Nat.add_assoc, Nat.add_comm 1 k]

/-- Every cell entry is changed by itself (R45). -/
@[simp] theorem mapCells_at (m : Floor) (f : Cell → CellState → CellState) (g : Cell) :
    (m.mapCells f).at g = f g (m.at g) := by
  have h := mapCellsFrom_getElem? f 0 g.toNat m.cells.toList
  have hg : g.toNat < 256 := g.isLt
  simpa [Floor.at, Floor.mapCells, Vector.get_eq_getElem, mapCellsFrom_length, hg] using h

@[simp] theorem mapCells_claims (m : Floor) (f : Cell → CellState → CellState) : (m.mapCells f).claims = m.claims := rfl

@[simp] theorem setClaims_at (m : Floor) (ts : List Tier) (c : Option ClaimRec) (g : Cell) :
    (m.setClaims ts c).at g = m.at g := by
  unfold Floor.setClaims
  induction ts generalizing m with
  | nil => rfl
  | cons t ts ih => exact ih _

/-- The claim records of the tiers named are set, and no other (R48, R61). -/
theorem setClaims_get (m : Floor) (ts : List Tier) (c : Option ClaimRec) (u : Tier) :
    (m.setClaims ts c).claims.get u = if u ∈ ts then c else m.claims.get u := by
  unfold Floor.setClaims
  induction ts generalizing m with
  | nil => rfl
  | cons t ts ih =>
    rw [List.foldl_cons, ih]
    by_cases hu : u = t
    · simp [hu, vector_get_set_self]
    · simp [hu, vector_get_set_ne _ hu]

/-- The claim record of the one tier that an operation names. -/
@[simp] theorem setClaims_get_self (m : Floor) (t : Tier) (c : Option ClaimRec) :
    (m.setClaims [t] c).claims.get t = c := by simp [setClaims_get]

/-- An operation that names one tier keeps every other claim record. -/
theorem setClaims_get_ne (m : Floor) {t u : Tier} (h : u ≠ t) (c : Option ClaimRec) :
    (m.setClaims [t] c).claims.get u = m.claims.get u := by simp [setClaims_get, h]

/-! ### The tests of a placement and of a grant (R50, R54) -/

/-- A placement of a tier on its own covers no cell of another tier (R54). -/
theorem owner_of_canPlace {m : Floor} {t u : Tier} {a : Arc} {g : Cell} (h : m.canPlace t [] a = true)
    (hg : a.mem g = true) (hu : (m.at g).owner = some u) : u = t := by
  have hcell := List.all_eq_true.mp h g (Arc.mem_iff_cells.mp hg)
  cases hs : m.at g with
  | free => simp [hs, CellState.owner] at hu
  | held o | claimed o =>
    have ho : o = u := by simpa [hs, CellState.owner] using hu
    simpa [hs, ho] using hcell

/-- A grant to one tier covers no cell of another tier (R50). -/
theorem owner_of_grantable {s : State} {t u : Tier} {a : Arc} {g : Cell} (h : s.grantable [t] a = true)
    (hg : a.mem g = true) (hu : (s.fm.at g).owner = some u) : u = t := by
  have hcell := List.all_eq_true.mp (Bool.and_eq_true_iff.mp h).2 g (Arc.mem_iff_cells.mp hg)
  simpa [Floor.freeOrOf, hu] using hcell

/-! ### What each operation leaves -/

theorem place_at (m : Floor) (t : Tier) (a : Arc) (g : Cell) :
    (m.place t a).at g = if a.mem g = true then .held t else if (m.at g).owner = some t then .free else m.at g := by
  simp [Floor.place]

theorem grant_at (m : Floor) (t : Tier) (c : ClaimRec) (g : Cell) :
    (m.grant t c).at g = if c.arc.mem g = true then .claimed t else m.at g := by
  simp [Floor.grant]

theorem releaseTo_at (m : Floor) (ts : List Tier) (c : ClaimRec) (i : Nat) (g : Cell) :
    (m.releaseTo ts c i).at g =
      if (stepArc c.dir c.origin c.release i).mem g = true ∧ ∃ t ∈ ts, (m.at g).owner = some t then .free else m.at g := by
  cases hs : m.at g <;> simp [Floor.releaseTo, hs, CellState.owner]

theorem retarget_at (m : Floor) (t : Tier) (c : ClaimRec) (e : Nat) (g : Cell) :
    (m.retarget t c e).at g =
      if (stepArc c.dir c.origin (c.finish + 1) (e + 1)).mem g = true then .claimed t
      else if (stepArc c.dir c.origin (e + 1) (c.finish + 1)).mem g = true then .free else m.at g := by
  simp [Floor.retarget]

theorem freeAll_at (m : Floor) (t : Tier) (g : Cell) :
    (m.freeAll t).at g = if (m.at g).owner = some t then .free else m.at g := by
  simp [Floor.freeAll]

theorem mark_at (m : Floor) (t : Tier) (a : Arc) (g : Cell) :
    (m.mark t a).at g = if a.mem g = true then .held t else m.at g := by
  simp [Floor.mark]

/-- Settles O58, operation by operation: the cell-wise equations above, with the tests of R50 and R54 saying that no cell of
another tier is covered. -/
theorem placementHolds : Obligations.PlacementHolds := by
  refine ⟨fun m t a hplace => ⟨place_at m t a, ?_, setClaims_get_self _ _ _, fun u hu => setClaims_get_ne _ hu _⟩,
    fun s t c hgrant => ⟨grant_at s.fm t c, ?_, setClaims_get_self _ _ _, fun u hu => setClaims_get_ne _ hu _⟩,
    fun m t c i => ⟨fun g => ?_, setClaims_get_self _ _ _, fun u hu => setClaims_get_ne _ hu _⟩,
    fun m t c e _ _ => ⟨fun g => ?_, setClaims_get_self _ _ _, fun u hu => setClaims_get_ne _ hu _⟩⟩
  · intro g u hne hu
    have hg : ¬ a.mem g = true := fun hg => hne (owner_of_canPlace hplace hg hu)
    simp [place_at, hg, hu, hne]
  · intro g u hne hu
    have hg : ¬ c.arc.mem g = true := fun hg => hne (owner_of_grantable hgrant hg hu)
    simp [grant_at, hg]
  · simp [releaseTo_at]
  · simp [retarget_at, Arc.mem_iff_cells]

end Sys2Proof.Machine
end

section
/-! PROOFS. What leaves the Floor Map alone: of the operations of the hall only grants, retargets, releases, placements and
markings change it (R45); every other one keeps it whole. -/

namespace Sys2Proof.Machine

/-! ### Folds, reports and records -/

section Folds

variable {α β : Type}

theorem foldl_fm (f : State → α → State) (h : ∀ s a, (f s a).fm = s.fm) (l : List α) (s : State) :
    (l.foldl f s).fm = s.fm := by
  induction l generalizing s with
  | nil => rfl
  | cons a l ih => rw [List.foldl_cons, ih, h]

theorem foldl_fst_fm (f : State × β → α → State × β) (h : ∀ x a, (f x a).1.fm = x.1.fm) (l : List α) (x : State × β) :
    (l.foldl f x).1.fm = x.1.fm := by
  induction l generalizing x with
  | nil => rfl
  | cons a l ih => rw [List.foldl_cons, ih, h]

end Folds

section Frame

variable (s : State) (t : Tier)

@[simp] theorem triggerIf_fm (b : Bool) : (s.triggerIf b).fm = s.fm := by cases b <;> rfl

@[simp] theorem reportAll_fm (rs : List Report) : (s.reportAll rs).fm = s.fm := foldl_fm _ report_fm rs s

@[simp] theorem modMoves_fm (ts : List Tier) (f : MoveRec → MoveRec) : (s.modMoves ts f).fm = s.fm :=
  foldl_fm _ (fun s u => modTier_fm s u _) ts s

@[simp] theorem modTiers_fm (ts : List Tier) (f : TierRec → TierRec) : (s.modTiers ts f).fm = s.fm :=
  foldl_fm _ (fun s u => modTier_fm s u f) ts s

@[simp] theorem brakeMove_fm (m : MoveRec) : (s.brakeMove m).fm = s.fm := modMoves_fm s _ _

/-! ### Entries, the conversion record and route walks (R98, R124, R134) -/

@[simp] theorem convReport_fm (ev : ConvEvent) (who : Option (Tier × Code)) : (s.convReport ev who).fm = s.fm :=
  report_fm s _

@[simp] theorem countDone_fm : (s.countDone t).fm = s.fm := rfl

@[simp] theorem countDropped_fm : (s.countDropped t).fm = s.fm := rfl

@[simp] theorem convCheck_fm : s.convCheck.fm = s.fm := by
  unfold State.convCheck
  (repeat' split) <;> simp

@[simp] theorem convDropWith_fm (c : Code) : (s.convDropWith t c).fm = s.fm := by simp [State.convDropWith]

@[simp] theorem convEntryRemoved_fm : (s.convEntryRemoved t).fm = s.fm := by
  unfold State.convEntryRemoved
  split <;> simp

@[simp] theorem convMoveEnd_fm (r : MoveReason) : (s.convMoveEnd t r).fm = s.fm := by
  unfold State.convMoveEnd
  (repeat' split) <;> simp

@[simp] theorem convAdmitted_fm : (s.convAdmitted t).fm = s.fm := by
  unfold State.convAdmitted
  dsimp only
  (repeat' split) <;> simp

@[simp] theorem modWalk_fm (f : WalkRec → WalkRec) : (s.modWalk t f).fm = s.fm := rfl

@[simp] theorem walkEnd_fm (c : Code) : (s.walkEnd t c).fm = s.fm := by simp [State.walkEnd]

@[simp] theorem walkEntryRemoved_fm (c : Code) : (s.walkEntryRemoved t c).fm = s.fm := by
  simp only [State.walkEntryRemoved]
  split <;> simp

@[simp] theorem enqueue_fm (e : Entry) : (s.enqueue e).fm = s.fm := rfl

@[simp] theorem placeLeg_fm : (s.placeLeg t).fm = s.fm := by
  unfold State.placeLeg
  (repeat' split) <;> simp

@[simp] theorem walkMoveEnd_fm (r : MoveReason) : (s.walkMoveEnd t r).fm = s.fm := by
  simp only [State.walkMoveEnd]
  (repeat' split) <;> simp

@[simp] theorem dropEntry_fm (e : Entry) (c : Code) : (s.dropEntry e c).fm = s.fm := by
  unfold State.dropEntry
  split <;> simp

@[simp] theorem removeEntry_fm (e : Entry) (c : Code) : (s.removeEntry e c).fm = s.fm := dropEntry_fm s e c

@[simp] theorem removeEntryOf_fm (c : Code) : (s.removeEntryOf t c).fm = s.fm := by
  unfold State.removeEntryOf
  split <;> simp

@[simp] theorem freeGrant_fm : (s.freeGrant t).fm = s.fm := by
  unfold State.freeGrant
  split <;> rfl

@[simp] theorem moveEnd_fm (m : MoveRec) (r : MoveReason) : (s.moveEnd t m r).fm = s.fm := by
  simp only [State.moveEnd]
  split <;> simp

/-! ### Entering a state, taking a fault (R20, R42, R163) -/

@[simp] theorem enter_fm (x : TierState) : (s.enter t x).fm = s.fm := by simp [State.enter]

@[simp] theorem enterReleasing_fm : (s.enterReleasing t).fm = s.fm := enter_fm s t _

@[simp] theorem enterSecuring_fm : (s.enterSecuring t).fm = s.fm := enter_fm s t _

@[simp] theorem enterReady_fm : (s.enterReady t).fm = s.fm := enter_fm s t _

@[simp] theorem tryRelease_fm : (s.tryRelease t).2.fm = s.fm := by
  unfold State.tryRelease
  (repeat' split) <;> simp

@[simp] theorem convSecured_fm : (s.convSecured t).fm = s.fm := by
  simp only [State.convSecured]
  split
  · have h := tryRelease_fm (s.setConvTier t { s.convTier t with releaseWanted := false }) t
    split
    · rename_i e
      rw [e] at h
      exact h
    · rename_i e
      rw [e] at h
      split <;> simpa using h
  · rfl

@[simp] theorem enterSecured_fm : (s.enterSecured t).fm = s.fm := by simp [State.enterSecured]

@[simp] theorem settleExpire_fm : (s.settleExpire t).fm = s.fm := by
  simp only [State.settleExpire]
  split <;> simp

@[simp] theorem enterSettling_fm : (s.enterSettling t).fm = s.fm := by
  simp only [State.enterSettling]
  split <;> simp

@[simp] theorem latch_fm (k : FaultKind) : (s.latch t k).fm = s.fm := by
  simp only [State.latch]
  split <;> simp

@[simp] theorem abortTest_fm : (s.abortTest t).fm = s.fm := by simp [State.abortTest]

@[simp] theorem faultReaction_fm : (s.faultReaction t).fm = s.fm := by
  simp only [State.faultReaction, enter_fm, modTier_fm, removeEntryOf_fm, freeGrant_fm]
  (repeat' split) <;> simp

@[simp] theorem raiseFault_fm (k : FaultKind) : (s.raiseFault t k).fm = s.fm := by
  unfold State.raiseFault
  split
  · rfl
  · simp
  · simp only [foldl_fm _ faultReaction_fm, foldl_fm _ fun s u => latch_fm s u k]

@[simp] theorem leaveMove_fm (auto : Bool) (after : AfterMove) (failed : List Tier) :
    (s.leaveMove auto after failed t).fm = s.fm := by
  simp only [State.leaveMove]
  (repeat' split) <;> simp

@[simp] theorem setStop_fm (ts : List Tier) (q : StopReq) : (s.setStop ts q).fm = s.fm := modTiers_fm s ts _

@[simp] theorem setAuto_fm (ts : List Tier) : (s.setAuto ts).fm = s.fm := modMoves_fm s ts _

@[simp] theorem setSecurePending_fm : (s.setSecurePending t).fm = s.fm := rfl

@[simp] theorem secureQuick_fm : (s.secureQuick t).fm = s.fm := foldl_fm _ enterSecuring_fm _ s

@[simp] theorem cmdFromActual_fm : (s.cmdFromActual t).fm = s.fm := rfl

@[simp] theorem leaveTrimmed_fm (auto : Bool) (failed : List Tier) : (s.leaveTrimmed auto failed t).fm = s.fm := by
  simp only [State.leaveTrimmed]
  (repeat' split) <;> simp

/-! ### Samples, grants of the arbiter, the conversion (R107, R114, R122, R138) -/

@[simp] theorem requestSample_fm (a b : Bool) : (s.requestSample t a b).fm = s.fm := by
  simp only [State.requestSample]
  (repeat' split) <;> rfl

@[simp] theorem completeConversion_fm (n : Nat) : (s.completeConversion n).fm = s.fm := by
  have hnext (s : State) : s.nextChannel.fm = s.fm := by
    unfold State.nextChannel
    split <;> rfl
  unfold State.completeConversion
  (repeat' split) <;> simp [hnext, State.loadResult, State.setSample]

@[simp] theorem expireFreshness_fm : (s.expireFreshness t).fm = s.fm := by
  unfold State.expireFreshness
  split <;> rfl

@[simp] theorem startTest_fm : (s.startTest t).fm = s.fm := rfl

@[simp] theorem startMove_fm (m : MoveRec) : (s.startMove m t).fm = s.fm := rfl

@[simp] theorem wantSamples_fm (e : Entry) (ts : List Tier) : (s.wantSamples e ts).fm = s.fm :=
  foldl_fm _ (fun s u => requestSample_fm s u _ _) ts s

@[simp] theorem raiseBypass_fm (ts : List Tier) : (s.raiseBypass ts).fm = s.fm := rfl

@[simp] theorem recap_fm (g : Grant) (cap alloc : Nat) (d : Bool) : (s.recap g cap alloc d).fm = s.fm := report_fm _ _

@[simp] theorem restoreGrant_fm (g : Grant) : (s.restoreGrant g).fm = s.fm := by
  simp only [State.restoreGrant]
  (repeat' split) <;> simp

@[simp] theorem removeGrant_fm (g : Grant) : (s.removeGrant g).fm = s.fm := rfl

@[simp] theorem setConvEntry_fm (x : ConvEntry) : (s.setConvEntry t x).fm = s.fm := rfl

@[simp] theorem convAtTarget_fm (l : Layout) : (s.convAtTarget l t).fm = s.fm := by
  simp only [State.convAtTarget]
  split <;> simp

@[simp] theorem convOffer_fm (l : Layout) : (s.convOffer l t).1.fm = s.fm := by
  simp only [State.convOffer]
  split <;> simp

@[simp] theorem convOfferAll_fm (l : Layout) (x : State × Bool) : (State.convOfferAll l x t).1.fm = x.1.fm := by
  unfold State.convOfferAll
  split <;> simp

@[simp] theorem convTake_fm (l : Layout) : (State.convTake l s t).fm = s.fm := by
  have h := tryRelease_fm (s.setConvTier t ⟨.waiting, .none, decide ((s.tier t).state = .securing)⟩) t
  simp only [State.convTake]
  split
  · simp
  · split
    · split
      all_goals
        rename_i e
        rw [e] at h
        simpa using h
    · rfl

@[simp] theorem startConversion_fm (n : Fin 16) (l : Layout) : (s.startConversion n l).fm = s.fm := by
  simp only [State.startConversion, convCheck_fm, foldl_fst_fm _ fun x u => convOfferAll_fm u l x,
    foldl_fm _ fun s u => convTake_fm s u l]

@[simp] theorem convPlace_fm (l : Layout) (x : State × Bool × Bool) : (State.convPlace l x t).1.fm = x.1.fm := by
  unfold State.convPlace
  (repeat' split) <;> simp

@[simp] theorem convScanEnd_fm (a : Bool) : (s.convScanEnd a).fm = s.fm := by
  have hplaced (l : Layout) (ts : List Tier) : (ts.foldl (State.convPlace l) (s, false, false)).1.fm = s.fm :=
    foldl_fst_fm _ (fun x u => convPlace_fm u l x) ts _
  unfold State.convScanEnd
  split
  · dsimp only
    split <;> simp [hplaced]
  · simp [hplaced]
  · rfl

@[simp] theorem convDiscard_fm : (s.convDiscard t).fm = s.fm := by
  simp only [State.convDiscard]
  split <;> simp

@[simp] theorem failsafeConversion_fm : s.failsafeConversion.fm = s.fm := by
  unfold State.failsafeConversion
  split <;> simp [foldl_fm _ convDiscard_fm]

/-! ### Device faults, clears, the drive link, timers (R24, R154 to R160, R164, R167) -/

@[simp] theorem raiseDevice_fm (k : DeviceFault) : (s.raiseDevice k).fm = s.fm := by
  unfold State.raiseDevice
  split <;> simp

@[simp] theorem clearDevice_fm (k : DeviceFault) : (s.clearDevice k).fm = s.fm := by
  unfold State.clearDevice
  split <;> simp

@[simp] theorem clearTaken_fm : (s.clearTaken t).fm = s.fm := by
  simp only [State.clearTaken]
  split <;> simp

@[simp] theorem flushQueue_fm : s.flushQueue.fm = s.fm := foldl_fm _ (fun s e => removeEntry_fm s e _) _ s

@[simp] theorem handRecord_fm (r : SetpointRecord) : (s.handRecord r).fm = s.fm := by
  unfold State.handRecord
  split <;> rfl

@[simp] theorem stepMove_fm (m : MoveRec) : (s.stepMove m).fm = s.fm := by simp [State.stepMove]

@[simp] theorem recordSent_fm : s.recordSent.fm = s.fm := by
  unfold State.recordSent
  split <;> rfl

@[simp] theorem feedbackExpire_fm : (s.feedbackExpire t).fm = s.fm := by
  unfold State.feedbackExpire
  split <;> simp

@[simp] theorem takePosition_fm (f : Feedback) : (s.takePosition f).fm = s.fm := rfl

@[simp] theorem followCheck_fm (f : Feedback) : (s.followCheck f).fm = s.fm := by
  unfold State.followCheck
  (repeat' split) <;> simp

@[simp] theorem driveFaults_fm (f : Feedback) : (s.driveFaults f).fm = s.fm := by
  simp only [State.driveFaults, modLink_fm]
  refine foldl_fm _ (fun s k => ?_) _ _
  split <;> simp

@[simp] theorem brakeWatch_fm (b : Bool) (n : Nat) : (s.brakeWatch t b n).fm = s.fm := rfl

@[simp] theorem linkStep_fm : (s.linkStep t).fm = s.fm := rfl

@[simp] theorem brakeExpire_fm : (s.brakeExpire t).fm = s.fm := by simp [State.brakeExpire]

@[simp] theorem releaseWaitExpire_fm : (s.releaseWaitExpire t).fm = s.fm := by
  unfold State.releaseWaitExpire
  split <;> simp

@[simp] theorem secureWaitExpire_fm : (s.secureWaitExpire t).fm = s.fm := by
  unfold State.secureWaitExpire
  split <;> simp

@[simp] theorem watchExpire_fm : (s.watchExpire t).fm = s.fm := by
  unfold State.watchExpire
  split <;> simp

@[simp] theorem settleTimeout_fm : (s.settleTimeout t).fm = s.fm := by
  unfold State.settleTimeout
  split <;> simp

@[simp] theorem testExpire_fm : (s.testExpire t).fm = s.fm := by
  unfold State.testExpire
  split <;> simp

@[simp] theorem tripRises_fm (i : Input) : (s.tripRises i).fm = s.fm := by
  unfold State.tripRises
  split <;> rfl

@[simp] theorem tripFalls_fm (i : Input) : (s.tripFalls i).fm = s.fm := by
  simp only [State.tripFalls]
  (repeat' split) <;> simp

/-! ### The store and start-up (R186, R191) -/

@[simp] theorem completeStore_fm (failed : BitVec 3) : (s.completeStore failed).fm = s.fm := by
  have hdone (s : State) (k : StoreKind) (b : Bool) (n : BitVec 3) : (s.storeDone k b n).fm = s.fm := by
    simp only [State.storeDone]
    split <;> simp
  unfold State.completeStore
  split
  · rfl
  all_goals exact hdone _ _ _ _

@[simp] theorem cutStore_fm : s.cutStore.fm = s.fm := by
  unfold State.cutStore
  split <;> rfl

@[simp] theorem completeStartUp_fm : s.completeStartUp.fm = s.fm := by
  unfold State.completeStartUp
  split <;> simp

/-! ### Parts of requests (R30, R36, R97, R136) -/

@[simp] theorem haltWalk_fm : (s.haltWalk t).fm = s.fm := by
  unfold State.haltWalk
  split <;> simp

@[simp] theorem resumeMove_fm (m : MoveRec) : (s.resumeMove m).fm = s.fm := by
  simp only [State.resumeMove, modTiers_fm, setStop_fm, foldl_fm _ fun s u => enter_fm s u _]

@[simp] theorem secureAtOnce_fm : (s.secureAtOnce t).fm = s.fm := by
  unfold State.secureAtOnce
  split <;> simp

@[simp] theorem completeAtOnce_fm (l : Option Tier) (a : Bool) (ts : List Tier) : (s.completeAtOnce l a ts).fm = s.fm := by
  simp only [State.completeAtOnce]
  split
  · rw [foldl_fm _ secureAtOnce_fm, foldl_fm _ fun s u => report_fm s _]
  · exact foldl_fm _ (fun s u => report_fm s _) ts s

@[simp] theorem offer_fm (e : Entry) : (s.offer e).1.fm = s.fm := by
  unfold State.offer
  split <;> rfl

@[simp] theorem queueMove_fm (a : MoveArgs) : (s.queueMove t a).1.fm = s.fm := by
  unfold State.queueMove
  split
  · exact completeAtOnce_fm s _ _ _
  · exact offer_fm s _

@[simp] theorem startWalk_fm (w : WalkRec) : (s.startWalk t w).1.fm = s.fm := by
  simp only [State.startWalk]
  (repeat' split) <;> rfl

@[simp] theorem takeProfile_fm (p : ProfileData) : (s.takeProfile t p).fm = s.fm := clearDevice_fm _ _

@[simp] theorem takeZone_fm (n : Fin 6) (z : ZoneRec) : (s.takeZone n z).fm = s.fm := clearDevice_fm _ _

@[simp] theorem convTierRemoved_fm : (s.convTierRemoved t).fm = s.fm := by
  unfold State.convTierRemoved
  split <;> simp

@[simp] theorem addTier_fm : (s.addTier t).fm = s.fm := report_fm _ _

end Frame

end Sys2Proof.Machine
end

section
/-! PROOFS. The Floor Map keeps a claim record for each tier that owns a CLAIMED cell, whatever the command (R43, R48): first
each operation of the map, then the operations of the hall that reach it, the requests, and every command. -/

namespace Sys2Proof.Machine

/-! ### The operations of the map -/

/-- Every tier that owns a CLAIMED cell of the map has a claim record (R48). -/
def Floor.Recorded (m : Floor) : Prop := ∀ (g : Cell) (t : Tier), m.at g = .claimed t → m.claims.get t ≠ none

theorem claimsRecorded_iff (s : State) : s.ClaimsRecorded ↔ s.fm.Recorded := Iff.rfl

/-- A map with no CLAIMED cell, that of every reset (R191). -/
theorem recorded_empty : Floor.Recorded ⟨Vector.replicate 256 .free, Vector.replicate 12 none⟩ := by
  intro g t h
  simp [Floor.at, Vector.get_eq_getElem] at h

/-- The map stays recorded when each cell CLAIMED after a change belongs to a tier given a record, or was CLAIMED before by a
tier whose record is left alone. -/
theorem Floor.Recorded.change {m : Floor} (h : m.Recorded) {f : Cell → CellState → CellState} {ts : List Tier}
    {c : Option ClaimRec}
    (hf : ∀ g t, f g (m.at g) = .claimed t → t ∈ ts ∧ c ≠ none ∨ t ∉ ts ∧ m.at g = .claimed t) :
    ((m.mapCells f).setClaims ts c).Recorded := by
  intro g t hg
  rw [setClaims_at, mapCells_at] at hg
  rw [setClaims_get, mapCells_claims]
  rcases hf g t hg with ⟨ht, hc⟩ | ⟨ht, hat⟩
  · rwa [if_pos ht]
  · rw [if_neg ht]
    exact h g t hat

/-- An operation that gives its tiers a record may make their cells CLAIMED. -/
theorem Floor.Recorded.record {m : Floor} (h : m.Recorded) {f : Cell → CellState → CellState} {ts : List Tier} (c : ClaimRec)
    (hf : ∀ g t, f g (m.at g) = .claimed t → t ∈ ts ∨ m.at g = .claimed t) :
    ((m.mapCells f).setClaims ts (some c)).Recorded :=
  h.change fun g t hg => by
    by_cases ht : t ∈ ts
    · exact Or.inl ⟨ht, by simp⟩
    · exact Or.inr ⟨ht, (hf g t hg).resolve_left ht⟩

/-- An operation that ends the claims of its tiers leaves them no CLAIMED cell. -/
theorem Floor.Recorded.unrecord {m : Floor} (h : m.Recorded) {f : Cell → CellState → CellState} {ts : List Tier}
    (hf : ∀ g t, f g (m.at g) = .claimed t → t ∉ ts ∧ m.at g = .claimed t) :
    ((m.mapCells f).setClaims ts none).Recorded :=
  h.change fun g t hg => Or.inr (hf g t hg)

/-- A change that makes no further cell CLAIMED keeps the map recorded. -/
theorem Floor.Recorded.mapCells {m : Floor} (h : m.Recorded) {f : Cell → CellState → CellState}
    (hf : ∀ g t, f g (m.at g) = .claimed t → m.at g = .claimed t) : (m.mapCells f).Recorded :=
  h.unrecord (ts := []) fun g t hg => ⟨List.not_mem_nil, hf g t hg⟩

/-- The owner of a cell of a gang's arc is one of its members (R61). -/
theorem gangOwner_mem {leader : Tier} {fps : List (Tier × Arc)} (hl : leader ∈ fps.map (·.1)) (g : Cell) :
    gangOwner leader fps g ∈ fps.map (·.1) := by
  unfold gangOwner
  split
  · rename_i x hx
    exact List.mem_map_of_mem (List.mem_of_find?_eq_some hx)
  · exact hl

/-- A tier found to own no CLAIMED cell owns none. -/
theorem at_ne_claimed_of_claimsAny {m : Floor} {t : Tier} (h : m.claimsAny t = false) (g : Cell) : m.at g ≠ .claimed t := by
  intro hg
  have hmem : m.at g ∈ m.cells.toList := by simp [Floor.at, Vector.get_eq_getElem]
  have hnone := List.any_eq_false.mp h (m.at g) hmem
  simp [hg] at hnone

/-- A CLAIMED cell that is not a tier's own is another tier's. -/
theorem not_mem_of_owner {m : Floor} {g : Cell} {t u : Tier} (hown : ¬ (m.at g).owner = some t) (hu : m.at g = .claimed u) :
    u ∉ [t] := by
  rw [hu, CellState.owner, Option.some.injEq] at hown
  exact fun hmem => hown (List.mem_singleton.mp hmem)

section Map

variable {m : Floor}

@[simp] theorem grant_recorded (h : m.Recorded) (t : Tier) (c : ClaimRec) : (m.grant t c).Recorded :=
  h.record c fun g u hu => by
    split at hu
    · exact Or.inl (by simpa using hu.symm)
    · exact Or.inr hu

theorem grantGang_recorded (h : m.Recorded) {leader : Tier} {fps : List (Tier × Arc)} (hl : leader ∈ fps.map (·.1))
    (c : ClaimRec) : (m.grantGang leader fps c).Recorded :=
  h.record c fun g u hu => by
    split at hu
    · exact Or.inl (CellState.claimed.inj hu ▸ gangOwner_mem hl g)
    · exact Or.inr hu

@[simp] theorem retarget_recorded (h : m.Recorded) (t : Tier) (c : ClaimRec) (e : Nat) : (m.retarget t c e).Recorded :=
  h.record _ fun g u hu => by
    split at hu
    · exact Or.inl (by simpa using hu.symm)
    · split at hu
      · cases hu
      · exact Or.inr hu

@[simp] theorem releaseTo_recorded (h : m.Recorded) (ts : List Tier) (c : ClaimRec) (i : Nat) :
    (m.releaseTo ts c i).Recorded :=
  h.record _ fun g u hu => by
    split at hu
    · cases hu
    · exact Or.inr hu

@[simp] theorem place_recorded (h : m.Recorded) (t : Tier) (a : Arc) : (m.place t a).Recorded :=
  h.unrecord fun g u hu => by
    split at hu
    · cases hu
    · split at hu
      · cases hu
      · rename_i hown
        exact ⟨not_mem_of_owner hown hu, hu⟩

@[simp] theorem freeAll_recorded (h : m.Recorded) (t : Tier) : (m.freeAll t).Recorded :=
  h.unrecord fun g u hu => by
    split at hu
    · cases hu
    · rename_i hown
      exact ⟨not_mem_of_owner hown hu, hu⟩

@[simp] theorem mark_recorded (h : m.Recorded) (t : Tier) (a : Arc) : (m.mark t a).Recorded :=
  h.mapCells fun g u hu => by
    split at hu
    · cases hu
    · exact hu

/-- The members of a gang are placed in turn: none gains a CLAIMED cell (R62). -/
theorem placeMembers_recorded (gang : List Tier) (fps : List (Tier × Arc)) (x : Floor × List Tier) (h : x.1.Recorded) :
    (fps.foldl (Floor.placeMember gang) x).1.Recorded := by
  induction fps generalizing x with
  | nil => exact h
  | cons y fps ih =>
    refine ih _ ?_
    unfold Floor.placeMember
    split
    · exact mark_recorded h y.1 y.2
    · exact h

@[simp] theorem gangTrim_recorded (h : m.Recorded) (fps : List (Tier × Arc)) : (m.gangTrim fps).1.Recorded :=
  (placeMembers_recorded _ fps (m, []) h).unrecord fun g u hu => by
    split at hu
    · rename_i o ho
      split at hu
      · cases hu
      · rename_i hnot
        cases ho.symm.trans hu
        exact ⟨by simpa using hnot, ho⟩
    · rename_i o ho
      split at hu
      · cases hu
      · cases ho.symm.trans hu
    · cases hu

/-- The records of tiers that own no CLAIMED cell may go (R165). -/
theorem setClaims_none_recorded (h : m.Recorded) {ts : List Tier} (hts : ts.any m.claimsAny = false) :
    (m.setClaims ts none).Recorded := by
  intro g t hg
  rw [setClaims_at] at hg
  have ht : t ∉ ts := fun ht => at_ne_claimed_of_claimsAny (by simpa using List.any_eq_false.mp hts t ht) g hg
  rw [setClaims_get, if_neg ht]
  exact h g t hg

end Map

end Sys2Proof.Machine
end

section
/-! PROOFS. The operations of the hall that reach the Floor Map keep it recorded (R48): the ends of moves and the stops, the
scan, the clears, the feedback, and the requests built of them. -/

namespace Sys2Proof.Machine

/-! ### One operation after another -/

theorem foldl_recorded {α : Type} (f : State → α → State) (hf : ∀ s a, s.fm.Recorded → (f s a).fm.Recorded) (l : List α)
    {s : State} (h : s.fm.Recorded) : (l.foldl f s).fm.Recorded := by
  induction l generalizing s with
  | nil => exact h
  | cons a l ih => exact ih (hf s a h)

theorem eachGang_recorded (f : State → Tier → State) (hf : ∀ s t, s.fm.Recorded → (f s t).fm.Recorded) (ts : List Tier)
    {s : State} (h : s.fm.Recorded) : (State.eachGang f ts s).fm.Recorded := by
  unfold State.eachGang
  suffices ∀ x : State × List Tier, x.1.fm.Recorded → (ts.foldl (fun acc t =>
      if acc.2.contains t then acc else (f acc.1 t, acc.2 ++ acc.1.gangOf t)) x).1.fm.Recorded from this (s, []) h
  induction ts with
  | nil => exact fun x hx => hx
  | cons t ts ih =>
    intro x hx
    refine ih _ ?_
    beta_reduce
    split
    · exact hx
    · exact hf _ _ hx

section Hall

variable {s : State} (h : s.fm.Recorded)

include h

/-! ### The end of a move, stops, and the trim at the actual position (R26, R28, R31, R56) -/

@[simp] theorem trimAll_recorded (ts : List Tier) : (s.trimAll ts).1.fm.Recorded := by
  unfold State.trimAll
  split
  · dsimp only
    split <;> simp [h]
  · simp [h]

@[simp] theorem endMove_recorded (m : MoveRec) (reason : MoveReason) (after : AfterMove) :
    (s.endMove m reason after).fm.Recorded := by
  simp only [State.endMove, foldl_fm _ fun s u => leaveMove_fm s u _ _ _, foldl_fm _ fun s u => moveEnd_fm s u _ _]
  simp [h]

@[simp] theorem finishMove_recorded (t : Tier) : (s.finishMove t).fm.Recorded := by
  simp only [State.finishMove]
  (repeat' split) <;> simp [h, foldl_fm _ fun s u => enter_fm s u _]

@[simp] theorem controlledHalt_recorded (t : Tier) (reason : MoveReason) (auto : Bool) :
    (s.controlledHalt t reason auto).fm.Recorded := by
  simp only [State.controlledHalt]
  (repeat' split) <;> simp [h]

@[simp] theorem safetyStop_recorded (reason : MoveReason) (test : Bool) (t : Tier) :
    (s.safetyStop reason test t).fm.Recorded := by
  unfold State.safetyStop
  (repeat' split) <;> simp [h]

@[simp] theorem endAtActual_recorded (m : MoveRec) (report : Bool) : (s.endAtActual m report).fm.Recorded := by
  have hcmd : (m.tiers.foldl State.cmdFromActual s).fm.Recorded := by rwa [foldl_fm _ cmdFromActual_fm]
  simp only [State.endAtActual, foldl_fm _ fun s u => leaveTrimmed_fm s u _ _]
  split <;> simp [hcmd, foldl_fm _ fun s u => moveEnd_fm s u _ _]

@[simp] theorem quickStop_recorded (t : Tier) : (s.quickStop t).fm.Recorded := by
  simp only [State.quickStop]
  (repeat' split) <;> simp [h, foldl_fm _ fun s u => moveEnd_fm s u _ _]

@[simp] theorem standstill_recorded (t : Tier) : (s.standstill t).fm.Recorded := by
  simp only [State.standstill]
  split
  · split
    · refine endAtActual_recorded ?_ _ _
      exact h
    · exact h
  · exact h

/-! ### The scan and the budget (R50, R61, R102, R107, R115) -/

@[simp] theorem grantClaim_recorded (e : Entry) : (s.grantClaim e).fm.Recorded := by
  unfold State.grantClaim
  split
  · exact h
  · exact grantGang_recorded h (by simp [Entry.tiers]) _
  · exact grant_recorded h _ _

@[simp] theorem startEntry_recorded (e : Entry) (cap : Option Nat) (alloc : Nat) (d : Bool) :
    (s.startEntry e cap alloc d).fm.Recorded := by
  have hgrant := grantClaim_recorded h e
  simp only [State.startEntry]
  split
  · simpa
  · have hmoves (x : State) (l : List (Tier × MoveRec)) :
        (l.foldl (fun s x => (s.enter x.1 .moving).startMove x.2 x.1) x).fm = x.fm := foldl_fm _ (by simp) l x
    refine finishMove_recorded ?_ _
    split <;> simpa [hmoves]

@[simp] theorem walkQueue_recorded : s.walkQueue.state.fm.Recorded := by
  have hvisit (t : Tier) (a : Scan) (ha : a.state.fm.Recorded) : (a.visit t).state.fm.Recorded := by
    unfold Scan.visit
    (repeat' split) <;> simp [ha, Scan.leave]
  unfold State.walkQueue
  split
  · exact h
  · generalize s.aa.queue.map (·.tier) = l
    suffices ∀ a : Scan, a.state.fm.Recorded → (l.foldl Scan.visit a).state.fm.Recorded from this _ h
    induction l with
    | nil => exact fun a ha => ha
    | cons t l ih => exact fun a ha => ih _ (hvisit t a ha)

@[simp] theorem scan_recorded : s.scan.fm.Recorded := by simp [State.scan, h]

@[simp] theorem dueScan_recorded : s.dueScan.fm.Recorded := by
  unfold State.dueScan
  split
  · exact h
  · exact scan_recorded h

@[simp] theorem lowerGrant_recorded (g : Grant) : (s.lowerGrant g).fm.Recorded := by
  have hremoved : ((s.removeGrant g).controlledHalt g.leader .budget false).fm.Recorded := by
    refine controlledHalt_recorded ?_ _ _ _
    exact h
  simp only [State.lowerGrant]
  (repeat' split) <;> simp [h, hremoved]

@[simp] theorem changeBudget_recorded (b : Nat) : (s.changeBudget b).fm.Recorded := by
  simp only [State.changeBudget, trigger_fm]
  split
  · exact foldl_recorded _ (fun s g hs => lowerGrant_recorded hs g) _ h
  · rwa [foldl_fm _ restoreGrant_fm]

@[simp] theorem abortConversion_recorded : s.abortConversion.fm.Recorded := by
  simp only [State.abortConversion, convCheck_fm]
  refine foldl_recorded _ (fun s t hs => controlledHalt_recorded hs t _ _) _ ?_
  rwa [foldl_fm _ convDiscard_fm, foldl_fm _ fun s e => removeEntry_fm s e _]

/-! ### Clears, fail-safe, show lock (R57, R58, R164 to R166, R171, R174) -/

theorem clearPlace_recorded {t : Tier} {x : State} (hx : s.clearPlace t = some x) : x.fm.Recorded := by
  simp only [State.clearPlace] at hx
  split at hx
  · split at hx
    · cases hx
      simp [h]
    · cases hx
  · split at hx
    · cases hx
      split
      · simp [h]
      · rename_i hnone
        exact setClaims_none_recorded (by simp [h]) (by simpa using hnone)
    · cases hx

theorem clearTier_recorded {t : Tier} {x : State} (hx : s.clearTier t = some x) : x.fm.Recorded := by
  unfold State.clearTier at hx
  split at hx
  · cases hx
  · obtain ⟨y, hy, rfl⟩ := Option.map_eq_some_iff.mp hx
    simpa using clearPlace_recorded h hy

@[simp] theorem offerClear_recorded (t : Tier) : (s.offerClear t).fm.Recorded := by
  unfold State.offerClear
  split
  · cases hx : s.clearTier t with
    | none => exact h
    | some x => exact clearTier_recorded h hx
  · exact h

@[simp] theorem enterFailsafe_recorded (c : Cause) : (s.enterFailsafe c).fm.Recorded := by
  unfold State.enterFailsafe
  split
  · exact h
  · have hstops (ts : List Tier) (x : State) (hx : x.fm.Recorded) :
        (State.eachGang (fun s t => s.safetyStop .failsafe true t) ts x).fm.Recorded :=
      eachGang_recorded _ (fun s t hs => safetyStop_recorded hs _ _ t) ts hx
    dsimp only
    split
    all_goals
      simp only [flushQueue_fm, failsafeConversion_fm, useFree_fm, report_fm]
      exact hstops _ _ h

@[simp] theorem kickWatchdog_recorded : s.kickWatchdog.fm.Recorded := by
  unfold State.kickWatchdog
  split
  · exact h
  · exact h
  · exact enterFailsafe_recorded h _

@[simp] theorem expireWatchdog_recorded : s.expireWatchdog.fm.Recorded := by
  unfold State.expireWatchdog
  split
  · exact enterFailsafe_recorded (by exact h) _
  · exact h

@[simp] theorem addShow_recorded (x : TierSet) : (s.addShow x).fm.Recorded :=
  foldl_recorded _ (fun s t hs => by simp [State.showStop, hs]) _ (by exact h)

/-! ### Intervals, feedback, trips (R52, R58, R71, R79, R156) -/

@[simp] theorem interval_recorded (t : Tier) : (s.interval t).fm.Recorded := by
  unfold State.interval
  split <;> simp [h]

@[simp] theorem synchronise_recorded (f : Feedback) : (s.synchronise f).fm.Recorded := by
  simp only [State.synchronise]
  split
  · split <;> simp [h]
  · simp [h]

@[simp] theorem trailingRelease_recorded (f : Feedback) : (s.trailingRelease f).fm.Recorded := by
  simp only [State.trailingRelease]
  (repeat' split) <;> simp [h]

@[simp] theorem brakeStep_recorded (f : Feedback) : (s.brakeStep f).fm.Recorded := by
  have hwatched (b : Bool) (n : Nat) : ((s.brakeWatch f.tier b n).standstill f.tier).fm.Recorded := by
    refine standstill_recorded ?_ _
    exact h
  simp only [State.brakeStep]
  (repeat' split) <;> simp [h, hwatched]

@[simp] theorem handOn_recorded (f : Feedback) : (s.handOn f).fm.Recorded := by simp [State.handOn, h]

@[simp] theorem acceptFeedback_recorded (f : Feedback) : (s.acceptFeedback f).fm.Recorded := by
  simp only [State.acceptFeedback]
  split
  · split
    · refine handOn_recorded (synchronise_recorded ?_ f) f
      exact h
    · exact h
  · refine handOn_recorded ?_ f
    exact h

@[simp] theorem completeRecord_recorded (bs : List Byte) : (s.completeRecord bs).fm.Recorded := by
  unfold State.completeRecord State.testFeedback
  (repeat' split) <;> simp [h]

@[simp] theorem driveBytes_recorded (bs : List Byte) : (s.driveBytes bs).fm.Recorded := by
  refine foldl_recorded _ (fun s b hs => ?_) bs h
  unfold State.driveByte
  split
  · split <;> exact hs
  · split
    · exact hs
    · refine completeRecord_recorded ?_ _
      exact hs

@[simp] theorem tripApply_recorded (i : Input) : (s.tripApply i).fm.Recorded := by
  unfold State.tripApply
  split
  · exact h
  · dsimp only
    rw [reportAll_fm, State.tripStop, report_fm]
    exact eachGang_recorded _ (fun s t hs => quickStop_recorded hs t) _ (by exact h)

end Hall

end Sys2Proof.Machine
end

section
/-! PROOFS. Every request, every frame and every command keeps the Floor Map recorded (R43, R48). -/

namespace Sys2Proof.Machine

section Requests

variable {s : State} (h : s.fm.Recorded)

include h

/-! ### Requests to tiers (R34 to R39) -/

theorem withTier_recorded (b : Byte) {k : Tier → Answer} (hk : ∀ t, (k t).1.fm.Recorded) :
    (s.withTier b k).1.fm.Recorded := by
  unfold State.withTier
  split
  · exact h
  · exact hk _

theorem withInstalled_recorded (b : Byte) {k : Tier → Answer} (hk : ∀ t, (k t).1.fm.Recorded) :
    (s.withInstalled b k).1.fm.Recorded :=
  withTier_recorded h b fun t => by
    split
    · exact hk t
    · exact h

theorem secure_recorded (t : Tier) : (s.secure t).fm.Recorded := by
  simp only [State.secure]
  (repeat' split) <;> simp [h]

theorem halt_recorded (t : Tier) : (s.halt t).fm.Recorded := by
  simp only [State.halt]
  split <;> simp [h]

theorem servePause_recorded (b : Byte) : (s.servePause b).1.fm.Recorded :=
  withInstalled_recorded h b fun t => by
    have hpause (m : MoveRec) : (s.pauseMove t m).1.fm.Recorded := by
      unfold State.pauseMove
      (repeat' split) <;> simp [h, State.refuse]
    (repeat' split) <;> simp [h, hpause, State.refuse]

theorem serveResume_recorded (b : Byte) : (s.serveResume b).1.fm.Recorded :=
  withInstalled_recorded h b fun t => by (repeat' split) <;> simp [h, State.refuse]

@[simp] theorem takeRetarget_recorded (t : Tier) (m : MoveRec) (c : ClaimRec) (x : Slew) (r : Nat) (a : Bool) :
    (s.takeRetarget t m c x r a).fm.Recorded := by
  simp [State.takeRetarget, h]

theorem retargetMove_recorded (t : Tier) (m : MoveRec) (a : MoveArgs) : (s.retargetMove t m a).1.fm.Recorded := by
  simp only [State.retargetMove]
  (repeat' split) <;> simp [h, State.refuse]

theorem serveMove_recorded (b : Byte) (a : MoveArgs) : (s.serveMove b a).1.fm.Recorded := by
  unfold State.serveMove
  split
  · exact withInstalled_recorded h b fun t => by
      (repeat' split) <;> simp [h, retargetMove_recorded, State.refuse]
  · exact h

theorem serveGangMove_recorded (n t0 t1 t2 t3 : Byte) (a : MoveArgs) :
    (s.serveGangMove n t0 t1 t2 t3 a).1.fm.Recorded := by
  have hoffer (n : Nat) (ts : List Tier) : (s.gangOffer n ts a).1.fm.Recorded := by
    simp only [State.gangOffer]
    (repeat' split) <;> simp [h, State.refuse]
  unfold State.serveGangMove
  split
  · exact h
  · exact hoffer _ _

theorem serveRoute_recorded (b st run : Byte) (auto maint : Bool) : (s.serveRoute b st run auto maint).1.fm.Recorded :=
  withInstalled_recorded h b fun t => by (repeat' split) <;> simp [h, State.refuse]

theorem serveRoutePut_recorded (b w : Byte) (x : Option WaypointMsg) : (s.serveRoutePut b w x).1.fm.Recorded := by
  unfold State.serveRoutePut
  (repeat' split) <;> exact h

/-! ### The hall's requests (R112, R119, R128, R145, R164, R166, R171 to R176) -/

theorem serveConvert_recorded (b : Byte) : (s.serveConvert b).1.fm.Recorded := by
  unfold State.serveConvert State.convertLayout
  (repeat' split) <;> simp [h, State.refuse]

theorem serveConvertAbort_recorded : s.serveConvertAbort.1.fm.Recorded := by
  unfold State.serveConvertAbort
  split <;> simp [h]

theorem serveTest_recorded (b : Byte) : (s.serveTest b).1.fm.Recorded :=
  withInstalled_recorded h b fun t => by (repeat' split) <;> simp [h, State.refuse]

theorem serveClearFailsafe_recorded : s.serveClearFailsafe.1.fm.Recorded := by
  unfold State.serveClearFailsafe
  split <;> simp [h]

theorem serveClear_recorded (b : Byte) : (s.serveClear b).1.fm.Recorded :=
  withInstalled_recorded h b fun t => by
    split
    · split
      · exact clearTier_recorded h ‹_›
      · exact h
    · exact h

theorem serveClearAll_recorded : s.serveClearAll.1.fm.Recorded := by
  have hwalk := foldl_recorded _ (fun s t hs => offerClear_recorded hs t) s.installedTiers
    (s := s.clearDevice .store) (by simpa)
  simp only [State.serveClearAll]
  split <;> exact hwalk

theorem serveShowLock_recorded (x : BitVec 16) : (s.serveShowLock x).1.fm.Recorded := by
  unfold State.serveShowLock
  split <;> simp [h, State.refuse]

/-! ### Settings, the store and RESTART (R11, R16, R75, R184, R187 to R192) -/

theorem servePutProfile_recorded (b : Byte) (p : ProfileData) : (s.servePutProfile b p).1.fm.Recorded :=
  withTier_recorded h b fun t => by
    have hremark {x : State} (hx : s.remark t (profileClamped p) = some x) : x.fm.Recorded := by
      simp only [State.remark] at hx
      split at hx
      · cases hx
        simp [h]
      · cases hx
    simp only [State.putProfile]
    (repeat' split) <;> simp [State.refuse, *]

theorem removeTier_recorded (t : Tier) : (s.removeTier t).fm.Recorded := by
  simp only [State.removeTier]
  split <;> simp [h]

theorem serveSite_recorded (m : SiteMsg) : (s.serveSite m).1.fm.Recorded := by
  have htake (x : Site) : (s.takeSite x).fm.Recorded := by
    simp only [State.takeSite, trigger_fm, foldl_fm _ addTier_fm]
    exact foldl_recorded _ (fun s t hs => removeTier_recorded hs t) _ h
  unfold State.serveSite
  (repeat' split) <;> simp [h, htake, State.refuse]

theorem servePutZone_recorded (b : Byte) (z : ZoneMsg) : (s.servePutZone b z).1.fm.Recorded := by
  unfold State.servePutZone
  (repeat' split) <;> simp [h, State.refuse]

/-! ### Every request and every frame (R179, R180) -/

theorem serve_recorded (r : Request) : (s.serve r).1.fm.Recorded := by
  have hkept {x : State} (hx : x.fm = s.fm) : x.fm.Recorded := hx ▸ h
  cases r with
  | release b => exact withInstalled_recorded h b fun t => by simpa
  | secure b => exact withInstalled_recorded h b fun t => secure_recorded h t
  | secureAll => exact eachGang_recorded _ (fun s t hs => secure_recorded hs t) _ h
  | move b a => exact serveMove_recorded h b a
  | gangMove n t0 t1 t2 t3 a => exact serveGangMove_recorded h n t0 t1 t2 t3 a
  | halt b => exact withInstalled_recorded h b fun t => halt_recorded h t
  | haltAll => exact eachGang_recorded _ (fun s t hs => halt_recorded hs t) _ h
  | pause b => exact servePause_recorded h b
  | resume b => exact serveResume_recorded h b
  | route b st run auto maint => exact serveRoute_recorded h b st run auto maint
  | routePut b w x => exact serveRoutePut_recorded h b w x
  | convert b => exact serveConvert_recorded h b
  | convertAbort => exact serveConvertAbort_recorded h
  | setBudget n => exact changeBudget_recorded h _
  | sampleLoad b => exact withInstalled_recorded h b fun t => by simpa
  | brakeTest b => exact serveTest_recorded h b
  | forceFailsafe => exact enterFailsafe_recorded h _
  | clearFailsafe => exact serveClearFailsafe_recorded h
  | clearFaults b => exact serveClear_recorded h b
  | clearFaultsAll => exact serveClearAll_recorded h
  | showLock x => exact serveShowLock_recorded h x
  | releaseShow x => exact hkept (by simp only [State.serve, State.serveReleaseShow]; (repeat' split) <;> rfl)
  | lock g => exact hkept (by simp only [State.serve, State.serveLock]; split <;> rfl)
  | unlock g => exact hkept (by simp only [State.serve, State.serveUnlock]; (repeat' split) <;> rfl)
  | siteSet m => exact serveSite_recorded h m
  | profilePut b p => exact servePutProfile_recorded h b p
  | profileGet b => exact hkept (congrArg State.fm (query_fst s b 0 0).2.2.2.2.1)
  | zonePut b z => exact servePutZone_recorded h b z
  | zoneGet b => exact hkept (congrArg State.fm (query_fst s b 0 0).2.2.2.2.2.1)
  | saveSettings => exact hkept (by simp only [State.serve, State.serveSave]; (repeat' split) <;> rfl)
  | layoutErase b => exact hkept (by simp only [State.serve, State.serveErase]; (repeat' split) <;> rfl)
  | layoutWrite b l => exact hkept (by simp only [State.serve, State.serveWrite]; (repeat' split) <;> rfl)
  | layoutRead b => exact hkept (congrArg State.fm (query_fst s b 0 0).2.2.2.2.2.2)
  | protectLayouts n => exact hkept (by simp only [State.serve, State.serveProtect]; (repeat' split) <;> rfl)
  | queryStatus => exact h
  | queryTier b => exact hkept (congrArg State.fm (query_fst s b 0 0).1)
  | queryMap f c => exact hkept (congrArg State.fm (query_fst s 0 f c).2.1)
  | queryQueue => exact h
  | queryGrants => exact h
  | restart => exact hkept (by simp only [State.serve, State.serveRestart]; split <;> rfl)

theorem answer_recorded (tag kind : Byte) (r : Request) : (s.answer tag kind r).fm.Recorded := serve_recorded h r

theorem handle_recorded (f : Frame) : (s.handle f).fm.Recorded := by
  unfold State.handle
  split
  · exact h
  · exact answer_recorded h _ _ _

theorem request_recorded (tag : Byte) (r : Request) : (s.request tag r).fm.Recorded := by
  unfold State.request
  split
  · exact h
  · split
    · exact answer_recorded h _ _ _
    · split <;> exact h

theorem completeFrame_recorded (f : Frame) : (s.completeFrame f).fm.Recorded := by
  unfold State.completeFrame
  split
  · exact h
  · split
    · exact handle_recorded (kickWatchdog_recorded h) f
    · split
      · exact kickWatchdog_recorded h
      · exact h

theorem linkBytesIn_recorded (bs : List Byte) : (s.linkBytesIn bs).fm.Recorded := by
  refine foldl_recorded _ (fun s b hs => ?_) bs h
  unfold State.linkByte
  split
  case h_7 =>
    dsimp only
    split
    · refine completeFrame_recorded ?_ _
      exact hs
    · exact hs
  case h_1 => split <;> exact hs
  all_goals exact hs

theorem replySent_recorded : s.replySent.fm.Recorded := by
  have htake {x : State} (hx : x.fm.Recorded) : x.takeHeld.fm.Recorded := by
    unfold State.takeHeld
    split
    · exact hx
    · split
      · refine handle_recorded ?_ _
        exact hx
      · exact hx
  unfold State.replySent
  split
  · dsimp only
    split
    · exact h
    · refine htake ?_
      exact h
  · exact h

end Requests

/-! ### Every command -/

/-- A row that carries a request is that request where its frame is handled; CLEAR-FAULTS of FFh is that of all (log 30). -/
theorem exec_of_carried {i : Instr} {tag : Byte} {r : Request} (hi : i.carried = some (tag, r)) (s : State) :
    ∃ q, exec i s = s.during fun x => x.request tag q := by
  cases i <;> cases hi <;> exact ⟨_, rfl⟩

section Commands

variable {s s' : State} (h : s.fm.Recorded)

include h

theorem during_recorded {f : State → State} (hf : (f s).fm.Recorded) (e : s.during f = .next s') : s'.fm.Recorded := by
  unfold State.during at e
  cases e
  split
  · exact hf
  · exact h

theorem duringDrive_recorded {f : State → State} (hf : (f s).fm.Recorded) (e : s.duringDrive f = .next s') :
    s'.fm.Recorded := by
  unfold State.duringDrive at e
  split at e
  · cases e
    exact hf
  · exact during_recorded h hf e

/-- An event of an input moves its pin and level, and the map stays. -/
theorem pin_recorded {p : Prop} [Decidable p] {x y : State} {f : State → State} (hx : x.fm = s.fm) (hy : y.fm = s.fm)
    (hf : (f x).fm = x.fm) (e : (if p then .next y else x.during f) = .next s') : s'.fm.Recorded := by
  split at e
  · cases e
    rwa [hy]
  · exact during_recorded (by rwa [hx]) (by rwa [hf, hx]) e

theorem exec_recorded (i : Instr) (e : exec i s = .next s') : s'.fm.Recorded := by
  cases hi : i.carried with
  | some x =>
    obtain ⟨q, hq⟩ := exec_of_carried (tag := x.1) (r := x.2) hi s
    exact during_recorded h (request_recorded h x.1 q) (hq ▸ e)
  | none =>
    cases i
    case powerOn =>
      cases e
      unfold State.powerOn
      dsimp only
      split <;> exact recorded_empty
    case resetLineLow =>
      cases e
      unfold State.resetFalls
      dsimp only
      split
      · exact h
      · exact recorded_empty
    case resetLineRisingEdge =>
      cases e
      unfold State.resetRises
      dsimp only
      split
      · exact recorded_empty
      · exact h
    case startupComplete =>
      cases e
      unfold State.kickIfRunning
      split <;> simpa [State.kick]
    case restartStartup =>
      cases e
      split
      · exact recorded_empty
      · exact h
    case lossOfPower =>
      cases e
      exact recorded_empty
    case validFrame bs => exact during_recorded h (f := fun x => x.linkBytesIn bs) (linkBytesIn_recorded h bs) e
    case commandLinkGapTimeout => exact during_recorded h (f := State.dropFrame) h e
    case commandLinkStopBitError => exact during_recorded h (f := State.dropFrame) h e
    case lengthByteAbove248 =>
      exact during_recorded h (f := State.badLength) (by unfold State.badLength; split <;> exact h) e
    case replySent => exact during_recorded h (f := State.replySent) (replySent_recorded h) e
    case reportSent => exact during_recorded h (f := State.reportSent) (by unfold State.reportSent; split <;> exact h) e
    case setpointInterval t =>
      exact during_recorded h (f := fun x => if x.installed t then x.interval t else x) (by split <;> simp [h]) e
    case setpointRecordSent => exact during_recorded h (f := State.recordSent) (by simpa) e
    case feedbackRecord bs => exact duringDrive_recorded h (f := fun x => x.driveBytes bs) (driveBytes_recorded h bs) e
    case feedbackGapTimeout => exact duringDrive_recorded h (f := fun x => x.setDriveFramer .hunting) h e
    case driveLinkStopBitError => exact duringDrive_recorded h (f := fun x => x.setDriveFramer .hunting) h e
    case feedbackTimerExpiry t => exact during_recorded h (f := fun x => x.feedbackExpire t) (by simpa) e
    case releaseWaitExpiry t => exact during_recorded h (f := fun x => x.releaseWaitExpire t) (by simpa) e
    case secureWaitExpiry t => exact during_recorded h (f := fun x => x.secureWaitExpire t) (by simpa) e
    case watchExpiry t => exact during_recorded h (f := fun x => x.watchExpire t) (by simpa) e
    case settleTimerExpiry t => exact during_recorded h (f := fun x => x.settleTimeout t) (by simpa) e
    case testTimerExpiry t => exact during_recorded h (f := fun x => x.testExpire t) (by simpa) e
    case tripActiveEdge i =>
      exact pin_recorded h (x := s.setTripPin i true) (y := (s.setTripPin i true).setLevel i true)
        (f := fun x => x.tripRises i) rfl rfl (tripRises_fm _ i) e
    case tripInactiveEdge i =>
      exact pin_recorded h (x := s.setTripPin i false) (y := (s.setTripPin i false).setLevel i false)
        (f := fun x => x.tripFalls i) rfl rfl (tripFalls_fm _ i) e
    case keyChange b =>
      exact pin_recorded h (x := s.setKeyPin b) (y := (s.setKeyPin b).setKey b) (f := fun x => x.setKey b) rfl rfl rfl e
    case tripApplication i => exact during_recorded h (f := fun x => x.tripApply i) (tripApply_recorded h i) e
    case admissionScan => exact during_recorded h (f := State.dueScan) (dueScan_recorded h) e
    case loadConversionComplete n => exact during_recorded h (f := fun x => x.completeConversion n.toNat) (by simpa) e
    case freshnessTimerExpiry t => exact during_recorded h (f := fun x => x.expireFreshness t) (by simpa) e
    case storeOperationComplete failed => exact during_recorded h (f := fun x => x.completeStore failed) (by simpa) e
    case watchdogExpiry => exact during_recorded h (f := State.expireWatchdog) (expireWatchdog_recorded h) e
    all_goals cases hi

end Commands

/-- Settles O8: the map is recorded after every operation of the FM, so after every command; a step is its front command. -/
theorem claimsRecordedKept : Obligations.ClaimsRecordedKept := by
  intro s s' h e
  unfold step at e
  split at e
  · cases e
    exact h
  case h_2 c rest _ => exact exec_recorded (s := s.withPending rest) h c e

end Sys2Proof.Machine
end

section
/-! PROOFS. The invariants at reset (R48, R95, R96, R179, R181, R182), and the reply of QUERY-MAP (R63). -/

namespace Sys2Proof.Machine

/-- Settles O9: at reset every list of the port and of the arbiter is empty, and the map is FREE. -/
theorem invariantsAtReset : Obligations.InvariantsAtReset := by
  refine ⟨?_, ⟨Nat.zero_le 8, List.Pairwise.nil, Nat.zero_le 0⟩, recorded_empty⟩
  simp [State.LinkBounds, State.reset, LinkPort.reset]

/-- A list of pairs laid out byte after byte has the pair of number `i` at the bytes 2i and 2i + 1. -/
theorem flatten_pairs_getD (a b : Nat → Byte) {n i : Nat} (hi : i < n) :
    ((List.range n).map fun k => [a k, b k]).flatten.getD (2 * i) 0 = a i ∧
      ((List.range n).map fun k => [a k, b k]).flatten.getD (2 * i + 1) 0 = b i := by
  induction n with
  | zero => omega
  | succ n ih =>
    have hlen : ((List.range n).map fun k => [a k, b k]).flatten.length = 2 * n := by
      simp [List.length_flatten, Function.comp_def, Nat.mul_comm]
    rw [List.range_succ, List.map_append, List.flatten_append]
    rcases Nat.lt_succ_iff_lt_or_eq.mp hi with hlt | rfl
    · rw [List.getD_append _ _ _ _ (by omega), List.getD_append _ _ _ _ (by omega)]
      exact ih hlt
    · rw [List.getD_append_right _ _ _ _ (by omega), List.getD_append_right _ _ _ _ (by omega), hlen]
      simp

theorem mapEntries_length (s : State) (first : Cell) (n : Nat) : (s.mapEntries first n).length = 2 * n := by
  simp [State.mapEntries, List.length_flatten, Function.comp_def, Nat.mul_comm]

/-- The entry of number `i`: its cell number, CW from the first cell and past 255 to 0, and its state byte (R63). -/
theorem mapEntries_getD (s : State) (first : Cell) {n i : Nat} (hi : i < n) :
    (s.mapEntries first n).getD (2 * i) 0 = first + BitVec.ofNat 8 i ∧
      (s.mapEntries first n).getD (2 * i + 1) 0 = (s.fm.at (first + BitVec.ofNat 8 i)).byte :=
  flatten_pairs_getD (fun k => first + BitVec.ofNat 8 k) (fun k => (s.fm.at (first + BitVec.ofNat 8 k)).byte) hi

theorem serveMap_range {s : State} {first count : Byte} (h : count = 0 ∨ 64 < count.toNat) :
    s.serveMap first count = s.refuse .range := if_pos h

theorem serveMap_answers {s : State} {first count : Byte} (h0 : 0 < count.toNat) (h64 : count.toNat ≤ 64) :
    s.serveMap first count = (s, .ok, [first, count] ++ s.mapEntries first count.toNat) := by
  refine if_neg ?_
  rintro (rfl | h)
  · exact absurd h0 (by decide)
  · omega

/-- Settles O39: the reply is the first cell, the count and the entries, two bytes each. -/
theorem queryMapAnswers : Obligations.QueryMapAnswers := by
  intro tag first count s h
  refine ⟨fun hr => request_same (r := .queryMap first count) h (serveMap_range hr) (by decide), fun h0 h64 => ?_⟩
  refine ⟨[first, count] ++ s.mapEntries first count.toNat, ?_, rfl, fun i hi => ?_,
    request_same (r := .queryMap first count) h (serveMap_answers h0 h64) (by decide)⟩
  · rw [List.length_append, mapEntries_length]
    rfl
  · obtain ⟨hcell, hstate⟩ := mapEntries_getD s first hi
    rw [List.getD_append_right _ _ _ _ (by simp), List.getD_append_right _ _ _ _ (by simp; omega)]
    have h2 : 2 + 2 * i - [first, count].length = 2 * i := by simp
    have h3 : 3 + 2 * i - [first, count].length = 2 * i + 1 := by simp; omega
    rw [h2, h3, hcell, hstate]
    exact ⟨rfl, rfl⟩

end Sys2Proof.Machine
end

section
/-! PROOFS. CLEAR-FAULTS of one tier and of all (R57, R58, R164, R166, R167). -/

namespace Sys2Proof.Machine

/-! ### The clear of one tier (R57, R58, R164) -/

section Clear

variable {s : State} {t : Tier} {p : Pos} {f : Feedback}

/-- The record of a tier that a clear leaves at a position, in a state with its brake timer (R164). -/
def TierRec.cleared (r : TierRec) (q : Pos) (x : TierState) (timer : BrakeTimer) : TierRec :=
  { r with state := x, brakeTimer := timer, cmd := some q, fault := ⟨0, none⟩, stop := .none, stoodStill := false }

/-- Where a clear puts a tier: at its actual position, the tilt within the profile maximum (R4, R57). -/
def State.clearPos (s : State) (t : Tier) (p : Pos) : Pos := ⟨p.slew, min p.tilt (s.prof t).tiltMax⟩

/-- The footprint that a clear places or marks (R57, R58). -/
def State.clearArc (s : State) (t : Tier) (p : Pos) : Arc :=
  footprint (s.prof t) p.slew (tiltBand (min p.tilt (s.prof t).tiltMax))

/-- The state with a tier's commanded position where a clear puts it (R57). -/
def State.repositioned (s : State) (t : Tier) (p : Pos) : State := s.modTier t fun r => { r with cmd := some (s.clearPos t p) }

theorem cmdFromActual_eq (ha : (s.tier t).act = some p) : s.cmdFromActual t = s.repositioned t p :=
  modTier_congr (by rw [ha]; rfl)

theorem repositioned_standing : (s.repositioned t p).standing t = s.clearArc t p := standing_modTier s t _

/-- A tier without a move has no mates (R165). -/
theorem faultedMates_of_no_move (h : (s.tier t).move = none) : s.faultedMates t = [] := by
  simp [State.faultedMates, h]

/-- A tier with MAP-CONFLICT is marked where every cell is FREE, and its clear refused otherwise (R58). -/
theorem clearPlace_conflict (ha : (s.tier t).act = some p) (hc : (s.tier t).fault.latched.getLsbD 7 = true) :
    s.clearPlace t =
      if s.fm.allFree (s.clearArc t p) then some ((s.repositioned t p).modFloor fun m => m.mark t (s.clearArc t p))
      else none := by
  have hcarries : s.carriesConflict t = true := hc
  simp only [State.clearPlace, hcarries, if_true, cmdFromActual_eq ha, repositioned_standing]
  rfl

/-- A tier without MAP-CONFLICT is placed where its footprint can be, and its clear refused otherwise (R57). -/
theorem clearPlace_placement (hmove : (s.tier t).move = none) (ha : (s.tier t).act = some p)
    (hc : (s.tier t).fault.latched.getLsbD 7 = false) :
    s.clearPlace t =
      if s.fm.canPlace t [] (s.clearArc t p) then
        some ((s.repositioned t p).modFloor fun m => m.place t (s.clearArc t p)).trigger
      else none := by
  have hcarries : s.carriesConflict t = false := hc
  simp only [State.clearPlace, hcarries, Bool.false_eq_true, if_false, cmdFromActual_eq ha, repositioned_standing,
    faultedMates_of_no_move hmove, List.any_nil]
  rfl

/-- A clear is refused while a latched kind is active, and where its placement fails (R57, R164). -/
theorem clearTier_of_active (h : (s.tier t).fault.latched &&& s.conditions t ≠ 0) : s.clearTier t = none := if_pos h

theorem clearTier_of_unplaced (h : s.clearPlace t = none) : s.clearTier t = none := by
  simp [State.clearTier, h]

/-- The record of a tier whose clear has been taken, before it enters its state (R164). -/
def TierRec.emptied (r : TierRec) : TierRec := { r with fault := ⟨0, none⟩, move := none, stop := .none, stoodStill := false }

/-- The rest of a clear: the record empty, its report, and the state that the latest feedback's brakes give (R164). -/
theorem clearTaken_eq (hr : s.Room 1) (hl : (s.link t).last = some f) :
    s.clearTaken t = State.trigger (if f.brake = .set
      then ((s.modTier t TierRec.emptied).told [.faultCleared t (s.tier t).fault.latched]).enterSecured t
      else ((s.modTier t TierRec.emptied).told [.faultCleared t (s.tier t).fault.latched]).enterSecuring t) := by
  rw [← report_eq_told (by exact hr)]
  by_cases hset : f.brake = .set
  · rw [if_pos hset]
    exact congrArg State.trigger (if_pos (by simp [hl, hset]))
  · rw [if_neg hset]
    exact congrArg State.trigger (if_neg (by simp [hl, hset]))

section Taken

variable (hr : s.Room 2) (hl : (s.link t).last = some f)

include hr hl

/-- A clear with SET brakes leaves its tier SECURED, two scan triggers (R23, R101, R164). -/
theorem clearTaken_secured (hc : s.convActive = false) (hset : f.brake = .set) :
    s.clearTaken t = ((s.triggers 2).modTier t fun r =>
      { r.emptied with state := .secured, brakeTimer := .stopped }).told
        [.faultCleared t (s.tier t).fault.latched, .tierState t .secured] := by
  rw [clearTaken_eq (room_mono hr (by decide)) hl, if_pos hset, enterSecured_eq ((told_room _ _ _).mpr hr) (by exact hc)]
  simp only [told_trigger, told_modTier, told_told, modTier_trigger, modTier_modTier]
  rfl

/-- A clear whose brakes are not SET leaves its tier SECURING, one scan trigger (R23, R164). -/
theorem clearTaken_securing (hset : f.brake ≠ .set) :
    s.clearTaken t = ((s.triggers 1).modTier t fun r =>
      { r.emptied with state := .securing, brakeTimer := .secureWait (s.prof t).secureTimeout }).told
        [.faultCleared t (s.tier t).fault.latched, .tierState t .securing] := by
  rw [clearTaken_eq (room_mono hr (by decide)) hl, if_neg hset, enterSecuring_eq ((told_room _ _ _).mpr hr),
    told_modTier, told_told, modTier_modTier, told_trigger]
  rfl

end Taken

/-- What a clear leaves of the record of a tier without a move, the changes of its placement and of its state put together. -/
theorem cleared_eq {g : Floor → Floor} {n : Nat} (hmove : (s.tier t).move = none) (k : Nat) (x : TierState) (timer : BrakeTimer) :
    ((((s.repositioned t p).modFloor g).triggers n).triggers k).modTier t
        (fun r => { r.emptied with state := x, brakeTimer := timer }) =
      ((s.modFloor g).triggers (n + k)).modTier t fun r => r.cleared (s.clearPos t p) x timer := by
  have htriggers : ((s.modFloor g).triggers n).triggers k = (s.modFloor g).triggers (n + k) := by
    simp [State.triggers, Nat.add_assoc]
  rw [← htriggers]
  refine (modTier_modTier (((s.modFloor g).triggers n).triggers k) t (fun r => { r with cmd := some (s.clearPos t p) }) _).trans
    (modTier_congr ?_)
  have hstill : ((((s.modFloor g).triggers n).triggers k).tier t).move = none := hmove
  simp [TierRec.cleared, TierRec.emptied, hstill]

theorem repositioned_latched : ((s.repositioned t p).tier t).fault.latched = (s.tier t).fault.latched := by
  simp [State.repositioned]

section Place

variable {g : Floor → Floor} {n : Nat} (hmove : (s.tier t).move = none)
  (hidle : (s.tier t).fault.latched &&& s.conditions t = 0) (hl : (s.link t).last = some f) (hr : s.Room 2)
  (hplace : s.clearPlace t = some (((s.repositioned t p).modFloor g).triggers n))

include hmove hidle hl hr hplace

/-- A clear whose placement changes the map by `g` with `n` scan triggers, on a tier with SET brakes (R57, R58, R164). -/
theorem clearTier_secured (hc : s.convActive = false) (hset : f.brake = .set) :
    s.clearTier t = some ((((s.modFloor g).triggers (n + 2)).modTier t fun r =>
      r.cleared (s.clearPos t p) .secured .stopped).told
        [.faultCleared t (s.tier t).fault.latched, .tierState t .secured]) := by
  have htaken := clearTaken_secured (s := ((s.repositioned t p).modFloor g).triggers n) (t := t) hr hl hc hset
  have hlatched : ((((s.repositioned t p).modFloor g).triggers n).tier t).fault.latched = (s.tier t).fault.latched :=
    repositioned_latched
  rw [cleared_eq hmove, hlatched] at htaken
  rw [State.clearTier, if_neg (by simp [hidle]), hplace, Option.map_some, htaken]

/-- A clear of a tier whose brakes are not SET (R57, R58, R164). -/
theorem clearTier_securing (hset : f.brake ≠ .set) :
    s.clearTier t = some ((((s.modFloor g).triggers (n + 1)).modTier t fun r =>
      r.cleared (s.clearPos t p) .securing (.secureWait (s.prof t).secureTimeout)).told
        [.faultCleared t (s.tier t).fault.latched, .tierState t .securing]) := by
  have htaken := clearTaken_securing (s := ((s.repositioned t p).modFloor g).triggers n) (t := t) hr hl hset
  have hlatched : ((((s.repositioned t p).modFloor g).triggers n).tier t).fault.latched = (s.tier t).fault.latched :=
    repositioned_latched
  rw [cleared_eq hmove, hlatched] at htaken
  rw [State.clearTier, if_neg (by simp [hidle]), hplace, Option.map_some, htaken]
  rfl

end Place

/-! ### The requests (R164, R166, R167) -/

section Requests

variable {tag b : Byte} (h : s.Handles) (hn : s.Names b t) (hst : (s.tier t).state = .faulted)

include h hn hst

theorem clearFaults_refused (hclear : s.clearTier t = none) :
    exec (.clearFaults tag b) s = .next (s.replied tag 0xA2 .active [] []) := by
  have hserve : s.serveClear b = s.refuse .active := by
    rw [State.serveClear, withInstalled_of_names hn, if_pos hst, hclear]
  rw [exec_clearFaults tag hn]
  exact request_same h hserve (by decide)

theorem clearFaults_taken {y : State} {rs : List Report} (hclear : s.clearTier t = some (y.told rs)) (hp : y.clp = s.clp) :
    exec (.clearFaults tag b) s = .next (y.replied tag 0xA2 .ok [] rs) := by
  have hserve : s.serveClear b = (y.told rs, .ok, []) := by
    rw [State.serveClear, withInstalled_of_names hn, if_pos hst, hclear]
    rfl
  rw [exec_clearFaults tag hn]
  exact request_next h hserve (by decide) hp

end Requests

end Clear

/-- A walk over tiers none of which its step changes leaves the state (R166). -/
theorem foldl_offerClear_of_none {s : State} {ts : List Tier}
    (h : ∀ t ∈ ts, (s.tier t).state = .faulted → s.clearTier t = none) : ts.foldl State.offerClear s = s := by
  have hoffer : ∀ t ∈ ts, s.offerClear t = s := fun t ht => by
    unfold State.offerClear
    split
    case isTrue hst => rw [h t ht hst, Option.getD_none]
    case isFalse => rfl
  induction ts with
  | nil => rfl
  | cons t ts ih =>
    rw [List.foldl_cons, hoffer t List.mem_cons_self]
    exact ih (fun u hu => h u (List.mem_cons_of_mem _ hu)) fun u hu => hoffer u (List.mem_cons_of_mem _ hu)

/-- Some installed tier is FAULTED (R166). -/
theorem any_faulted_iff {s : State} : s.installedTiers.any (fun t => decide ((s.tier t).state = .faulted)) = true ↔
    ∃ t, s.installed t = true ∧ (s.tier t).state = .faulted := by
  simp [List.any_eq_true, mem_installedTiers]

/-- CLEAR-FAULTS of all where the walk clears no tier: ACTIVE when a tier is left FAULTED (R166). -/
theorem serveClearAll_of_walk {s : State}
    (h : s.installedTiers.foldl State.offerClear (s.clearDevice .store) = s.clearDevice .store) :
    s.serveClearAll = (s.clearDevice .store, if (s.clearDevice .store).installedTiers.any
      (fun t => decide (((s.clearDevice .store).tier t).state = .faulted)) then .active else .ok, []) := by
  simp only [State.serveClearAll, h]
  split <;> rfl

/-- Settles O28: the clear of one tier by its placement and its brakes, and the walk over all tiers that clears none. -/
theorem clearFaults : Obligations.ClearFaults := by
  unfold Obligations.ClearFaults
  refine ⟨?one, fun tag s h hroom => ⟨fun hwell hstore => ?store, fun hstore hactive => ?walk⟩⟩
  case one =>
    rintro tag b t p f a s h hroom hn hst hmove hact hlast hc rfl
    have hmark (hconf : (s.tier t).fault.latched.getLsbD 7 = true) (hfree : s.fm.allFree (s.clearArc t p) = true) :
        s.clearPlace t = some (((s.repositioned t p).modFloor fun m => m.mark t (s.clearArc t p)).triggers 0) :=
      (clearPlace_conflict hact hconf).trans (if_pos hfree)
    have hplace (hconf : (s.tier t).fault.latched.getLsbD 7 = false) (hp : s.fm.canPlace t [] (s.clearArc t p) = true) :
        s.clearPlace t = some (((s.repositioned t p).modFloor fun m => m.place t (s.clearArc t p)).triggers 1) :=
      (clearPlace_placement hmove hact hconf).trans (if_pos hp)
    refine ⟨fun hactive => ?_, fun hconf hfree => ?_, fun hconf hidle hfree hset => ?_, fun hconf hp => ?_,
      fun hconf hidle hp hset => ?_, fun hconf hidle hp hset => ?_⟩
    · exact clearFaults_refused h hn hst (clearTier_of_active hactive)
    · refine clearFaults_refused h hn hst (clearTier_of_unplaced ?_)
      exact (clearPlace_conflict hact hconf).trans (if_neg (Bool.eq_false_iff.mp hfree))
    · exact clearFaults_taken h hn hst (clearTier_secured hmove hidle hlast hroom (hmark hconf hfree) hc hset) rfl
    · refine clearFaults_refused h hn hst (clearTier_of_unplaced ?_)
      exact (clearPlace_placement hmove hact hconf).trans (if_neg (Bool.eq_false_iff.mp hp))
    · exact clearFaults_taken h hn hst (clearTier_secured hmove hidle hlast hroom (hplace hconf hp) hc hset) rfl
    · exact clearFaults_taken h hn hst (clearTier_securing hmove hidle hlast hroom (hplace hconf hp) hset) rfl
  case store =>
    have hclear := clearDevice_of_set (k := .store) hroom hstore
    have hwalk : s.installedTiers.foldl State.offerClear (s.clearDevice .store) = s.clearDevice .store := by
      refine foldl_offerClear_of_none fun t ht hst => ?_
      rw [hclear] at hst
      exact absurd hst (hwell t (mem_installedTiers.mp ht))
    have hserve := serveClearAll_of_walk hwalk
    have hnone : (s.clearDevice .store).installedTiers.any
        (fun t => decide (((s.clearDevice .store).tier t).state = .faulted)) = false := by
      rw [hclear, Bool.eq_false_iff, ne_eq, any_faulted_iff]
      exact fun ⟨t, hi, hst⟩ => hwell t hi hst
    rw [hnone, hclear] at hserve
    exact request_next (r := .clearFaultsAll) h hserve (by decide) rfl
  case walk =>
    have hclear := clearDevice_of_unset (s := s) (k := .store) hstore
    have hwalk : s.installedTiers.foldl State.offerClear s = s :=
      foldl_offerClear_of_none fun t ht hst => clearTier_of_active (hactive t (mem_installedTiers.mp ht) hst)
    have hserve : s.serveClearAll = _ := serveClearAll_of_walk (by rw [hclear]; exact hwalk)
    rw [hclear] at hserve
    split
    case isTrue hsome => 
      rw [any_faulted_iff.mpr hsome] at hserve
      exact request_same (r := .clearFaultsAll) h hserve (by decide)
    case isFalse hnone =>
      rw [Bool.eq_false_iff.mpr (mt any_faulted_iff.mp hnone)] at hserve
      exact request_same (r := .clearFaultsAll) h hserve (by decide)

end Sys2Proof.Machine
end

section
/-! PROOFS. An accepted feedback of a moving tier of its own (R52, R53, R156): the trailing release, and the end of a quick stop
at standstill (R23, R31, R56). -/

namespace Sys2Proof.Machine

/-! ### The trailing release (R52, R53) -/

section Trailing

variable {s : State} {f : Feedback} {m : MoveRec} {k : ClaimRec} {z : Pos}

/-- The state with the steps of a tier's claim below an index FREE, which is a scan trigger where there are any (R53, R101). -/
def State.trailed (s : State) (t : Tier) (k : ClaimRec) (i : Nat) : State :=
  { s with
    fm := if k.release < i then s.fm.releaseTo [t] k i else s.fm
    aa := { s.aa with scansDue := s.aa.scansDue + if k.release < i then 1 else 0 } }

/-- A tier whose index has not passed the release index frees nothing (R53). -/
theorem trailed_of_le {t : Tier} {i : Nat} (h : i ≤ k.release) : s.trailed t k i = s := by
  simp [State.trailed, Nat.not_lt.mpr h]

/-- The index of a move of the tier's own is the trailing index of its actual progress (R52). -/
theorem reached_eq (m : MoveRec) (k : ClaimRec) (cmd act : Slew) :
    m.reached k cmd act = k.trailingIndex (actualProgress m.dir m.slew.progress cmd act) := rfl

/-- The trailing release of a moving tier of its own (R52, R53). -/
theorem trailingRelease_single (h : s.Single f.tier m) (hst : (s.tier f.tier).state = .moving)
    (hk : s.claim f.tier = some k) (hz : (s.tier f.tier).cmd = some z) :
    s.trailingRelease f = s.trailed f.tier k (m.reached k z.slew f.slew) := by
  have hcmd : s.cmdPos f.tier = z := by simp [State.cmdPos, hz]
  have htrail : trailingMember m.leader m.members = f.tier := by simp [trailingMember, h.2.1, h.2.2]
  simp only [State.trailingRelease, hst, h.1, hk, hcmd, htrail, decide_true, Bool.true_and, decide_eq_true_eq,
    Single_tiers h, ← reached_eq]
  split
  case isTrue hlt =>
    simp only [State.trailed, if_pos hlt]
    rfl
  case isFalse hle => exact (trailed_of_le (Nat.not_lt.mp hle)).symm

end Trailing

/-! ### The steps of a feedback without drive faults (R156) -/

section Steps

variable {s b : State} {f : Feedback}

/-- The record of a tier with the actual positions of a feedback (R4). -/
def TierRec.located (r : TierRec) (f : Feedback) : TierRec := { r with act := some ⟨f.slew, f.tilt⟩ }

/-- The state after steps 1 and 2 of a feedback of a synchronised tier (R4, R155). -/
def State.received (s : State) (f : Feedback) : State :=
  (s.modTier f.tier fun r => r.located f).modLink f.tier fun l => l.accept f

/-- The state after a feedback's positions and drive faults have been noted (R4, R155, R160). -/
def State.noted (s : State) (f : Feedback) : State :=
  (s.modLink f.tier fun l => { l.accept f with reported := f.faults }).modTier f.tier fun r => r.located f

theorem received_tier (s : State) (f : Feedback) : (s.received f).tier f.tier = (s.tier f.tier).located f := by
  simp [State.received]

theorem noted_tier (s : State) (f : Feedback) : (s.noted f).tier f.tier = (s.tier f.tier).located f := modTier_tier _ _ _

/-- The following-error check is not made on a tier that stops after a quick stop (R159). -/
theorem not_followed_of_quick {r : TierRec} (hstop : r.stop = .quick) (hst : r.state ∈ [.moving, .securing]) :
    r.followed = false := by
  rw [List.mem_pair] at hst
  rcases hst with hst | hst <;> simp [TierRec.followed, hst, hstop]

/-- A feedback within both following limits, or in a state without the check, raises no FOLLOW-ERROR (R159). -/
theorem followCheck_of_within (h : (s.tier f.tier).followed = false ∨ s.Follows f) : s.followCheck f = s := by
  rcases h with h | h
  · exact followCheck_of_not_followed h
  · unfold State.followCheck
    split
    case h_1 x hx => simp [h x hx]
    case h_2 => rfl

/-- A feedback without drive faults and without a following error: the brakes and the standstill flag are looked at once its
trailing release has been made (R156). -/
theorem acceptFeedback_brakes (hst : (s.tier f.tier).state ∉ [.unsynced, .testing]) (hf : f.faults = 0)
    (htrail : (s.received f).trailingRelease f = b.received f) (hfollow : (b.tier f.tier).followed = false ∨ b.Follows f) :
    s.acceptFeedback f = ((b.noted f).brakeStep f).linkStep f.tier := by
  simp only [List.mem_cons, List.not_mem_nil, or_false, not_or] at hst
  have htake : (s.modLink f.tier fun l => l.accept f).takePosition f = s.received f :=
    takePosition_of_not_testing (by exact hst.2)
  have hsynced : ((s.received f).tier f.tier).state ≠ .unsynced := by simpa [State.received, TierRec.located] using hst.1
  have hchecked : (b.received f).followCheck f = b.received f := by
    refine followCheck_of_within (hfollow.imp (fun h => ?_) fun h x hx => h x ?_)
    · simpa [State.received, TierRec.located, TierRec.followed] using h
    · simpa [State.received, LinkRec.accept] using hx
  have hnoted : (b.received f).driveFaults f = b.noted f := by
    rw [driveFaults_of_none (by simp [hf]), State.received, modLink_modLink]
    rfl
  rw [State.acceptFeedback, htake]
  refine (if_neg hsynced).trans ?_
  rw [State.handOn, htrail, hchecked, hnoted]

/-- The brakes of a moving tier are RELEASED: no watch starts, and a quick stop at standstill ends (R24, R31). -/
theorem brakeStep_moving (hst : (s.tier f.tier).state = .moving) (htimer : (s.tier f.tier).brakeTimer = .stopped)
    (hbrake : f.brake = .released) :
    s.brakeStep f = if f.standstill && decide ((s.tier f.tier).stop = .quick) then s.standstill f.tier else s := by
  have hwatch : s.brakeWatch f.tier true (s.prof f.tier).releaseTimeout = s :=
    modTier_self (by simp only [htimer, if_true]; rw [← htimer])
  simp [State.brakeStep, hst, hbrake, hwatch]

/-- A SECURING tier whose quick stop comes to standstill: its trim, and then its brakes (R23, R31). -/
theorem brakeStep_securing_standstill (hst : (s.tier f.tier).state = .securing) (hstop : (s.tier f.tier).stop = .quick)
    (hstill : f.standstill = true) :
    s.brakeStep f = if decide (((s.standstill f.tier).tier f.tier).state = .securing) &&
        decide (((s.standstill f.tier).tier f.tier).stop ≠ StopReq.quick) && decide (f.brake = .set)
      then (s.standstill f.tier).enterSecured f.tier else s.standstill f.tier := by
  simp [State.brakeStep, hst, hstop, hstill]

end Steps

/-! ### Standstill after a quick stop (R31, R56) -/

section Standstill

variable {s : State} {t : Tier} {m : MoveRec} {p : Pos}

/-- The state after a trim that changes the map by `g` and frees the tier's allocation (R56, R100). -/
def State.trimmed (s : State) (t : Tier) (g : Floor → Floor) : State := (s.modFloor g).trigger.ungrant t

@[simp] theorem trimmed_tier (s : State) (t u : Tier) (g : Floor → Floor) : (s.trimmed t g).tier u = s.tier u := rfl

/-- The position at which a stopped move is trimmed: the actual one, the tilt within the profile maximum (R4, R56). -/
def State.stoodAt (s : State) (t : Tier) (p : Pos) : Pos := ⟨p.slew, min p.tilt (s.prof t).tiltMax⟩

/-- The footprint at that position (R8). -/
def State.stoodArc (s : State) (t : Tier) (p : Pos) : Arc :=
  footprint (s.prof t) (s.stoodAt t p).slew (tiltBand (s.stoodAt t p).tilt)

/-- The record of a tier that has shown standstill, its commanded position at the actual one (R31, R56). -/
def TierRec.stood (r : TierRec) (q : Pos) : TierRec := { r with stoodStill := true, cmd := some q }

theorem stood_standing : (s.modTier t fun r => r.stood (s.stoodAt t p)).standing t = s.stoodArc t p := by
  simp [State.standing, State.cmdPos, TierRec.stood, State.stoodArc]

section Trim

variable (h : s.Single t m) (hstop : (s.tier t).stop = .quick) (ha : (s.tier t).act = some p)
  (hg : s.aa.grants.any (fun g => g.names t) = true)

include h hstop ha

/-- The standstill of a tier of its own trims it at its actual position and frees its allocation (R31, R56). -/
theorem standstill_single :
    s.standstill t =
      (((s.modTier t fun r => r.stood (s.stoodAt t p)).trimAll [t]).1.freeGrant t).leaveTrimmed m.auto
        ((s.modTier t fun r => r.stood (s.stoodAt t p)).trimAll [t]).2 t := by
  have hcmd : (s.modTier t fun r => { r with stoodStill := true }).cmdFromActual t =
      s.modTier t fun r => r.stood (s.stoodAt t p) := by
    rw [State.cmdFromActual, modTier_modTier]
    exact modTier_congr (by simp only [ha]; rw [← ha]; rfl)
  have hall : (m.tiers.all fun u => ((s.modTier t fun r => { r with stoodStill := true }).tier u).stoodStill) = true := by
    simp [Single_tiers h]
  have hend : s.standstill t = (s.modTier t fun r => { r with stoodStill := true }).endAtActual m false := by
    simp only [State.standstill, h.1, hstop, hall, if_true]
  rw [hend, State.endAtActual, Single_tiers h, h.2.1]
  simp only [List.foldl_cons, List.foldl_nil, Bool.false_eq_true, if_false, hcmd]

include hg

/-- A tier that can be placed at its actual position leaves its move on the map (R54, R56). -/
theorem standstill_placed (hp : s.fm.canPlace t [] (s.stoodArc t p) = true) :
    s.standstill t = ((s.trimmed t fun f => f.place t (s.stoodArc t p)).modTier t fun r =>
      r.stood (s.stoodAt t p)).leaveTrimmed m.auto [] t := by
  have htrim := trimAll_placed (s := s.modTier t fun r => r.stood (s.stoodAt t p)) (t := t) (by rw [stood_standing]; exact hp)
  rw [standstill_single h hstop ha, htrim, stood_standing, freeGrant_of_named (by exact hg)]
  rfl

/-- A tier that cannot be placed there leaves its move owning nothing (R56). -/
theorem standstill_blocked (hp : s.fm.canPlace t [] (s.stoodArc t p) = false) :
    s.standstill t = ((s.trimmed t fun f => f.freeAll t).modTier t fun r =>
      r.stood (s.stoodAt t p)).leaveTrimmed m.auto [t] t := by
  have htrim := trimAll_blocked (s := s.modTier t fun r => r.stood (s.stoodAt t p)) (t := t) (by rw [stood_standing]; exact hp)
  rw [standstill_single h hstop ha, htrim, freeGrant_of_named (by exact hg)]
  rfl

end Trim

variable {q : Pos}

/-- A trimmed tier that was not SECURING settles at its actual position (R27, R31). -/
theorem leaveTrimmed_settles (hr : s.Room 2) (hst : (s.tier t).state ≠ .securing) (auto : Bool) :
    (s.modTier t fun r => r.stood q).leaveTrimmed auto [] t =
      ((s.triggers (restTriggers (restState (s.prof t) ((s.tier t).securePending || auto)))).modTier t fun r =>
        r.settled q (s.prof t) auto).told (restReports t (restState (s.prof t) ((s.tier t).securePending || auto))) := by
  rw [leaveTrimmed_eq_leaveMove (by rw [modTier_tier]; exact hst),
    leaveMove_settles (by exact hr) (by rw [modTier_tier]; rfl), modTier_triggers, modTier_modTier, modTier_tier]
  rfl

/-- A trimmed tier that was SECURING stays there (R23, R31). -/
theorem leaveTrimmed_securing (hst : (s.tier t).state = .securing) (auto : Bool) :
    (s.modTier t fun r => r.stood q).leaveTrimmed auto [] t =
      s.modTier t fun r => { r with cmd := some q, move := none, stop := .none, stoodStill := false } := by
  have hstays : ((s.modTier t fun r => r.stood q).tier t).state = .securing := by rw [modTier_tier]; exact hst
  simp only [State.leaveTrimmed, hstays, ne_eq, not_true_eq_false, decide_false, List.contains_nil, Bool.false_eq_true,
    if_false, Bool.and_false, Bool.or_false]
  rw [modTier_modTier]
  rfl

/-- A trimmed tier that could not be placed is FAULTED with MAP-CONFLICT where it stopped (R56, R163). -/
theorem leaveTrimmed_conflicts (hr : s.Room 2) (hn : s.Unnamed t) (h0 : (s.tier t).fault.latched = 0)
    (hst : (s.tier t).state ∉ [.unsynced, .faulted, .testing]) (auto : Bool) :
    (s.modTier t fun r => r.stood q).leaveTrimmed auto [t] t = (s.modTier t fun r => r.conflicted q).told
      [.faultRaised t .mapConflict (s.tier t).state q, .tierState t .faulted] := by
  have hcmd (f : TierRec → TierRec) (hf : (f (s.tier t)).cmd = some q) : (s.modTier t f).cmdPos t = q := by
    simp [State.cmdPos, hf]
  simp only [State.leaveTrimmed, List.contains_cons, BEq.rfl, Bool.true_or, if_true]
  rw [modTier_modTier, raiseFault_moveless (by exact hr) (by exact hn) (by rw [modTier_tier]; exact h0) (by rw [modTier_tier])
    (by rw [modTier_tier]; exact hst), hcmd _ rfl, modTier_tier, modTier_tier,
    modTier_modTier]
  rfl

end Standstill

/-! ### What the feedback leaves (R155 to R158) -/

section Leaves

variable {s x : State} {f : Feedback}

/-- A feedback whose brake step changes its tier's record by `F` after its positions have been noted, with the link record it
leaves (R155 to R158, R160). -/
theorem feedbackRecord_noted {F : TierRec → TierRec} {rs : List Report} (h : s.Accepts f)
    (hs : s.acceptFeedback f = (((x.noted f).modTier f.tier F).told rs).linkStep f.tier) :
    exec (.feedbackRecord f.bytes) s =
      .next (((x.modTier f.tier fun r => F (r.located f)).modLink f.tier fun l => l.handled f).reported rs) := by
  refine feedbackRecord_leaves (b := x) (F := fun r => F (r.located f)) (L := fun l => l.handled f) h ?_ rfl rfl
  rw [hs, State.noted, modTier_modTier, State.linkStep, told_modLink, ← modLink_modTier, modLink_modLink]
  rfl

/-- A tier that stops after a quick stop has no trailing release to make and no following-error check (R53, R159). -/
theorem acceptFeedback_quick {m : MoveRec} {k : ClaimRec} {z : Pos} (h : s.Single f.tier m) (hf : f.faults = 0)
    (hstop : (s.tier f.tier).stop = .quick) (hk : s.claim f.tier = some k) (hz : (s.tier f.tier).cmd = some z)
    (hst : (s.tier f.tier).state = .moving ∧ m.reached k z.slew f.slew ≤ k.release ∨ (s.tier f.tier).state = .securing) :
    s.acceptFeedback f = ((s.noted f).brakeStep f).linkStep f.tier := by
  have hreceived := received_tier s f
  have hstates : (s.tier f.tier).state ∈ [.moving, .securing] := List.mem_pair.mpr (hst.imp And.left id)
  have htrail : (s.received f).trailingRelease f = s.received f := by
    rcases hst with ⟨hst, hi⟩ | hst
    · rw [trailingRelease_single (m := m) (k := k) (z := z) ⟨by rw [hreceived]; exact h.1, h.2⟩
        (by rw [hreceived]; exact hst) (by exact hk) (by rw [hreceived]; exact hz), trailed_of_le hi]
    · exact trailingRelease_of_not_moving (by rw [hreceived]; simp [TierRec.located, hst])
  refine acceptFeedback_brakes ?_ hf htrail (.inl (not_followed_of_quick hstop hstates))
  rcases hst with ⟨hst, -⟩ | hst <;> simp [hst]

end Leaves

/-! ### What standstill makes of the noted state (R27, R31, R56) -/

section Stops

variable {s : State} {f : Feedback} {m : MoveRec} {q : Pos} {a : Arc} (hr : s.Room 2) (h : s.Single f.tier m)
  (hstop : (s.tier f.tier).stop = .quick) (hg : s.aa.grants.any (fun g => g.names f.tier) = true)
  (hq : q = s.stoodAt f.tier ⟨f.slew, f.tilt⟩) (ha : a = s.stoodArc f.tier ⟨f.slew, f.tilt⟩)

include h hstop hg hq ha

/-- Standstill on the map: the tier is placed where it stopped and leaves its move (R54, R56). -/
theorem noted_standstill_placed (hp : s.fm.canPlace f.tier [] a = true) :
    (s.noted f).standstill f.tier =
      (((s.trimmed f.tier fun m => m.place f.tier a).noted f).modTier f.tier fun r => r.stood q).leaveTrimmed m.auto []
        f.tier := by
  subst hq ha
  have hnoted := noted_tier s f
  exact standstill_placed (s := s.noted f) ⟨by rw [hnoted]; exact h.1, h.2⟩ (by rw [hnoted]; exact hstop)
    (by rw [hnoted]; rfl) hg hp

/-- Standstill in SECURING, on the map: the tier stays SECURING, its move gone (R23, R31). -/
theorem noted_standstill_securing (hst : (s.tier f.tier).state = .securing) (hp : s.fm.canPlace f.tier [] a = true) :
    (s.noted f).standstill f.tier = ((s.trimmed f.tier fun m => m.place f.tier a).noted f).modTier f.tier fun r =>
      { r with cmd := some q, move := none, stop := .none, stoodStill := false } := by
  rw [noted_standstill_placed h hstop hg hq ha hp]
  exact leaveTrimmed_securing (by rw [noted_tier]; exact hst) _

include hr

/-- Standstill in MOVING, on the map: the tier settles (R27, R31). -/
theorem noted_standstill_settles (hst : (s.tier f.tier).state = .moving) (hp : s.fm.canPlace f.tier [] a = true) :
    (s.noted f).standstill f.tier =
      ((((s.trimmed f.tier fun m => m.place f.tier a).triggers
        (restTriggers (restState (s.prof f.tier) ((s.tier f.tier).securePending || m.auto)))).noted f).modTier f.tier fun r =>
          r.settled q (s.prof f.tier) m.auto).told
        (restReports f.tier (restState (s.prof f.tier) ((s.tier f.tier).securePending || m.auto))) := by
  have hsettles := leaveTrimmed_settles (s := (s.trimmed f.tier fun m => m.place f.tier a).noted f) (t := f.tier) (q := q)
    hr (by rw [noted_tier]; exact fun e => by cases hst.symm.trans e) m.auto
  rw [noted_tier] at hsettles
  rw [noted_standstill_placed h hstop hg hq ha hp]
  exact hsettles

/-- Standstill where the footprint cannot be placed: the tier owns nothing and is FAULTED (R56). -/
theorem noted_standstill_conflicts (hst : (s.tier f.tier).state ∈ [.moving, .securing])
    (hp : s.fm.canPlace f.tier [] a = false) (h0 : (s.tier f.tier).fault.latched = 0) (hent : s.entryOf f.tier = none) :
    (s.noted f).standstill f.tier =
      (((s.trimmed f.tier fun m => m.freeAll f.tier).noted f).modTier f.tier fun r => r.conflicted q).told
        [.faultRaised f.tier .mapConflict (s.tier f.tier).state q, .tierState f.tier .faulted] := by
  subst hq ha
  have hnoted := noted_tier s f
  have hstates : (s.tier f.tier).state ∉ [.unsynced, .faulted, .testing] := by
    rcases List.mem_pair.mp hst with e | e <;> simp [e]
  have hblocked := standstill_blocked (s := s.noted f) ⟨by rw [hnoted]; exact h.1, h.2⟩ (by rw [hnoted]; exact hstop)
    (by rw [hnoted]; rfl) hg hp
  have hconflicts := leaveTrimmed_conflicts (s := (s.trimmed f.tier fun m => m.freeAll f.tier).noted f) (t := f.tier)
    (q := s.stoodAt f.tier ⟨f.slew, f.tilt⟩) hr (unnamed_ungrant (s := s.modFloor fun m => m.freeAll f.tier) hent)
    (by rw [noted_tier]; exact h0) (by rw [noted_tier]; exact hstates) m.auto
  rw [noted_tier] at hconflicts
  exact hblocked.trans hconflicts

end Stops

/-- Settles O45: the trailing release of a moving tier, and by state, brakes and map what standstill makes of a quick stop. -/
theorem movingFeedback : Obligations.MovingFeedback := by
  unfold Obligations.MovingFeedback
  rintro f t m l k p z q n i a w s x hacc hroom hf rfl rfl hm hk hz rfl rfl rfl rfl rfl rfl
  refine ⟨fun hst htimer hbrake hstop hfollow => ?rolls, fun hstop hstill hg => ?stops⟩
  case rolls =>
    have hreceived := received_tier s f
    have htrail : (s.received f).trailingRelease f = (s.trailed f.tier k (m.reached k z.slew f.slew)).received f :=
      trailingRelease_single ⟨by rw [hreceived]; exact hm.1, hm.2⟩ (by rw [hreceived]; exact hst) (by exact hk)
        (by rw [hreceived]; exact hz)
    have hsteps := acceptFeedback_brakes (by simp [hst]) hf htrail
      (hfollow.imp (fun h => not_followed_of_quick h (by exact List.mem_pair.mpr (.inl hst))) id)
    have hnoted := noted_tier (s.trailed f.tier k (m.reached k z.slew f.slew)) f
    have hrolls : (f.standstill && decide (((s.tier f.tier).located f).stop = .quick)) = false := by
      rcases hstop with h | h
      · simp [TierRec.located, h]
      · simp [h]
    have hbrakes := brakeStep_moving (s := (s.trailed f.tier k (m.reached k z.slew f.slew)).noted f) (f := f)
      (by rw [hnoted]; exact hst) (by rw [hnoted]; exact htimer) hbrake
    rw [hnoted] at hbrakes
    rw [hbrakes.trans (if_neg (Bool.eq_false_iff.mp hrolls))] at hsteps
    have htold : s.acceptFeedback f =
        ((((s.trailed f.tier k (m.reached k z.slew f.slew)).noted f).modTier f.tier id).told []).linkStep f.tier := by
      rw [hsteps, told_nil, modTier_self (by rfl)]
    exact feedbackRecord_noted hacc htold
  case stops =>
    have hnoted := noted_tier s f
    have hquick : ((s.noted f).tier f.tier).stop = .quick := by rw [hnoted]; exact hstop
    have hmoving (hst : (s.tier f.tier).state = .moving) (htimer : (s.tier f.tier).brakeTimer = .stopped)
        (hbrake : f.brake = .released) : (s.noted f).brakeStep f = (s.noted f).standstill f.tier := by
      rw [brakeStep_moving (by rw [hnoted]; exact hst) (by rw [hnoted]; exact htimer) hbrake, hquick, hstill]
      rfl
    have hsecuring (hst : (s.tier f.tier).state = .securing) :=
      brakeStep_securing_standstill (s := s.noted f) (f := f) (by rw [hnoted]; exact hst) hquick hstill
    refine ⟨fun hst htimer hbrake hi hp => ?settles, fun hst hp h0 hent => ?conflicts,
      fun hst htimer hc hp hset => ?secured, fun hst htimer hp hset => ?securing⟩
    case settles =>
      have hsteps := acceptFeedback_quick hm hf hstop hk hz (.inl ⟨hst, hi⟩)
      rw [hmoving hst htimer hbrake, noted_standstill_settles hroom hm hstop hg rfl rfl hst hp] at hsteps
      exact feedbackRecord_noted hacc hsteps
    case conflicts =>
      have hsteps := acceptFeedback_quick hm hf hstop hk hz (hst.imp (fun ⟨h, _, _, hi⟩ => ⟨h, hi⟩) And.left)
      have hstand := noted_standstill_conflicts hroom hm hstop hg rfl rfl
        (List.mem_pair.mpr (hst.imp And.left And.left)) hp h0 hent
      have hbrakes : (s.noted f).brakeStep f = (s.noted f).standstill f.tier := by
        rcases hst with ⟨hst, htimer, hbrake, -⟩ | ⟨hst, -⟩
        · exact hmoving hst htimer hbrake
        · exact (hsecuring hst).trans (if_neg (by simp [hstand, TierRec.conflicted, TierRec.faulted]))
      rw [hbrakes, hstand] at hsteps
      exact feedbackRecord_noted hacc hsteps
    case secured =>
      have hsteps := acceptFeedback_quick hm hf hstop hk hz (.inr hst)
      have hstand := noted_standstill_securing hm hstop hg rfl rfl hst hp
      rw [hsecuring hst, if_pos (by simp [hstand, noted_tier, TierRec.located, hst, hset]), hstand,
        enterSecured_eq (by exact room_mono hroom (by decide)) (by exact hc), modTier_trigger, modTier_modTier] at hsteps
      exact feedbackRecord_noted
        (x := (s.trimmed f.tier fun m => m.place f.tier (s.stoodArc f.tier ⟨f.slew, f.tilt⟩)).triggers 1) hacc hsteps
    case securing =>
      have hsteps := acceptFeedback_quick hm hf hstop hk hz (.inr hst)
      have hstand := noted_standstill_securing hm hstop hg rfl rfl hst hp
      rw [hsecuring hst, if_neg (by simp [hset]), hstand, ← told_nil (State.modTier _ _ _)] at hsteps
      exact feedbackRecord_noted hacc hsteps

end Sys2Proof.Machine
end

section
/-! PROOFS. PROFILE-GET and ZONE-GET (R14, R76), and ZONE-PUT by its checks, with what a record taken leaves (R64, R74, R75,
R101). -/

namespace Sys2Proof.Machine

/-! ### PROFILE-GET (R14) -/

/-- A byte that names no tier fails check 1 (R33). -/
theorem withTier_of_none {s : State} {b : Byte} (h : tierOf b = none) (k : Tier → Answer) :
    s.withTier b k = s.refuse .range := by
  simp [State.withTier, h]

/-- The running profile is answered with its valid flag, whether the tier is installed or not (R14). -/
theorem serveGetProfile_answers {s : State} {b : Byte} {t : Tier} (h : tierOf b = some t) :
    s.serveGetProfile b =
      (s, .ok, (if (s.profiles.get t).valid then (1 : Byte) else 0) :: profileBytes (s.profiles.get t).data) := by
  simp [State.serveGetProfile, withTier_of_some h, flag, State.prof]

/-! ### ZONE-GET (R76) -/

section ZoneGet

variable {s : State} {b : Byte}

/-- A byte above 5 names no zone. -/
theorem zoneOf_of_le (h : 6 ≤ b.toNat) : zoneOf b = none := dif_neg (Nat.not_lt.mpr h)

theorem serveGetZone_range (h : 6 ≤ b.toNat) : s.serveGetZone b = s.refuse .range := by
  simp [State.serveGetZone, zoneOf_of_le h]

variable {n : Fin 6} (hn : zoneOf b = some n)

include hn

/-- A zone without a trip input has no level. -/
theorem serveGetZone_no_level (ht : (s.zu.zones.get n).trip = none) :
    s.serveGetZone b = (s, .ok, zoneBytes (s.zu.zones.get n) ++ [if s.zu.valid then (1 : Byte) else 0, 0xFF]) := by
  simp [State.serveGetZone, hn, ht, flag]

/-- A zone with a trip input answers the level that the ZU holds for it. -/
theorem serveGetZone_level {i : Input} (ht : (s.zu.zones.get n).trip = some i) :
    s.serveGetZone b = (s, .ok, zoneBytes (s.zu.zones.get n) ++
      [if s.zu.valid then (1 : Byte) else 0, if s.zu.levels.get i then (1 : Byte) else 0]) := by
  simp [State.serveGetZone, hn, ht, flag]

end ZoneGet

/-- Settles O34: PROFILE-GET by whether its byte names a tier, ZONE-GET by whether its byte names a zone, and
that by whether the zone has a trip input. -/
theorem getsAnswer : Obligations.GetsAnswer := by
  unfold Obligations.GetsAnswer
  refine ⟨fun tag b s h => ⟨fun ht => ?noTier, fun t ht => ?profile⟩,
    fun tag b s h => ⟨fun hb => ?noZone, fun n hn => ?zone⟩⟩
  case noTier => exact request_same (r := .profileGet b) h (withTier_of_none ht _) (by decide)
  case profile => exact request_same (r := .profileGet b) h (serveGetProfile_answers ht) (by decide)
  case noZone => exact request_same (r := .zoneGet b) h (serveGetZone_range hb) (by decide)
  case zone =>
    cases ht : (s.zu.zones.get n).trip with
    | none => exact request_same (r := .zoneGet b) h (serveGetZone_no_level hn ht) (by decide)
    | some i => exact request_same (r := .zoneGet b) h (serveGetZone_level hn ht) (by decide)

/-! ### The checks of ZONE-PUT (R64, R75) -/

/-- A record with a value outside those of R64 is none. -/
theorem zoneRecordOf_eq_none {z : ZoneMsg}
    (h : classesOfCode z.classes = none ∨ modeOfCode z.mode = none ∨ tripOfCode z.trip = none) :
    zoneRecordOf z = none := by
  unfold zoneRecordOf
  split
  next hc hm ht => simp [hc, hm, ht] at h
  next => rfl

theorem zoneRecordOf_eq_some {z : ZoneMsg} {c : ZoneClasses} {m : ZoneMode} {i : Option Input}
    (hc : classesOfCode z.classes = some c) (hm : modeOfCode z.mode = some m) (ht : tripOfCode z.trip = some i) :
    zoneRecordOf z = some ⟨z.enable, z.base, z.mask, c, m, z.noStop, i⟩ := by
  simp [zoneRecordOf, hc, hm, ht]

/-- ZONE-PUT looks for a claim record of any tier (R75, check 3). -/
theorem claims_any_iff {s : State} : s.fm.claims.toList.any Option.isSome = true ↔ ∃ t, s.claim t ≠ none := by
  rw [Vector.any_toList, Vector.any_eq_true]
  simp [State.claim, Vector.get_eq_getElem, Option.ne_none_iff_isSome, Fin.exists_iff]

theorem claims_any_eq_false {s : State} (h : ∀ t, s.claim t = none) : s.fm.claims.toList.any Option.isSome = false := by
  rw [Bool.eq_false_iff, Ne, claims_any_iff]
  exact fun ⟨t, ht⟩ => ht (h t)

section ZonePut

variable {s : State} {b : Byte} {z : ZoneMsg}

/-- Check 1 of ZONE-PUT: a zone number above 5 (R75). -/
theorem servePutZone_range (h : 6 ≤ b.toNat) : s.servePutZone b z = s.refuse .range := by
  simp [State.servePutZone, zoneOf_of_le h]

variable {n : Fin 6} (hn : zoneOf b = some n)

include hn

/-- Check 2 of ZONE-PUT: the group is locked (R75). -/
theorem servePutZone_locked (hl : s.fsu.zonesLocked = true) : s.servePutZone b z = s.refuse .locked := by
  simp [State.servePutZone, hn, hl]

variable (hl : s.fsu.zonesLocked = false)

include hl

/-- Check 3 of ZONE-PUT: a tier has a claim (R75). -/
theorem servePutZone_busy (hc : ∃ t, s.claim t ≠ none) : s.servePutZone b z = s.refuse .busy := by
  simp [State.servePutZone, hn, hl, claims_any_iff.mpr hc]

variable (hc : ∀ t, s.claim t = none)

include hc

/-- Check 4 of ZONE-PUT: a value outside those of R64 (R75). -/
theorem servePutZone_illegal (hz : zoneRecordOf z = none) : s.servePutZone b z = s.refuse .range := by
  simp [State.servePutZone, hn, hl, claims_any_eq_false hc, hz]

/-- A record that passes every check is taken (R75). -/
theorem servePutZone_taken {x : ZoneRec} (hz : zoneRecordOf z = some x) :
    s.servePutZone b z = (s.takeZone n x).accept := by
  simp [State.servePutZone, hn, hl, claims_any_eq_false hc, hz]

end ZonePut

/-! ### A zone record taken (R74, R75, R101) -/

/-- The state with a zone record replaced and the table valid. -/
def State.setZone (s : State) (n : Fin 6) (x : ZoneRec) : State :=
  { s with zu := { s.zu with zones := s.zu.zones.set n x, valid := true } }

/-- A record taken while CONFIG-ZONES is set clears it with its report: two scan triggers (R101). -/
theorem takeZone_of_set {s : State} {n : Fin 6} {x : ZoneRec} (hr : s.Room 1) (h : s.fsu.device.getLsbD 9 = true) :
    s.takeZone n x = ({ s.setZone n x with
      fsu := { s.fsu with device := s.fsu.device &&& 0xDFF#12 }
      aa := { s.aa with scansDue := s.aa.scansDue + 2 } } : State).told [.device false .configZones] := by
  have hclear := clearDevice_of_set (s := s.setZone n x) (k := .configZones) hr h
  exact congrArg State.trigger hclear

/-- A record taken while CONFIG-ZONES is not set: one scan trigger (R101). -/
theorem takeZone_of_unset {s : State} {n : Fin 6} {x : ZoneRec} (h : s.fsu.device.getLsbD 9 = false) :
    s.takeZone n x = (s.setZone n x).trigger :=
  congrArg State.trigger (clearDevice_of_unset (s := s.setZone n x) (k := .configZones) h)

/-- Settles O35: each check answers as its lemma says, and a record that passes them all is taken with CONFIG-ZONES or
without. -/
theorem zonePutTaken : Obligations.ZonePutTaken := by
  unfold Obligations.ZonePutTaken
  intro tag b z s h hroom
  have hrefused {c : Code} (hc : c ≠ .unknown) (hs : s.servePutZone b z = s.refuse c) :
      exec (.zonePut tag b z) s = .next (s.replied tag 0xAB c [] []) := request_same (r := .zonePut b z) h hs hc
  refine ⟨fun hb => hrefused (by decide) (servePutZone_range hb), fun n hn =>
    ⟨fun hl => hrefused (by decide) (servePutZone_locked hn hl),
      fun hl hc => hrefused (by decide) (servePutZone_busy hn hl hc),
      fun hl hc hz => hrefused (by decide) (servePutZone_illegal hn hl hc (zoneRecordOf_eq_none hz)),
      fun c m i hl hclaim hc hm ht => ?taken⟩⟩
  case taken =>
    have hserve : s.serve (.zonePut b z) = (s.takeZone n ⟨z.enable, z.base, z.mask, c, m, z.noStop, i⟩).accept :=
      servePutZone_taken hn hl hclaim (zoneRecordOf_eq_some hc hm ht)
    split
    case isTrue hset =>
      rw [takeZone_of_set hroom hset] at hserve
      exact request_next h hserve (by decide) rfl
    case isFalse hunset =>
      rw [takeZone_of_unset (Bool.eq_false_iff.mpr hunset), ← told_nil (State.trigger _)] at hserve
      exact request_next h hserve (by decide) rfl

end Sys2Proof.Machine
end

section
/-! PROOFS. The edges of the TRIP inputs and the changes of KEY while the part runs (R70 to R72, R176). -/

namespace Sys2Proof.Machine

/-! ### What an edge leaves (R71, R72) -/

section Edges

variable {s : State} {i : Input}

/-- An input that was not active: its level is set, and an application is sent to the FM (R71). -/
theorem tripRises_of_inactive (h : s.zu.levels.get i = false) :
    s.tripRises i = { s with zu := { s.zu with
      levels := s.zu.levels.set i true, due := s.zu.due ++ [.application i] } } := by
  simp [State.tripRises, h, State.setLevel]

variable (h : s.zu.levels.get i = true)

include h

/-- An input that was active, with no application of it waiting: its TRIP report is queued at once (R72). -/
theorem tripFalls_reported (hr : s.Room 1) (hdue : TripItem.application i ∉ s.zu.due) :
    s.tripFalls i = (s.setLevel i false).trigger.told [.trip i false []] := by
  have hnone : (s.setLevel i false).trigger.zu.due.contains (TripItem.application i) = false := by
    simpa [State.setLevel] using hdue
  rw [State.tripFalls, if_pos h]
  exact (if_neg (Bool.eq_false_iff.mp hnone)).trans (report_eq_told hr)

/-- An input that was active, with an application of it waiting: its TRIP report waits behind that (R72). -/
theorem tripFalls_waits (hdue : TripItem.application i ∈ s.zu.due) :
    s.tripFalls i = { (s.setLevel i false).trigger with zu := { (s.setLevel i false).zu with
      due := s.zu.due ++ [.inactiveReport i] } } := by
  simp [State.tripFalls, h, hdue, State.setLevel]

end Edges

/-! ### The commands in the running phase -/

section Running

variable {s : State} {i : Input} {b : Bool} (h : s.phase = .running)

include h

theorem not_startUp_of_running : s.phase ≠ .startUp := by simp [h]

/-- While the part runs an active edge sets the pin and acts on the ZU (R71). -/
theorem tripActiveEdge_running :
    exec (.tripActiveEdge i) s = (s.setTripPin i true).during fun x => x.tripRises i :=
  if_neg (not_startUp_of_running h)

/-- While the part runs an inactive edge clears the pin and acts on the ZU (R72). -/
theorem tripInactiveEdge_running :
    exec (.tripInactiveEdge i) s = (s.setTripPin i false).during fun x => x.tripFalls i :=
  if_neg (not_startUp_of_running h)

/-- While the part runs a KEY change sets the pin and the level held (R176). -/
theorem keyChange_running : exec (.keyChange b) s = (s.setKeyPin b).during fun x => x.setKey b :=
  if_neg (not_startUp_of_running h)

end Running

/-- Settles O50: each edge by the level held before, the inactive edge by whether the application of the active edge still
waits. -/
theorem pinEdges : Obligations.PinEdges := by
  unfold Obligations.PinEdges
  intro i b s hrun hroom
  refine ⟨fun hlow => ?rises, fun hhigh hdue => ?reported, fun hhigh hdue => ?waits, ?key⟩
  case rises =>
    rw [tripActiveEdge_running hrun, during_next (s := s.setTripPin i true) hrun,
      tripRises_of_inactive (s := s.setTripPin i true) hlow]
    rfl
  case reported =>
    rw [tripInactiveEdge_running hrun]
    exact during_reported hrun (tripFalls_reported (s := s.setTripPin i false) hhigh hroom hdue)
  case waits =>
    rw [tripInactiveEdge_running hrun, during_next (s := s.setTripPin i false) hrun,
      tripFalls_waits (s := s.setTripPin i false) hhigh hdue]
    rfl
  case key =>
    rw [keyChange_running hrun, during_next (s := s.setKeyPin b) hrun]
    rfl

end Sys2Proof.Machine
end

section
/-! PROOFS. The speed choice of a generator and its step (R78, R81 to R84): the bounds of a step, the braking distance kept, and
the arrival. -/

namespace Sys2Proof.Machine

/-! ### The speed choice (R78, R81, R82) -/

section Speed

variable {a cap v r top : Nat} {latch : Bool}

/-- The speed choice as R81 and R82 give it: a latched axis, and one without its braking distance, slows down. -/
theorem chooseSpeed_eq : chooseSpeed a cap v r latch =
    if latch = true ∨ r < candidate a cap v + braking a (candidate a cap v) then (latchedSpeed a v, true)
    else (candidate a cap v, false) := by
  cases latch
  case true => simp [chooseSpeed]
  case false =>
    by_cases h : candidate a cap v + braking a (candidate a cap v) ≤ r
    · simp [chooseSpeed, h, Nat.not_lt.mpr h]
    · simp [chooseSpeed, h, Nat.not_le.mp h]

/-- The speed chosen is that of R82, or that of R81 with its braking distance ahead. -/
theorem chooseSpeed_cases : (chooseSpeed a cap v r latch).1 = latchedSpeed a v ∨
    (chooseSpeed a cap v r latch).1 = candidate a cap v ∧ candidate a cap v + braking a (candidate a cap v) ≤ r := by
  rw [chooseSpeed_eq]
  split
  case isTrue => exact .inl rfl
  case isFalse h => exact .inr ⟨rfl, Nat.not_lt.mp fun hr => h (.inr hr)⟩

/-- What holds of the speeds of R81 and of R82 holds of the speed chosen. -/
theorem chooseSpeed_induct {P : Nat → Prop} (hu : P (candidate a cap v)) (hl : P (latchedSpeed a v)) :
    P (chooseSpeed a cap v r latch).1 := by
  rcases chooseSpeed_cases (a := a) (cap := cap) (v := v) (r := r) (latch := latch) with h | ⟨h, -⟩ <;> rw [h]
  · exact hl
  · exact hu

/-- A speed chosen stays within a maximum that bounds the cap, the acceleration and the speed before (R81, R82). -/
theorem chooseSpeed_le_top (ha : a ≤ top) (hcap : cap ≤ top) (hv : v ≤ top) :
    (chooseSpeed a cap v r latch).1 ≤ top := by
  refine chooseSpeed_induct (P := (· ≤ top)) ?_ (by simp only [latchedSpeed]; omega)
  simp only [candidate]
  split <;> omega

/-- A speed rises by no more than one acceleration (R81, R82). -/
theorem chooseSpeed_le_add : (chooseSpeed a cap v r latch).1 ≤ v + a := by
  refine chooseSpeed_induct (P := (· ≤ v + a)) ?_ (by simp only [latchedSpeed]; omega)
  simp only [candidate]
  split <;> omega

/-- A speed chosen is never 0 (R81, R82). -/
theorem chooseSpeed_pos (ha : 1 ≤ a) (hcap : 1 ≤ cap) : 1 ≤ (chooseSpeed a cap v r latch).1 := by
  refine chooseSpeed_induct (P := (1 ≤ ·)) ?_ (by simp only [latchedSpeed]; omega)
  simp only [candidate]
  split <;> omega

/-- There is no braking distance at a speed of at most one acceleration (R78). -/
theorem braking_of_le (h : v ≤ a) : braking a v = 0 := if_neg (Nat.not_lt.mpr h)

/-- The braking distance from one acceleration upwards (R78). -/
theorem braking_of_ge (h : a ≤ v) : braking a v = v * (v - a) / (2 * a) := by
  rcases h.eq_or_lt with rfl | h
  · simp [braking]
  · exact if_pos h

/-- A braking axis that travels at its next speed has the braking distance of that speed left (R78, R84). -/
theorem braking_sub_acc (ha : 1 ≤ a) (h : 2 * a ≤ v) : (v - a) + braking a (v - a) = braking a v := by
  obtain ⟨w, rfl⟩ := Nat.exists_eq_add_of_le h
  have hstep : 2 * a + w - a = a + w := by omega
  have hstep' : a + w - a = w := by omega
  have hdist : (2 * a + w) * (a + w) = (a + w) * w + (a + w) * (2 * a) := by ring
  rw [braking_of_ge (by omega), braking_of_ge (by omega), hstep, hstep', hdist,
    Nat.add_mul_div_right _ _ (by omega), Nat.add_comm]

/-- After a step at the speed of R82 the braking distance is kept (R84). -/
theorem braking_latchedSpeed (ha : 1 ≤ a) (hr : braking a v ≤ r) :
    braking a (latchedSpeed a v) ≤ r - latchedSpeed a v := by
  rcases Nat.lt_or_ge v (2 * a) with h | h
  · rw [show latchedSpeed a v = a by rw [latchedSpeed]; omega, braking_of_le le_rfl]
    exact Nat.zero_le _
  · have hnext := braking_sub_acc ha h
    rw [show latchedSpeed a v = v - a by rw [latchedSpeed]; omega]
    omega

/-- A step at the speed chosen, where that many ring units remain, keeps the braking distance (R81, R82, R84). -/
theorem braking_chooseSpeed (ha : 1 ≤ a) (hr : braking a v ≤ r) (hn : (chooseSpeed a cap v r latch).1 ≤ r) :
    braking a (chooseSpeed a cap v r latch).1 ≤ r - (chooseSpeed a cap v r latch).1 := by
  rcases chooseSpeed_cases (a := a) (cap := cap) (v := v) (r := r) (latch := latch) with h | ⟨h, hahead⟩ <;>
    rw [h] at hn ⊢
  · exact braking_latchedSpeed ha hr
  · omega

end Speed

/-! ### The step of a slew generator (R83) -/

section Slew

variable {g : SlewGen} {a cap top : Nat}

/-- A finished axis takes no step (R83). -/
theorem SlewGen.stepLength_finished (h : g.finished = true) : g.stepLength a cap = 0 := if_pos h

/-- A finished axis stays (R83). -/
theorem SlewGen.step_finished (h : g.finished = true) : g.step a cap = g := if_pos h

/-- The step of an unfinished axis: the speed chosen, or what remains (R83). -/
theorem SlewGen.stepLength_unfinished (h : g.finished = false) :
    g.stepLength a cap = min (chooseSpeed a cap g.speed g.rem g.latch).1 g.rem := by
  simp [SlewGen.stepLength, h]

/-- An unfinished axis after its step (R83). -/
theorem SlewGen.step_unfinished (h : g.finished = false) :
    g.step a cap =
      { speed := if g.stepLength a cap = g.rem then 0 else g.stepLength a cap
        rem := g.rem - g.stepLength a cap
        latch := (chooseSpeed a cap g.speed g.rem g.latch).2
        finished := decide (g.stepLength a cap = g.rem)
        progress := g.progress + g.stepLength a cap
        creep := g.creep } := by
  simp only [SlewGen.step, h, Bool.false_eq_true, if_false, eq_comm (a := g.rem)]

/-- No step passes the target (R83). -/
theorem SlewGen.stepLength_le_rem (h : g.finished = false) : g.stepLength a cap ≤ g.rem := by
  rw [SlewGen.stepLength_unfinished h]
  exact Nat.min_le_right _ _

/-- No step is longer than the speed chosen (R83). -/
theorem SlewGen.stepLength_le_choice :
    g.stepLength a cap ≤ (chooseSpeed a cap g.speed g.rem g.latch).1 := by
  cases h : g.finished
  case false => rw [SlewGen.stepLength_unfinished h]; exact Nat.min_le_left _ _
  case true => rw [SlewGen.stepLength_finished h]; exact Nat.zero_le _

/-- The speed recorded stays within a maximum that bounds the cap, the acceleration and the speed before (R81 to R83). -/
theorem SlewGen.step_speed_le_top (ha : a ≤ top) (hcap : cap ≤ top) (hv : g.speed ≤ top) : (g.step a cap).speed ≤ top := by
  cases h : g.finished
  case true => rwa [SlewGen.step_finished h]
  case false =>
    have hlen : g.stepLength a cap ≤ top := SlewGen.stepLength_le_choice.trans (chooseSpeed_le_top ha hcap hv)
    simp only [SlewGen.step_unfinished h]
    split <;> omega

/-- While an axis has not finished, the speed recorded is the step taken (R83). -/
theorem SlewGen.step_speed (h : (g.step a cap).finished = false) : (g.step a cap).speed = g.stepLength a cap := by
  cases hf : g.finished
  case true => rw [SlewGen.step_finished hf, hf] at h; cases h
  case false =>
    rw [SlewGen.step_unfinished hf] at h ⊢
    exact if_neg (of_decide_eq_false h)

/-- An axis that has its braking distance keeps it (R84). -/
theorem SlewGen.step_keeps_braking (ha : 1 ≤ a) (h : g.finished = false) (hb : braking a g.speed ≤ g.rem) :
    braking a (g.step a cap).speed ≤ (g.step a cap).rem := by
  have hlen := SlewGen.stepLength_unfinished (a := a) (cap := cap) h
  simp only [SlewGen.step_unfinished h]
  split
  case isTrue => rw [braking_of_le (Nat.zero_le a)]; exact Nat.zero_le _
  case isFalse hne =>
    have hchoice : g.stepLength a cap = (chooseSpeed a cap g.speed g.rem g.latch).1 := by omega
    have hle := SlewGen.stepLength_le_rem (a := a) (cap := cap) h
    rw [hchoice] at hle ⊢
    exact braking_chooseSpeed ha hb hle

/-- An axis is finished exactly when nothing remains, and a step leaves it so (R83). -/
theorem SlewGen.step_finished_iff (h : g.finished = decide (g.rem = 0)) :
    (g.step a cap).finished = decide ((g.step a cap).rem = 0) := by
  cases hf : g.finished
  case true => rwa [SlewGen.step_finished hf]
  case false =>
    have hle := SlewGen.stepLength_le_rem (a := a) (cap := cap) hf
    simp only [SlewGen.step_unfinished hf, decide_eq_decide]
    omega

/-- A step takes an unfinished axis nearer to its target, and what it leaves to go is what the progress lacks (R83). -/
theorem SlewGen.step_advances (ha : 1 ≤ a) (hcap : 1 ≤ cap) (hf : g.finished = false) (hr : 0 < g.rem) :
    (g.step a cap).rem < g.rem ∧ (g.step a cap).progress + (g.step a cap).rem = g.progress + g.rem := by
  have hlen := SlewGen.stepLength_unfinished (a := a) (cap := cap) hf
  have hpos := chooseSpeed_pos (v := g.speed) (r := g.rem) (latch := g.latch) ha hcap
  simp only [SlewGen.step_unfinished hf]
  omega

/-- A slew axis has arrived after any number of intervals that is at least the ring units it has to go (R81 to R83). -/
theorem SlewGen.arrives (ha : 1 ≤ a) (hcap : 1 ≤ cap) (n : Nat) (g : SlewGen) (hf : g.finished = decide (g.rem = 0))
    (hn : g.rem ≤ n) :
    ((fun x : SlewGen => x.step a cap)^[n] g).finished = true ∧ ((fun x : SlewGen => x.step a cap)^[n] g).rem = 0 ∧
      ((fun x : SlewGen => x.step a cap)^[n] g).progress = g.progress + g.rem := by
  induction n generalizing g with
  | zero =>
    have hzero : g.rem = 0 := Nat.le_zero.mp hn
    exact ⟨hf.trans (decide_eq_true hzero), hzero, by rw [hzero]; rfl⟩
  | succ n ih =>
    rw [Function.iterate_succ_apply]
    rcases Nat.eq_zero_or_pos g.rem with hzero | hpos
    · have hstays : g.step a cap = g := SlewGen.step_finished (hf.trans (decide_eq_true hzero))
      rw [hstays]
      exact ih g hf (by omega)
    · have hunfinished : g.finished = false := hf.trans (decide_eq_false hpos.ne')
      obtain ⟨hless, htotal⟩ := SlewGen.step_advances ha hcap hunfinished hpos
      rw [← htotal]
      exact ih (g.step a cap) (SlewGen.step_finished_iff hf) (by omega)

end Slew

/-- Settles O57: the bounds by those of the speed chosen, the braking distance by its step, and the arrival by induction over the
intervals. -/
theorem generatorBounds : Obligations.GeneratorBounds := by
  unfold Obligations.GeneratorBounds
  refine ⟨fun g a cap top _ ha hcap hv => ⟨?top, ?rise, SlewGen.stepLength_le_rem, fun h => ?records, ?speed, SlewGen.step_speed⟩,
    fun g a cap ha h hb => SlewGen.step_keeps_braking ha h hb,
    fun g a cap ha hcap hf => SlewGen.arrives ha hcap g.rem g hf le_rfl⟩
  case top => exact SlewGen.stepLength_le_choice.trans (chooseSpeed_le_top ha hcap hv)
  case rise => exact SlewGen.stepLength_le_choice.trans chooseSpeed_le_add
  case records => rw [SlewGen.step_unfinished h]; exact ⟨rfl, rfl⟩
  case speed => exact SlewGen.step_speed_le_top ha hcap hv

end Sys2Proof.Machine
end

section
/-! PROOFS. The setpoint interval of a tier of its own whose move goes on (R79 to R83, R91, R92): the cap and the speed of its
axes, and the state after it. -/

namespace Sys2Proof.Machine

/-! ### A step written out (R81 to R83, R92) -/

section Chosen

variable {a cap v n : Nat} {latch : Bool}

/-- A step of 0 leaves the commanded slew (R83). -/
theorem advance_zero (d : Dir) (x : Slew) : advance d x 0 = x := by
  cases d <;> simp [advance]

/-- A step of 0 leaves the commanded tilt (R83). -/
theorem tiltAdvance_zero (d : TiltDir) (x : Nat) : tiltAdvance d x 0 = x := by
  cases d <;> rfl

section Slew

variable {g : SlewGen} (hv : (v, latch) = chooseSpeed a cap g.speed g.rem g.latch) (hn : n = min v g.rem)

include hv hn

/-- An unfinished slew axis steps by the speed chosen, or by what remains (R83). -/
theorem SlewGen.stepLength_chosen (h : g.finished = false) : g.stepLength a cap = n := by
  rw [SlewGen.stepLength_unfinished h, ← hv, hn]

/-- A slew axis after its step (R83). -/
theorem SlewGen.step_chosen : g.step a cap = if g.finished = true then g else
    { g with
      speed := if n = g.rem then 0 else n
      rem := g.rem - n
      latch := latch
      finished := decide (n = g.rem)
      progress := g.progress + n } := by
  split
  case isTrue h => exact SlewGen.step_finished h
  case isFalse h =>
    have hunfinished : g.finished = false := Bool.eq_false_iff.mpr h
    rw [SlewGen.step_unfinished hunfinished, SlewGen.stepLength_chosen hv hn hunfinished, ← hv]

/-- The commanded slew after a step of its axis (R83). -/
theorem advance_chosen (d : Dir) (x : Slew) :
    advance d x (g.stepLength a cap) = if g.finished = true then x else advance d x n := by
  cases h : g.finished
  case true => rw [SlewGen.stepLength_finished h, advance_zero]; rfl
  case false => rw [SlewGen.stepLength_chosen hv hn h]; rfl

end Slew

section Tilt

/-- A finished tilt axis takes no step (R83, R92). -/
theorem TiltGen.stepLength_finished {g : TiltGen} (h : g.finished = true) : g.stepLength a cap = 0 := if_pos h

/-- A finished tilt axis stays (R83, R92). -/
theorem TiltGen.step_finished {g : TiltGen} (h : g.finished = true) : g.step a cap = g := if_pos h

variable {g : TiltGen} (hv : (v, latch) = chooseSpeed a cap g.speed g.rem g.latch) (hn : n = min v g.rem)

include hv hn

/-- An unfinished tilt axis steps by the speed chosen, or by what remains (R83, R92). -/
theorem TiltGen.stepLength_chosen (h : g.finished = false) : g.stepLength a cap = n := by
  simp [TiltGen.stepLength, h, ← hv, hn]

/-- A tilt axis after its step (R83, R92). -/
theorem TiltGen.step_chosen : g.step a cap = if g.finished = true then g else
    { g with speed := if n = g.rem then 0 else n, rem := g.rem - n, latch := latch, finished := decide (n = g.rem) } := by
  cases h : g.finished
  case true => exact TiltGen.step_finished h
  case false => simp [TiltGen.step, h, TiltGen.stepLength_chosen hv hn h, ← hv, eq_comm (a := g.rem)]

/-- The commanded tilt after a step of its axis (R83). -/
theorem tiltAdvance_chosen (d : TiltDir) (x : Nat) :
    tiltAdvance d x (g.stepLength a cap) = if g.finished = true then x else tiltAdvance d x n := by
  cases h : g.finished
  case true => rw [TiltGen.stepLength_finished h, tiltAdvance_zero]; rfl
  case false => rw [TiltGen.stepLength_chosen hv hn h]; rfl

end Tilt

end Chosen

section Moving

variable {s : State} {t : Tier} {m : MoveRec} {p : Pos}

/-- The creep answer of an interval of a tier of its own: kept while the slew axis is latched or finished, else the ZU's on its
look-ahead window (R69, R91). -/
theorem creepNow_single (h : s.Single t m) (hc : (s.tier t).cmd = some p) :
    s.creepNow m = if m.slew.finished = true ∨ m.slew.latch = true then m.slew.creep
      else s.creepAnswer m.cls (lookAhead (s.prof t) m.dir m.band p.slew (s.prof t).slewAcc m.slew.speed) := by
  have hpos : s.cmdPos t = p := by simp [State.cmdPos, hc]
  have hacc : s.slewAccOf m.tiers = (s.prof t).slewAcc := by rw [Single_tiers h]; rfl
  rw [State.creepNow, h.2.1, hpos, hacc]
  cases m.slew.finished <;> cases m.slew.latch <;> simp

/-- The cap of the slew axis of a tier of its own: its profile's maximum, its grant's cap, and creep for a MAINT move or
under a creep answer (R80, R91). -/
theorem capNow_single {g : Grant} {k : Nat} (h : s.Single t m) (hg : s.aa.grants.find? (fun x => x.names t) = some g)
    (hk : g.cap = some k) :
    s.capNow m = if s.creepNow m = true ∨ m.cls = .maint then min (min (s.prof t).slewMax k) s.site.creep
      else min (s.prof t).slewMax k := by
  have hmax : s.slewMaxOf m.tiers = (s.prof t).slewMax := by rw [Single_tiers h]; rfl
  have hgrant : s.grantOf m.leader = some g := by rw [h.2.1]; exact hg
  simp [State.capNow, State.slewCap, hmax, hgrant, hk]

/-- The interval of a tier of its own after which an axis still has to go: the record of its new positions is handed over, and
its move goes on (R79, R83, R151). -/
theorem setpointInterval_moving (hrun : s.phase = .running) (hi : s.installed t = true) (h : s.Single t m)
    (hst : (s.tier t).state = .moving) (hstop : (s.tier t).stop ≠ .quick) (hc : (s.tier t).cmd = some p)
    (hnew : ∀ x ∈ s.dlp.txList, x.tier ≠ t) (hgoes : (s.stepped m (s.prof t)).finished = false) :
    exec (.setpointInterval t) s = .next (s.advanced t m p).kick := by
  have hunfinished : (s.advanced t m p).finishMove t = s.advanced t m p := by
    refine finishMove_of_unfinished fun x hx => ?_
    rw [advanced_tier] at hx
    cases hx
    exact hgoes
  refine (during_next hrun _).trans ?_
  rw [if_pos hi, interval_running h hst hstop hc hnew, hunfinished]

end Moving

/-- Settles O42: the cap and the speeds written out in the statement are those of the generators' steps, and the interval
hands the record over and leaves the move running. -/
theorem intervalMoving : Obligations.IntervalMoving := by
  unfold Obligations.IntervalMoving
  rintro t m p p' g q k c u v n ut vt nt w latch latcht slew tilt s hrun hi hm hst hstop hcmd hg hk hnew rfl hw hc hu hv hn
    hslew hut hvt hnt htilt hp hgoes
  have hcreep : w = s.creepNow m := hw.trans (creepNow_single hm hcmd).symm
  have hcap : c = s.capNow m := by rw [hc, hcreep, capNow_single hm hg hk]
  have hchoice : (v, latch) = chooseSpeed (s.prof t).slewAcc c m.slew.speed m.slew.rem m.slew.latch := by
    rw [hv, hu, chooseSpeed_eq]; rfl
  have hchoicet : (vt, latcht) =
      chooseSpeed (s.prof t).tiltAcc (s.prof t).tiltSpeed m.tilt.speed m.tilt.rem m.tilt.latch := by
    rw [hvt, hut, chooseSpeed_eq]; rfl
  have hslewStep : SlewGen.step { m.slew with creep := w } (s.prof t).slewAcc c = slew := by
    rw [hslew, SlewGen.step_chosen (g := { m.slew with creep := w }) hchoice hn]
    show (if m.slew.finished = true then _ else _) = _
    split
    case isTrue hf => rw [hw, if_pos (.inl hf)]
    case isFalse => rfl
  have htiltStep : m.tilt.step (s.prof t).tiltAcc (s.prof t).tiltSpeed = tilt :=
    (TiltGen.step_chosen hchoicet hnt).trans htilt.symm
  have hmove : s.stepped m (s.prof t) = { m with slew := slew, tilt := tilt } := by
    rw [State.stepped, ← hcap, ← hcreep, hslewStep, htiltStep]
  have hpos : s.steppedPos m (s.prof t) p = p' := by
    rw [State.steppedPos, ← hcap, advance_chosen hchoice hn, tiltAdvance_chosen hchoicet hnt, hp]
    rfl
  have hrest : (s.stepped m (s.prof t)).finished = false := by
    rw [hmove]
    exact Bool.and_eq_false_iff.mpr hgoes
  rw [setpointInterval_moving hrun hi hm hst hstop hcmd hnew hrest, State.advanced, hmove, hpos]
  rfl

end Sys2Proof.Machine
end

section
/-! PROOFS. CONVERT-ABORT (R85, R98, R124, R128): the removal of the conversion's entries, the count of the tiers it drops, the
halt of the moving ones, and the end of the conversion. -/

namespace Sys2Proof.Machine

/-! ### The conversion record (R118, R124) -/

section Record

variable {s : State} {t u : Tier}

/-- A tier's part of the conversion record is what has been set, and no other changes. -/
theorem setConvTier_convTier (c : ConvTier) : (s.setConvTier u c).convTier t = if t = u then c else s.convTier t := by
  split
  case isTrue h => rw [h]; exact vector_get_set_self _ _ _
  case isFalse h => exact vector_get_set_ne _ h _

/-- A tier counted dropped, and no other. -/
theorem countDropped_convTier :
    (s.countDropped u).convTier t = if t = u then ⟨.dropped, .none, false⟩ else s.convTier t :=
  setConvTier_convTier (s := s) _

/-- The conversion is open while some tier is WAITING or MOVING (R128). -/
theorem convOpen_iff : s.convOpen = true ↔ ∃ t, (s.convTier t).status = .waiting ∨ (s.convTier t).status = .moving := by
  simp only [State.convOpen, List.any_eq_true, Vector.mem_toList_iff, Vector.mem_iff_getElem, Bool.or_eq_true,
    decide_eq_true_eq]
  constructor
  · rintro ⟨_, ⟨i, hi, rfl⟩, h⟩
    exact ⟨⟨i, hi⟩, h⟩
  · rintro ⟨t, h⟩
    exact ⟨s.convTier t, ⟨t.val, t.isLt, rfl⟩, h⟩

/-- An ABORTING conversion goes on while it is open (R128). -/
theorem convCheck_open (hst : s.cu.state = .aborting) (ho : s.convOpen = true) : s.convCheck = s := by
  simp [State.convCheck, hst, ho]

/-- The report of a conversion that has been aborted, with its counts (R125). -/
def State.abortReport (s : State) : Report := .conversion s.cu.slot .aborted s.cu.done s.cu.dropped s.cu.total none

/-- An ABORTING conversion that is open no more is ABORTED, with its report (R125, R128). -/
theorem convCheck_closed (hr : s.Room 1) (hst : s.cu.state = .aborting) (ho : s.convOpen = false) :
    s.convCheck = (s.setConvState .aborted).told [s.abortReport] := by
  simp only [State.convCheck, hst, ho, Bool.false_eq_true, if_false]
  exact report_eq_told (s := s.setConvState .aborted) hr

/-- An ABORTED conversion stays so. -/
theorem convCheck_aborted (hst : s.cu.state = .aborted) : s.convCheck = s := by
  simp [State.convCheck, hst]

end Record

/-! ### The PENDING tiers discarded (R128) -/

section Discard

variable {s : State} {ts : List Tier} {u : Tier}

/-- What a tier's part of the conversion record becomes when the conversion is aborted: a WAITING tier is dropped, every
other loses its release-wanted flag (R128). -/
def ConvTier.aborted (c : ConvTier) : ConvTier :=
  if c.status = .waiting then ⟨.dropped, .none, false⟩ else { c with releaseWanted := false }

/-- The state in which the tiers of a list have been discarded, those that were WAITING counted dropped (R124, R128). -/
def State.discarded (s : State) (ts : List Tier) : State :=
  { s with cu := { s.cu with
    dropped := s.cu.dropped + (s.waitingOf ts).length
    tiers := Vector.ofFn fun t => if t ∈ ts then (s.convTier t).aborted else s.convTier t } }

theorem discarded_convTier (t : Tier) :
    (s.discarded ts).convTier t = if t ∈ ts then (s.convTier t).aborted else s.convTier t := by
  simp [State.discarded, State.convTier, Vector.get_eq_getElem]

theorem discarded_nil (s : State) : s.discarded [] = s := by
  have htiers : (Vector.ofFn fun t => s.convTier t) = s.cu.tiers := by
    ext i hi
    simp [State.convTier, Vector.get_eq_getElem]
  simp [State.discarded, State.waitingOf, htiers]

/-- Without a WAITING tier of the list none is counted dropped. -/
theorem discarded_dropped_of_none (h : ∀ t ∈ ts, (s.convTier t).status ≠ .waiting) :
    (s.discarded ts).cu.dropped = s.cu.dropped := by
  have hnone : s.waitingOf ts = [] := List.filter_eq_nil_iff.mpr (by simpa using h)
  show s.cu.dropped + (s.waitingOf ts).length = _
  rw [hnone]
  rfl

/-- Discarding a tier that is PENDING if it is WAITING (R128). -/
theorem convDiscard_eq (hp : (s.convTier u).status = .waiting → (s.convTier u).entry = .pending) :
    s.convDiscard u = { s with cu := { s.cu with
      dropped := s.cu.dropped + (s.waitingOf [u]).length
      tiers := s.cu.tiers.set u (s.convTier u).aborted } } := by
  by_cases hw : (s.convTier u).status = .waiting
  · simp [State.convDiscard, State.countDropped, State.setConvTier, State.waitingOf, ConvTier.aborted, hw, hp hw]
  · simp [State.convDiscard, State.setConvTier, State.waitingOf, ConvTier.aborted, hw]

/-- One more tier discarded. -/
theorem discarded_convDiscard (hu : u ∉ ts) (hp : (s.convTier u).status = .waiting → (s.convTier u).entry = .pending) :
    (s.discarded ts).convDiscard u = s.discarded (ts ++ [u]) := by
  have hkept : (s.discarded ts).convTier u = s.convTier u := by rw [discarded_convTier, if_neg hu]
  have hcount : ((s.discarded ts).waitingOf [u]).length = (s.waitingOf [u]).length := by
    simp only [State.waitingOf, List.filter_cons, List.filter_nil, hkept]
  have htiers : (s.discarded ts).cu.tiers.set u (s.convTier u).aborted = (s.discarded (ts ++ [u])).cu.tiers := by
    ext i hi : 1
    by_cases h : u.val = i
    · subst h; simp [State.discarded]
    · have hne : (⟨i, hi⟩ : Tier) ≠ u := fun e => h (congrArg Fin.val e).symm
      simp [State.discarded, Vector.getElem_set_ne, h, hne]
  rw [convDiscard_eq (by rw [hkept]; exact hp), hkept, htiers, hcount]
  simp only [State.discarded, State.waitingOf, List.filter_append, List.length_append, Nat.add_assoc]

/-- The tiers of a list discarded one after another, where each WAITING one is PENDING (R128). -/
theorem foldl_convDiscard (hnd : ts.Nodup)
    (hp : ∀ t ∈ ts, (s.convTier t).status = .waiting → (s.convTier t).entry = .pending) :
    ts.foldl State.convDiscard s = s.discarded ts := by
  induction ts using List.reverseRecOn with
  | nil => exact (discarded_nil s).symm
  | append_singleton ts u ih =>
    rw [List.nodup_append] at hnd
    have hu : u ∉ ts := fun h => hnd.2.2 u h u (List.mem_singleton_self u) rfl
    rw [List.foldl_append, ih hnd.1 fun t h => hp t (by simp [h]), List.foldl_cons, List.foldl_nil]
    exact discarded_convDiscard hu (hp u (by simp))

end Discard

/-! ### The conversion's tiers after the removal of its entries (R85, R128) -/

section Rest

variable {s : State} {u : Tier}

/-- CONVERT-ABORT from the removal of the conversion's entries on: the PENDING tiers discarded, the MOVING ones halted, and the
test whether the conversion is ended (R128). -/
def State.abortTiers (s : State) : State :=
  let s := allTiers.foldl State.convDiscard s
  let moving := allTiers.filter fun t => decide ((s.convTier t).status = .moving)
  (moving.foldl (fun s t => s.controlledHalt t .halted false) s).convCheck

theorem abortConversion_eq :
    s.abortConversion = ((s.aa.queue.filter fun e => decide (e.origin = .conversion)).foldl
      (fun s e => s.removeEntry e .cancelled) (s.setConvState .aborting)).abortTiers := rfl

/-- Without entries of the conversion none is removed (R128). -/
theorem abortConversion_of_none (hq : ∀ e ∈ s.aa.queue, e.origin ≠ .conversion) :
    s.abortConversion = (s.setConvState .aborting).abortTiers := by
  have hnone : s.aa.queue.filter (fun e => decide (e.origin = .conversion)) = [] :=
    List.filter_eq_nil_iff.mpr (by simpa using hq)
  rw [abortConversion_eq, hnone]
  rfl

/-- Each tier is one of the twelve, once. -/
theorem filter_allTiers_eq : ∀ u : Tier, (allTiers.filter fun t => decide (t = u)) = [u] := by decide

/-- A tier that has been discarded is MOVING exactly if it was, and no longer WAITING. -/
theorem discarded_status (t : Tier) : (((s.discarded allTiers).convTier t).status = .moving ↔ (s.convTier t).status = .moving) ∧
    ((s.discarded allTiers).convTier t).status ≠ .waiting := by
  rw [discarded_convTier, if_pos (mem_allTiers t), ConvTier.aborted]
  split
  case isTrue h => simp [h]
  case isFalse h => exact ⟨Iff.rfl, h⟩

variable (hp : ∀ t, (s.convTier t).status = .waiting → (s.convTier t).entry = .pending)

include hp

/-- The tiers of a conversion without a moving tier: they are discarded, and the end of the conversion is tested (R128). -/
theorem abortTiers_unmoving (hm : ∀ t, (s.convTier t).status ≠ .moving) :
    s.abortTiers = (s.discarded allTiers).convCheck := by
  have hnone : (allTiers.filter fun t => decide (((s.discarded allTiers).convTier t).status = .moving)) = [] :=
    List.filter_eq_nil_iff.mpr fun t _ => by simpa only [decide_eq_true_eq, (discarded_status t).1] using hm t
  simp only [State.abortTiers, foldl_convDiscard allTiers_nodup fun t _ => hp t, hnone, List.foldl_nil]

/-- A conversion without a moving tier is ABORTED at once (R128). -/
theorem abortTiers_ends (hr : s.Room 1) (hst : s.cu.state = .aborting) (hm : ∀ t, (s.convTier t).status ≠ .moving) :
    s.abortTiers = ((s.discarded allTiers).setConvState .aborted).told [(s.discarded allTiers).abortReport] := by
  have hclosed : (s.discarded allTiers).convOpen = false := by
    rw [← Bool.not_eq_true, convOpen_iff]
    rintro ⟨t, h | h⟩
    · exact (discarded_status t).2 h
    · exact hm t ((discarded_status t).1.mp h)
  rw [abortTiers_unmoving hp hm, convCheck_closed (s := s.discarded allTiers) hr hst hclosed]

/-- A test of the conversion's end that comes before its tiers are discarded makes no difference: it ends the conversion only
where none of them is WAITING (R128). -/
theorem abortTiers_convCheck (hr : s.Room 1) (hst : s.cu.state = .aborting) (hm : ∀ t, (s.convTier t).status ≠ .moving) :
    s.convCheck.abortTiers = s.abortTiers := by
  cases ho : s.convOpen
  case true => rw [convCheck_open hst ho]
  case false =>
    have hnone : ∀ t, (s.convTier t).status ≠ .waiting := fun t h => by
      rw [convOpen_iff.mpr ⟨t, .inl h⟩] at ho
      cases ho
    have hreport : (s.discarded allTiers).abortReport = s.abortReport := by
      rw [State.abortReport, discarded_dropped_of_none fun t _ => hnone t]
      rfl
    rw [convCheck_closed hr hst ho, abortTiers_ends hp hr hst hm, hreport,
      abortTiers_unmoving (s := (s.setConvState .aborted).told _) (fun t h => absurd h (hnone t)) hm]
    exact convCheck_aborted rfl

/-- A tier that runs a conversion move of its own is halted, and the conversion waits for it (R85, R128). -/
theorem abortTiers_halts {m : MoveRec} (hst : s.cu.state = .aborting) (hm : ∀ t, (s.convTier t).status = .moving ↔ t = u)
    (h : s.Single u m) (hmoving : (s.tier u).state = .moving) (hstop : (s.tier u).stop = .none) (hb : m.Brakes (s.prof u)) :
    s.abortTiers = (s.discarded allTiers).modTier u fun r =>
      { r with stop := .halt .halted, move := some (m.braked (s.prof u)) } := by
  have hone : (allTiers.filter fun t => decide (((s.discarded allTiers).convTier t).status = .moving)) = [u] := by
    simp only [(discarded_status _).1, hm]
    exact filter_allTiers_eq u
  have hhalt := controlledHalt_running (s := s.discarded allTiers) h hmoving hstop hb .halted false
  simp only [stopping_false] at hhalt
  simp only [State.abortTiers, foldl_convDiscard allTiers_nodup fun t _ => hp t, hone, List.foldl_cons, List.foldl_nil, hhalt]
  exact convCheck_open hst (convOpen_iff.mpr ⟨u, .inr ((discarded_status u).1.mpr ((hm u).mpr rfl))⟩)

end Rest

/-! ### The removal of a queued entry of the conversion (R98, R124) -/

section Queued

variable {s : State} {u : Tier} {e : Entry}

/-- The test of a conversion's end looks at no scan trigger. -/
theorem convCheck_trigger (hr : s.Room 1) (hst : s.cu.state = .aborting) : s.convCheck.trigger = s.trigger.convCheck := by
  cases ho : s.convOpen
  case true => rw [convCheck_open hst ho, convCheck_open (s := s.trigger) hst ho]
  case false => rw [convCheck_closed hr hst ho, convCheck_closed (s := s.trigger) hr hst ho]; rfl

/-- An entry of the conversion has left the queue: its tier is counted dropped, and the conversion's end is tested (R124). -/
theorem convEntryRemoved_eq (hst : s.cu.state = .aborting) (hw : (s.convTier u).status = .waiting)
    (hq : (s.convTier u).entry = .queued) : s.convEntryRemoved u = (s.countDropped u).convCheck := by
  simp [State.convEntryRemoved, State.convActive, hst, hw, hq]

/-- The report of an entry of the conversion that is removed by its abort (R98, R128). -/
def convDropReport (e : Entry) : Report := .requestDropped e.tier e.members e.kind .conversion .cancelled

/-- The state in which the conversion's entry of a tier is gone and the tier is counted dropped (R98, R124). -/
def State.withoutConvEntry (s : State) (e : Entry) : State := (s.unqueue e).countDropped e.tier

theorem withoutConvEntry_convTier (t : Tier) :
    (s.withoutConvEntry e).convTier t = if t = e.tier then ⟨.dropped, .none, false⟩ else s.convTier t :=
  countDropped_convTier (s := s.unqueue e)

/-- The removal of a conversion's entry while the conversion is ABORTING: its report, the tier counted dropped, and the test
of the conversion's end (R98, R124). -/
theorem removeEntry_conversion (hr : s.Room 2) (ho : e.origin = .conversion) (hst : s.cu.state = .aborting)
    (hw : (s.convTier e.tier).status = .waiting) (hq : (s.convTier e.tier).entry = .queued) :
    s.removeEntry e .cancelled = ((s.withoutConvEntry e).told [convDropReport e]).convCheck := by
  have hreport := report_eq_told (s := { s with aa := { s.aa with queue := s.aa.queue.erase e } })
    (r := convDropReport e) (room_mono hr (by decide))
  rw [convDropReport] at hreport
  simp only [State.removeEntry, State.dropEntry, ho, hreport]
  rw [convEntryRemoved_eq (by exact hst) (by exact hw) (by exact hq),
    convCheck_trigger (by exact (told_room (s := s) _ _).mpr hr) (by exact hst)]
  rfl

/-- A tier counted dropped with its entry is counted as a discarded one would be (R124, R128). -/
theorem withoutConvEntry_discarded (hw : (s.convTier e.tier).status = .waiting) :
    (s.withoutConvEntry e).discarded allTiers = (s.unqueue e).discarded allTiers := by
  have hwaiting : (s.withoutConvEntry e).waitingOf allTiers = (s.waitingOf allTiers).erase e.tier := by
    rw [State.waitingOf, State.waitingOf, (allTiers_nodup.filter _).erase_eq_filter, List.filter_filter]
    refine List.filter_congr fun t _ => ?_
    rw [withoutConvEntry_convTier]
    by_cases h : t = e.tier <;> simp [h]
  have hmem : e.tier ∈ s.waitingOf allTiers := List.mem_filter.mpr ⟨mem_allTiers _, decide_eq_true hw⟩
  have hcount : s.cu.dropped + 1 + ((s.withoutConvEntry e).waitingOf allTiers).length =
      s.cu.dropped + (s.waitingOf allTiers).length := by
    have hpos := List.length_pos_of_mem hmem
    rw [hwaiting, List.length_erase_of_mem hmem]
    omega
  have htier (t : Tier) : ((s.withoutConvEntry e).convTier t).aborted = (s.convTier t).aborted := by
    rw [withoutConvEntry_convTier]
    split
    case isTrue h => simp [h, ConvTier.aborted, hw]
    case isFalse => rfl
  simp only [State.discarded, mem_allTiers, if_true, htier]
  exact congrArg (fun n => { s.unqueue e with cu := { s.cu with
    dropped := n, tiers := Vector.ofFn fun t => (s.convTier t).aborted } }) hcount

end Queued

/-! ### CONVERT-ABORT -/

section Abort

variable {s : State}

/-- CONVERT-ABORT on a conversion that moves no tier and has no entry in the queue (R128). -/
theorem abortConversion_idle (hr : s.Room 1) (hq : ∀ e ∈ s.aa.queue, e.origin ≠ .conversion)
    (hm : ∀ t, (s.convTier t).status ≠ .moving)
    (hp : ∀ t, (s.convTier t).status = .waiting → (s.convTier t).entry = .pending) :
    s.abortConversion = ((s.discarded allTiers).setConvState .aborted).told [(s.discarded allTiers).abortReport] := by
  rw [abortConversion_of_none hq]
  exact abortTiers_ends (s := s.setConvState .aborting) hp hr rfl hm

/-- CONVERT-ABORT on a conversion that moves no tier and has one entry in the queue (R98, R128). -/
theorem abortConversion_queued {e : Entry} (hr : s.Room 2)
    (hone : (s.aa.queue.filter fun q => decide (q.origin = .conversion)) = [e])
    (hw : (s.convTier e.tier).status = .waiting) (hq : (s.convTier e.tier).entry = .queued)
    (hm : ∀ t, (s.convTier t).status ≠ .moving)
    (hp : ∀ t, t ≠ e.tier → (s.convTier t).status = .waiting → (s.convTier t).entry = .pending) :
    s.abortConversion = (((s.unqueue e).discarded allTiers).setConvState .aborted).told
      [convDropReport e, (s.discarded allTiers).abortReport] := by
  have ho : e.origin = .conversion := by
    have hmem : e ∈ s.aa.queue.filter fun q => decide (q.origin = .conversion) := by rw [hone]; exact List.mem_singleton_self e
    exact of_decide_eq_true (List.mem_filter.mp hmem).2
  generalize hx : ((s.setConvState .aborting).withoutConvEntry e).told [convDropReport e] = x
  have htier (t : Tier) : x.convTier t = if t = e.tier then ⟨.dropped, .none, false⟩ else s.convTier t := by
    rw [← hx]; exact withoutConvEntry_convTier t
  have hremove : (s.setConvState .aborting).removeEntry e .cancelled = x.convCheck := by
    rw [← hx]; exact removeEntry_conversion (by exact hr) ho rfl hw hq
  have hroom : x.Room 1 := by
    rw [← hx]; exact (told_room _ _ _).mpr hr
  have hpending (t : Tier) (h : (x.convTier t).status = .waiting) : (x.convTier t).entry = .pending := by
    rw [htier] at h ⊢
    split at h
    case isTrue => cases h
    case isFalse hne => rw [if_neg hne]; exact hp t hne h
  have hstill (t : Tier) : (x.convTier t).status ≠ .moving := by
    rw [htier]
    split
    case isTrue => decide
    case isFalse => exact hm t
  have hdiscard : x.discarded allTiers =
      (((s.setConvState .aborting).unqueue e).discarded allTiers).told [convDropReport e] := by
    rw [← withoutConvEntry_discarded (s := s.setConvState .aborting) hw, ← hx]
    rfl
  have hstate : x.cu.state = .aborting := by rw [← hx]; rfl
  rw [abortConversion_eq, hone, List.foldl_cons, List.foldl_nil, hremove, abortTiers_convCheck hpending hroom hstate hstill,
    abortTiers_ends hpending hroom hstate hstill, hdiscard]
  exact told_told (((s.unqueue e).discarded allTiers).setConvState .aborted) [convDropReport e]
    [(s.discarded allTiers).abortReport]

/-- CONVERT-ABORT on a conversion that moves one tier, by a move of its own, and has no entry in the queue (R85, R128). -/
theorem abortConversion_moving {u : Tier} {m : MoveRec} (hq : ∀ e ∈ s.aa.queue, e.origin ≠ .conversion)
    (hm : ∀ t, (s.convTier t).status = .moving ↔ t = u)
    (hp : ∀ t, (s.convTier t).status = .waiting → (s.convTier t).entry = .pending)
    (h : s.Single u m) (hmoving : (s.tier u).state = .moving) (hstop : (s.tier u).stop = .none) (hb : m.Brakes (s.prof u)) :
    s.abortConversion = ((s.discarded allTiers).setConvState .aborting).modTier u fun r =>
      { r with stop := .halt .halted, move := some (m.braked (s.prof u)) } := by
  rw [abortConversion_of_none hq]
  exact abortTiers_halts (s := s.setConvState .aborting) hp rfl hm h hmoving hstop hb

end Abort

/-- Settles O25: N where no conversion runs, and else the tiers discarded after the removal of an entry, with the end of the
conversion at once or a halt to wait for. -/
theorem convertAbortEnds : Obligations.ConvertAbortEnds := by
  unfold Obligations.ConvertAbortEnds
  refine fun tag s h hroom => ⟨fun hst => ?none, fun d hst hd => ⟨(s.discarded allTiers).cu.tiers, fun t => ?tiers,
    fun hq hm hp => ?idle, fun u e hone hu hw hq hm hp => ?queued, fun u m hq hm hp hs hmoving hstop hb => ?moving⟩⟩
  case none =>
    have hserve : s.serveConvertAbort = s.accept := by
      rw [State.serveConvertAbort, if_neg]
      rintro (hrun | hrun) <;> simp [hrun] at hst
    exact request_same h hserve (by decide)
  case tiers => exact (discarded_convTier t).trans (if_pos (mem_allTiers t))
  all_goals
    subst hd
    have hserve : s.serveConvertAbort = s.abortConversion.accept := if_pos hst
  case idle =>
    exact request_next h (hserve.trans (congrArg State.accept
      (abortConversion_idle (room_mono hroom (by decide)) hq hm hp))) (by decide) rfl
  case queued =>
    subst hu
    exact request_next h (hserve.trans (congrArg State.accept (abortConversion_queued hroom hone hw hq hm hp)))
      (by decide) rfl
  case moving =>
    exact request_next h (hserve.trans (congrArg State.accept
      ((abortConversion_moving hq hm hp hs hmoving hstop hb).trans (told_nil _).symm))) (by decide) rfl

end Sys2Proof.Machine
end

section
/-! PROOFS. What the operations of the hall do to the arbiter (R95, R96): outside the scan and a budget change its budget stays,
its grants only go, and its queue keeps its bounds. -/

namespace Sys2Proof.Machine

/-! ### The bounds of the queue (R96) -/

section Queue

variable {q r : List Entry}

/-- At most 8 entries, no two of which name one tier (R96). -/
def QueueBounds (q : List Entry) : Prop := q.length ≤ 8 ∧ q.Pairwise fun e f => e.tiers.any f.names = false

theorem arbiterBounds_iff (s : State) : s.ArbiterBounds ↔ QueueBounds s.aa.queue ∧ s.allocated ≤ s.aa.budget :=
  and_assoc.symm

/-- The entries that are left of a bounded queue. -/
theorem QueueBounds.sublist (h : QueueBounds q) (hr : r.Sublist q) : QueueBounds r :=
  ⟨hr.length_le.trans h.1, h.2.sublist hr⟩

/-- A change of entries that keeps the tiers they name. -/
theorem QueueBounds.map (h : QueueBounds q) {f : Entry → Entry} (hf : ∀ e, (f e).tiers = e.tiers) : QueueBounds (q.map f) := by
  refine ⟨by simpa using h.1, List.pairwise_map.mpr (h.2.imp fun {e e'} hne => ?_)⟩
  have hnames : (f e').names = e'.names := by funext t; simp [Entry.names, hf]
  rwa [hf, hnames]

/-- The checks of R97 leave room, and name no tier that another entry names. -/
theorem QueueBounds.offered {s : State} {e : Entry} (h : QueueBounds s.aa.queue) (hc : s.offerCheck e = none) :
    QueueBounds (s.aa.queue ++ [e]) := by
  unfold State.offerCheck at hc
  split at hc
  · cases hc
  · rename_i hnew
    split at hc
    · cases hc
    · rename_i hroom
      refine ⟨by simp; omega, List.pairwise_append.mpr ⟨h.2, List.pairwise_singleton _ _, fun x hx y hy => ?_⟩⟩
      rw [List.mem_singleton.mp hy, List.any_eq_false]
      intro t ht hnames
      refine hnew (List.any_eq_true.mpr ⟨x, hx, List.any_eq_true.mpr ⟨t, ?_, ?_⟩⟩)
      · simpa [Entry.names] using hnames
      · simpa [Entry.names] using ht

end Queue

/-! ### An arbiter within another -/

/-- The budget of `a`, grants that are left of those of `a`, and a queue that is bounded if that of `a` is. -/
structure Arbiter.Within (b a : Arbiter) : Prop where
  budget : b.budget = a.budget
  grants : b.grants.Sublist a.grants
  queue : QueueBounds a.queue → QueueBounds b.queue

/-- The arbiter of a state lies within `a`. -/
def State.Within (s : State) (a : Arbiter) : Prop := s.aa.Within a

theorem within_self (s : State) : s.Within s.aa := ⟨rfl, List.Sublist.refl _, id⟩

/-- The allocations that are left sum to no more (R95). -/
theorem State.Within.allocated_le {s : State} {a : Arbiter} (h : s.Within a) : s.allocated ≤ (a.grants.map (·.alloc)).sum :=
  (h.grants.map _).sum_le_sum (by simp)

/-- What is within a bounded arbiter is bounded. -/
theorem State.Within.bounds {s x : State} (h : x.Within s.aa) (hs : s.ArbiterBounds) : x.ArbiterBounds := by
  rw [arbiterBounds_iff] at hs ⊢
  exact ⟨h.queue hs.1, h.budget ▸ h.allocated_le.trans hs.2⟩

section Folds

variable {α β : Type} {a : Arbiter}

theorem foldl_within (f : State → α → State) (hf : ∀ s x, s.Within a → (f s x).Within a) (l : List α) {s : State}
    (h : s.Within a) : (l.foldl f s).Within a := by
  induction l generalizing s with
  | nil => exact h
  | cons x l ih => exact ih (hf s x h)

theorem foldl_fst_within (f : State × β → α → State × β) (hf : ∀ x y, x.1.Within a → (f x y).1.Within a) (l : List α)
    {x : State × β} (h : x.1.Within a) : (l.foldl f x).1.Within a := by
  induction l generalizing x with
  | nil => exact h
  | cons y l ih => exact ih (hf x y h)

theorem eachGang_within (f : State → Tier → State) (hf : ∀ s t, s.Within a → (f s t).Within a) (ts : List Tier)
    {s : State} (h : s.Within a) : (State.eachGang f ts s).Within a := by
  unfold State.eachGang
  refine foldl_fst_within _ (fun x t hx => ?_) ts h
  split
  · exact hx
  · exact hf _ _ hx

end Folds

/-! ### Operations that leave budget, grants and entries as they are -/

section Kept

variable {a : Arbiter} (s : State) (t : Tier)

/-- An operation that changes no more of the arbiter than its count of triggers. -/
theorem within_iff_of_aa {x : State} (hb : x.aa.budget = s.aa.budget) (hg : x.aa.grants = s.aa.grants)
    (hq : x.aa.queue = s.aa.queue) : x.Within a ↔ s.Within a := by
  refine ⟨fun h => ⟨?_, ?_, fun ha => ?_⟩, fun h => ⟨?_, ?_, fun ha => ?_⟩⟩
  · exact hb ▸ h.budget
  · exact hg ▸ h.grants
  · exact hq ▸ h.queue ha
  · exact hb ▸ h.budget
  · exact hg ▸ h.grants
  · exact hq ▸ h.queue ha

theorem foldl_within_iff {α : Type} (f : State → α → State) (hf : ∀ s x, (f s x).Within a ↔ s.Within a) (l : List α) :
    (l.foldl f s).Within a ↔ s.Within a := by
  induction l generalizing s with
  | nil => exact Iff.rfl
  | cons x l ih => rw [List.foldl_cons, ih, hf]

@[simp] theorem modTier_within (f : TierRec → TierRec) : (s.modTier t f).Within a ↔ s.Within a := within_iff_of_aa s rfl rfl rfl

@[simp] theorem modLink_within (f : LinkRec → LinkRec) : (s.modLink t f).Within a ↔ s.Within a := within_iff_of_aa s rfl rfl rfl

@[simp] theorem modFloor_within (f : Floor → Floor) : (s.modFloor f).Within a ↔ s.Within a := within_iff_of_aa s rfl rfl rfl

@[simp] theorem setConvTier_within (c : ConvTier) : (s.setConvTier t c).Within a ↔ s.Within a := within_iff_of_aa s rfl rfl rfl

@[simp] theorem setConvState_within (c : ConvState) : (s.setConvState c).Within a ↔ s.Within a :=
  within_iff_of_aa s rfl rfl rfl

@[simp] theorem useFree_within : s.useFree.Within a ↔ s.Within a := within_iff_of_aa s rfl rfl rfl

@[simp] theorem trigger_within : s.trigger.Within a ↔ s.Within a := within_iff_of_aa s rfl rfl rfl

@[simp] theorem triggerIf_within (b : Bool) : (s.triggerIf b).Within a ↔ s.Within a := by
  cases b
  · exact Iff.rfl
  · exact trigger_within s

@[simp] theorem report_within (r : Report) : (s.report r).Within a ↔ s.Within a := by simp [State.Within]

@[simp] theorem reportAll_within (rs : List Report) : (s.reportAll rs).Within a ↔ s.Within a :=
  foldl_within_iff s _ report_within rs

@[simp] theorem modTiers_within (ts : List Tier) (f : TierRec → TierRec) : (s.modTiers ts f).Within a ↔ s.Within a :=
  foldl_within_iff s _ (fun s t => modTier_within s t f) ts

@[simp] theorem modMoves_within (ts : List Tier) (f : MoveRec → MoveRec) : (s.modMoves ts f).Within a ↔ s.Within a :=
  foldl_within_iff s _ (fun s t => modTier_within s t _) ts

@[simp] theorem brakeMove_within (m : MoveRec) : (s.brakeMove m).Within a ↔ s.Within a := modMoves_within s _ _

@[simp] theorem setStop_within (ts : List Tier) (q : StopReq) : (s.setStop ts q).Within a ↔ s.Within a :=
  modTiers_within s ts _

@[simp] theorem setAuto_within (ts : List Tier) : (s.setAuto ts).Within a ↔ s.Within a := modMoves_within s ts _

@[simp] theorem setSecurePending_within : (s.setSecurePending t).Within a ↔ s.Within a := modTier_within s t _

/-! ### The conversion record, walks, states (R20, R124, R125, R136) -/

@[simp] theorem convReport_within (ev : ConvEvent) (who : Option (Tier × Code)) : (s.convReport ev who).Within a ↔ s.Within a :=
  report_within s _

@[simp] theorem countDone_within : (s.countDone t).Within a ↔ s.Within a := within_iff_of_aa s rfl rfl rfl

@[simp] theorem countDropped_within : (s.countDropped t).Within a ↔ s.Within a := within_iff_of_aa s rfl rfl rfl

@[simp] theorem setConvEntry_within (x : ConvEntry) : (s.setConvEntry t x).Within a ↔ s.Within a := setConvTier_within s t _

@[simp] theorem convCheck_within : s.convCheck.Within a ↔ s.Within a := by
  unfold State.convCheck
  (repeat' split) <;> simp

@[simp] theorem convDropWith_within (c : Code) : (s.convDropWith t c).Within a ↔ s.Within a := by simp [State.convDropWith]

@[simp] theorem convEntryRemoved_within : (s.convEntryRemoved t).Within a ↔ s.Within a := by
  unfold State.convEntryRemoved
  split <;> simp

@[simp] theorem convMoveEnd_within (r : MoveReason) : (s.convMoveEnd t r).Within a ↔ s.Within a := by
  unfold State.convMoveEnd
  (repeat' split) <;> simp

@[simp] theorem convAdmitted_within : (s.convAdmitted t).Within a ↔ s.Within a := by
  simp only [State.convAdmitted]
  (repeat' split) <;> simp

@[simp] theorem convDiscard_within : (s.convDiscard t).Within a ↔ s.Within a := by
  simp only [State.convDiscard]
  split <;> simp

@[simp] theorem modWalk_within (f : WalkRec → WalkRec) : (s.modWalk t f).Within a ↔ s.Within a := modTier_within s t _

@[simp] theorem haltWalk_within : (s.haltWalk t).Within a ↔ s.Within a := by
  unfold State.haltWalk
  split <;> simp

@[simp] theorem walkEnd_within (c : Code) : (s.walkEnd t c).Within a ↔ s.Within a := by simp [State.walkEnd]

@[simp] theorem walkEntryRemoved_within (c : Code) : (s.walkEntryRemoved t c).Within a ↔ s.Within a := by
  simp only [State.walkEntryRemoved]
  split <;> simp

@[simp] theorem enter_within (x : TierState) : (s.enter t x).Within a ↔ s.Within a := by simp [State.enter]

@[simp] theorem enterReleasing_within : (s.enterReleasing t).Within a ↔ s.Within a := by simp [State.enterReleasing]

@[simp] theorem enterSecuring_within : (s.enterSecuring t).Within a ↔ s.Within a := by simp [State.enterSecuring]

@[simp] theorem enterReady_within : (s.enterReady t).Within a ↔ s.Within a := by simp [State.enterReady]

@[simp] theorem tryRelease_within : (s.tryRelease t).2.Within a ↔ s.Within a := by
  unfold State.tryRelease
  (repeat' split) <;> simp

@[simp] theorem settleExpire_within : (s.settleExpire t).Within a ↔ s.Within a := by
  simp only [State.settleExpire]
  split <;> simp

@[simp] theorem enterSettling_within : (s.enterSettling t).Within a ↔ s.Within a := by
  simp only [State.enterSettling]
  split <;> simp

@[simp] theorem secureQuick_within : (s.secureQuick t).Within a ↔ s.Within a := foldl_within_iff s _ enterSecuring_within _

@[simp] theorem latch_within (k : FaultKind) : (s.latch t k).Within a ↔ s.Within a := by
  simp only [State.latch]
  split <;> simp

@[simp] theorem trimAll_within (ts : List Tier) : (s.trimAll ts).1.Within a ↔ s.Within a := by
  unfold State.trimAll
  split
  · dsimp only
    split <;> simp
  · simp

@[simp] theorem cmdFromActual_within : (s.cmdFromActual t).Within a ↔ s.Within a := modTier_within s t _

@[simp] theorem resumeMove_within (m : MoveRec) : (s.resumeMove m).Within a ↔ s.Within a := by
  simp [State.resumeMove, foldl_within_iff _ _ fun s u => enter_within s u _]

@[simp] theorem secureAtOnce_within : (s.secureAtOnce t).Within a ↔ s.Within a := by
  unfold State.secureAtOnce
  split <;> simp

@[simp] theorem completeAtOnce_within (l : Option Tier) (b : Bool) (ts : List Tier) :
    (s.completeAtOnce l b ts).Within a ↔ s.Within a := by
  have hreports := foldl_within_iff (a := a) s _ (fun s t => report_within s (.moveEnd t l .atTarget (s.cmdPos t))) ts
  simp only [State.completeAtOnce]
  split
  · rw [foldl_within_iff _ _ secureAtOnce_within, hreports]
  · exact hreports

/-! ### Samples, device faults, the drive link, the store (R138, R140, R153, R160, R167, R186) -/

@[simp] theorem requestSample_within (b c : Bool) : (s.requestSample t b c).Within a ↔ s.Within a := by
  simp only [State.requestSample]
  (repeat' split) <;> exact within_iff_of_aa s rfl rfl rfl

@[simp] theorem setSample_within (x : Sample) : (s.setSample t x).Within a ↔ s.Within a := within_iff_of_aa s rfl rfl rfl

@[simp] theorem nextChannel_within : s.nextChannel.Within a ↔ s.Within a := by
  unfold State.nextChannel
  split <;> exact within_iff_of_aa s rfl rfl rfl

@[simp] theorem expireFreshness_within : (s.expireFreshness t).Within a ↔ s.Within a := by
  unfold State.expireFreshness
  split <;> exact within_iff_of_aa s rfl rfl rfl

@[simp] theorem raiseDevice_within (k : DeviceFault) : (s.raiseDevice k).Within a ↔ s.Within a := by
  unfold State.raiseDevice
  split
  · exact Iff.rfl
  · exact report_within _ _

@[simp] theorem clearDevice_within (k : DeviceFault) : (s.clearDevice k).Within a ↔ s.Within a := by
  unfold State.clearDevice
  split
  · rw [trigger_within, report_within]
    exact within_iff_of_aa s rfl rfl rfl
  · exact Iff.rfl

@[simp] theorem failsafeConversion_within : s.failsafeConversion.Within a ↔ s.Within a := by
  unfold State.failsafeConversion
  split <;> simp [foldl_within_iff _ _ convDiscard_within]

@[simp] theorem handRecord_within (r : SetpointRecord) : (s.handRecord r).Within a ↔ s.Within a := by
  unfold State.handRecord
  split <;> exact within_iff_of_aa s rfl rfl rfl

@[simp] theorem stepMove_within (m : MoveRec) : (s.stepMove m).Within a ↔ s.Within a := by simp [State.stepMove]

@[simp] theorem recordSent_within : s.recordSent.Within a ↔ s.Within a := by
  unfold State.recordSent
  split
  · exact Iff.rfl
  · exact within_iff_of_aa s rfl rfl rfl

@[simp] theorem takePosition_within (f : Feedback) : (s.takePosition f).Within a ↔ s.Within a := modTier_within s _ _

@[simp] theorem trailingRelease_within (f : Feedback) : (s.trailingRelease f).Within a ↔ s.Within a := by
  simp only [State.trailingRelease]
  (repeat' split) <;> simp

@[simp] theorem brakeWatch_within (b : Bool) (n : Nat) : (s.brakeWatch t b n).Within a ↔ s.Within a := modTier_within s t _

@[simp] theorem linkStep_within : (s.linkStep t).Within a ↔ s.Within a := modLink_within s t _

@[simp] theorem setDriveFramer_within (x : DriveFramer) : (s.setDriveFramer x).Within a ↔ s.Within a :=
  within_iff_of_aa s rfl rfl rfl

@[simp] theorem settleTimeout_within : (s.settleTimeout t).Within a ↔ s.Within a := by
  unfold State.settleTimeout
  split <;> simp

@[simp] theorem tripRises_within (i : Input) : (s.tripRises i).Within a ↔ s.Within a := by
  unfold State.tripRises
  split
  · exact Iff.rfl
  · exact within_iff_of_aa s rfl rfl rfl

@[simp] theorem tripFalls_within (i : Input) : (s.tripFalls i).Within a ↔ s.Within a := by
  have hlevel : ((s.setLevel i false).trigger).Within a ↔ s.Within a := within_iff_of_aa s rfl rfl rfl
  simp only [State.tripFalls]
  (repeat' split)
  · exact hlevel
  · rw [report_within, hlevel]
  · exact Iff.rfl

@[simp] theorem completeStore_within (failed : BitVec 3) : (s.completeStore failed).Within a ↔ s.Within a := by
  have hdone (x : State) (k : StoreKind) (b : Bool) (n : BitVec 3) (hx : x.aa = s.aa) :
      (x.storeDone k b n).Within a ↔ s.Within a := by
    have hkept : x.Within a ↔ s.Within a := within_iff_of_aa s (by rw [hx]) (by rw [hx]) (by rw [hx])
    simp only [State.storeDone]
    split <;> simp [hkept]
  unfold State.completeStore
  split
  · exact Iff.rfl
  all_goals exact hdone _ _ _ _ rfl

@[simp] theorem completeStartUp_within : s.completeStartUp.Within a ↔ s.Within a := by
  unfold State.completeStartUp
  split
  · rw [reportAll_within]
    exact within_iff_of_aa s rfl rfl rfl
  · exact Iff.rfl

end Kept

end Sys2Proof.Machine
end

section
/-! PROOFS. The operations of the hall that take entries from the arbiter's queue, offer it further ones or free a grant
(R97, R98, R100): each leaves an arbiter within the one it found. -/

namespace Sys2Proof.Machine

section Hall

variable {a : Arbiter} {s : State} (h : s.Within a)

include h

/-! ### Entries and grants (R97, R98, R100) -/

theorem requeued_within {q : List Entry} (hq : QueueBounds s.aa.queue → QueueBounds q) :
    ({ s with aa := { s.aa with queue := q } } : State).Within a := ⟨h.budget, h.grants, fun ha => hq (h.queue ha)⟩

theorem enqueue_within {e : Entry} (hc : s.offerCheck e = none) : (s.enqueue e).Within a :=
  (trigger_within _).mpr (requeued_within h fun hq => hq.offered hc)

@[simp] theorem freeGrant_within (t : Tier) : (s.freeGrant t).Within a := by
  unfold State.freeGrant
  split
  · exact ⟨h.budget, List.filter_sublist.trans h.grants, h.queue⟩
  · exact h

@[simp] theorem removeGrant_within (g : Grant) : (s.removeGrant g).Within a :=
  ⟨h.budget, List.erase_sublist.trans h.grants, h.queue⟩

@[simp] theorem placeLeg_within (t : Tier) : (s.placeLeg t).Within a := by
  unfold State.placeLeg
  split
  · simp [h]
  · split
    · simp [h]
    · exact enqueue_within h ‹_›

@[simp] theorem walkMoveEnd_within (t : Tier) (r : MoveReason) : (s.walkMoveEnd t r).Within a := by
  simp only [State.walkMoveEnd]
  (repeat' split) <;> simp [h]

@[simp] theorem dropEntry_within (e : Entry) (c : Code) : (s.dropEntry e c).Within a := by
  have herase := requeued_within h fun hq => hq.sublist (List.erase_sublist (a := e))
  unfold State.dropEntry
  split <;> simp [herase]

@[simp] theorem removeEntry_within (e : Entry) (c : Code) : (s.removeEntry e c).Within a := by simp [State.removeEntry, h]

@[simp] theorem removeEntryOf_within (t : Tier) (c : Code) : (s.removeEntryOf t c).Within a := by
  unfold State.removeEntryOf
  split <;> simp [h]

@[simp] theorem moveEnd_within (t : Tier) (m : MoveRec) (r : MoveReason) : (s.moveEnd t m r).Within a := by
  simp only [State.moveEnd]
  split <;> simp [h]

theorem moveEnds_within (m : MoveRec) (r : MoveReason) (ts : List Tier) :
    (ts.foldl (fun s t => s.moveEnd t m r) s).Within a := foldl_within _ (fun _ t hs => moveEnd_within hs t m r) ts h

/-! ### States, faults, the end of a move (R23, R26, R42, R163) -/

@[simp] theorem convSecured_within (t : Tier) : (s.convSecured t).Within a := by
  have hrelease : ((s.setConvTier t { s.convTier t with releaseWanted := false }).tryRelease t).2.Within a := by simp [h]
  simp only [State.convSecured]
  split
  · split
    · rename_i hcode
      rw [hcode] at hrelease
      exact hrelease
    · rename_i c x _ hcode
      rw [hcode] at hrelease
      have hx : x.Within a := hrelease
      split <;> simp [hx]
  · exact h

@[simp] theorem enterSecured_within (t : Tier) : (s.enterSecured t).Within a := by simp [State.enterSecured, h]

@[simp] theorem abortTest_within (t : Tier) : (s.abortTest t).Within a := by simp [State.abortTest, h]

@[simp] theorem faultReaction_within (t : Tier) : (s.faultReaction t).Within a := by
  simp only [State.faultReaction, enter_within, modTier_within]
  refine removeEntryOf_within (freeGrant_within ?_ t) t _
  (repeat' split) <;> simp [h]

@[simp] theorem raiseFault_within (t : Tier) (k : FaultKind) : (s.raiseFault t k).Within a := by
  unfold State.raiseFault
  split
  · exact h
  · simp [h]
  · exact foldl_within _ (fun _ u hs => faultReaction_within hs u) _
      ((foldl_within_iff s _ (fun s u => latch_within s u k) _).mpr h)

@[simp] theorem leaveMove_within (auto : Bool) (after : AfterMove) (failed : List Tier) (t : Tier) :
    (s.leaveMove auto after failed t).Within a := by
  simp only [State.leaveMove]
  (repeat' split) <;> simp [h]

@[simp] theorem endMove_within (m : MoveRec) (r : MoveReason) (after : AfterMove) : (s.endMove m r after).Within a :=
  foldl_within _ (fun _ t hs => leaveMove_within hs _ _ _ t) _
    (moveEnds_within (freeGrant_within ((trimAll_within s _).mpr h) _) m r _)

@[simp] theorem finishMove_within (t : Tier) : (s.finishMove t).Within a := by
  simp only [State.finishMove]
  (repeat' split) <;> simp [h, foldl_within_iff _ _ fun s u => enter_within s u _]

@[simp] theorem controlledHalt_within (t : Tier) (r : MoveReason) (auto : Bool) : (s.controlledHalt t r auto).Within a := by
  simp only [State.controlledHalt]
  (repeat' split) <;> simp [h]

@[simp] theorem safetyStop_within (r : MoveReason) (test : Bool) (t : Tier) : (s.safetyStop r test t).Within a := by
  unfold State.safetyStop
  (repeat' split) <;> simp [h]

/-! ### The trim at the actual position (R31, R56) -/

@[simp] theorem leaveTrimmed_within (auto : Bool) (failed : List Tier) (t : Tier) :
    (s.leaveTrimmed auto failed t).Within a := by
  simp only [State.leaveTrimmed]
  (repeat' split) <;> simp [h]

@[simp] theorem endAtActual_within (m : MoveRec) (report : Bool) : (s.endAtActual m report).Within a := by
  have hfreed : (((m.tiers.foldl State.cmdFromActual s).trimAll m.tiers).1.freeGrant m.leader).Within a :=
    freeGrant_within ((trimAll_within _ _).mpr ((foldl_within_iff s _ cmdFromActual_within _).mpr h)) _
  refine foldl_within _ (fun _ t hs => leaveTrimmed_within hs _ _ t) _ ?_
  split
  · exact moveEnds_within hfreed m _ _
  · exact hfreed

@[simp] theorem quickStop_within (t : Tier) : (s.quickStop t).Within a := by
  simp only [State.quickStop]
  (repeat' split) <;> simp [h, moveEnds_within]

@[simp] theorem standstill_within (t : Tier) : (s.standstill t).Within a := by
  simp only [State.standstill]
  (repeat' split) <;> simp [h]

/-! ### Samples (R103, R138, R140) -/

@[simp] theorem loadResult_within (t : Tier) : (s.loadResult t).Within a :=
  (trigger_within _).mpr (requeued_within h fun hq => hq.map fun e => by split <;> rfl)

@[simp] theorem completeConversion_within (n : Nat) : (s.completeConversion n).Within a := by
  unfold State.completeConversion
  (repeat' split) <;> simp [h]

@[simp] theorem wantSamples_within (e : Entry) (ts : List Tier) : (s.wantSamples e ts).Within a :=
  requeued_within ((foldl_within_iff s _ (fun s t => requestSample_within s t _ _) ts).mpr h) fun hq =>
    hq.map fun e => by split <;> rfl

@[simp] theorem raiseBypass_within (ts : List Tier) : (s.raiseBypass ts).Within a :=
  requeued_within h fun hq => hq.map fun e => by split <;> rfl

/-! ### The conversion (R120 to R122, R126, R128) -/

@[simp] theorem convAtTarget_within (l : Layout) (t : Tier) : (s.convAtTarget l t).Within a := by
  simp only [State.convAtTarget]
  split <;> simp [h]

@[simp] theorem convOffer_within (l : Layout) (t : Tier) : (s.convOffer l t).1.Within a := by
  simp only [State.convOffer]
  split
  · exact enqueue_within (s := s.setConvEntry t .queued) h ‹_›
  · simp [h]
  · simp [h]

@[simp] theorem convTake_within (l : Layout) (t : Tier) : (State.convTake l s t).Within a := by
  have hrelease : ((s.setConvTier t ⟨.waiting, .none, decide ((s.tier t).state = .securing)⟩).tryRelease t).2.Within a := by
    simp [h]
  simp only [State.convTake]
  split
  · simp [h]
  · split
    · split
      all_goals
        rename_i hcode
        rw [hcode] at hrelease
        simpa using hrelease
    · exact h

@[simp] theorem startConversion_within (n : Fin 16) (l : Layout) : (s.startConversion n l).Within a := by
  simp only [State.startConversion, convCheck_within]
  refine foldl_fst_within _ (fun x t hx => ?_) _ (foldl_within _ (fun _ t hs => convTake_within hs l t) _ ?_)
  · unfold State.convOfferAll
    split <;> simp [hx]
  · exact h

theorem convPlaces_within (l : Layout) (ts : List Tier) : (ts.foldl (State.convPlace l) (s, false, false)).1.Within a :=
  foldl_fst_within _ (fun x t hx => by
    unfold State.convPlace
    (repeat' split) <;> simp [hx]) ts h

@[simp] theorem convScanEnd_within (b : Bool) : (s.convScanEnd b).Within a := by
  unfold State.convScanEnd
  split
  · dsimp only
    split <;> simp [h, convPlaces_within]
  · simp [h, convPlaces_within]
  · exact h

@[simp] theorem abortConversion_within : s.abortConversion.Within a := by
  simp only [State.abortConversion, convCheck_within]
  refine foldl_within _ (fun _ t hs => controlledHalt_within hs t _ _) _ ?_
  rw [foldl_within_iff _ _ convDiscard_within]
  exact foldl_within _ (fun _ e hs => removeEntry_within hs e _) _ h

/-! ### Clears, fail-safe, show lock (R164, R171, R172, R174) -/

theorem clearPlace_within {t : Tier} {x : State} (hx : s.clearPlace t = some x) : x.Within a := by
  simp only [State.clearPlace] at hx
  split at hx
  · split at hx
    · cases hx
      simp [h]
    · cases hx
  · split at hx
    · cases hx
      split <;> simp [h]
    · cases hx

theorem clearTier_within {t : Tier} {x : State} (hx : s.clearTier t = some x) : x.Within a := by
  unfold State.clearTier at hx
  split at hx
  · cases hx
  · obtain ⟨y, hy, rfl⟩ := Option.map_eq_some_iff.mp hx
    have hplaced := clearPlace_within h hy
    simp only [State.clearTaken, trigger_within]
    split <;> simp [hplaced]

@[simp] theorem offerClear_within (t : Tier) : (s.offerClear t).Within a := by
  unfold State.offerClear
  split
  · cases hx : s.clearTier t with
    | none => exact h
    | some x => exact clearTier_within h hx
  · exact h

@[simp] theorem flushQueue_within : s.flushQueue.Within a := foldl_within _ (fun _ e hs => removeEntry_within hs e _) _ h

@[simp] theorem enterFailsafe_within (c : Cause) : (s.enterFailsafe c).Within a := by
  have hstops (ts : List Tier) {x : State} (hx : x.Within a) :
      (State.eachGang (fun s t => s.safetyStop .failsafe true t) ts x).Within a :=
    eachGang_within _ (fun _ t hs => safetyStop_within hs _ _ t) ts hx
  unfold State.enterFailsafe
  split
  · exact h
  · dsimp only
    split <;> simp [hstops _ (x := { s with fsu := { s.fsu with failsafe := some c } }) h]

@[simp] theorem kickWatchdog_within : s.kickWatchdog.Within a := by
  unfold State.kickWatchdog
  split
  · exact h
  · exact h
  · exact enterFailsafe_within h _

@[simp] theorem expireWatchdog_within : s.expireWatchdog.Within a := by
  unfold State.expireWatchdog
  split
  · refine enterFailsafe_within ?_ _
    exact h
  · exact h

@[simp] theorem addShow_within (x : TierSet) : (s.addShow x).Within a :=
  foldl_within _ (fun _ t hs => removeEntryOf_within (safetyStop_within hs _ _ t) t _) _ (by exact h)

/-! ### Intervals, feedback, timers, trips (R22 to R24, R71, R79, R147, R156, R157) -/

@[simp] theorem interval_within (t : Tier) : (s.interval t).Within a := by
  unfold State.interval
  split <;> simp [h]

@[simp] theorem feedbackExpire_within (t : Tier) : (s.feedbackExpire t).Within a := by
  unfold State.feedbackExpire
  split <;> simp [h]

@[simp] theorem brakeExpire_within (t : Tier) : (s.brakeExpire t).Within a := by simp [State.brakeExpire, h]

@[simp] theorem testExpire_within (t : Tier) : (s.testExpire t).Within a := by
  unfold State.testExpire
  split <;> simp [h]

@[simp] theorem synchronise_within (f : Feedback) : (s.synchronise f).Within a := by
  simp only [State.synchronise]
  (repeat' split) <;> simp [h]

@[simp] theorem followCheck_within (f : Feedback) : (s.followCheck f).Within a := by
  unfold State.followCheck
  (repeat' split) <;> simp [h]

@[simp] theorem driveFaults_within (f : Feedback) : (s.driveFaults f).Within a := by
  simp only [State.driveFaults, modLink_within]
  refine foldl_within _ (fun _ k hs => ?_) _ h
  split <;> simp [hs]

@[simp] theorem brakeStep_within (f : Feedback) : (s.brakeStep f).Within a := by
  simp only [State.brakeStep]
  (repeat' split) <;> simp [h]

@[simp] theorem handOn_within (f : Feedback) : (s.handOn f).Within a :=
  (linkStep_within _ _).mpr (brakeStep_within (driveFaults_within (followCheck_within ((trailingRelease_within s f).mpr h) f) f) f)

@[simp] theorem acceptFeedback_within (f : Feedback) : (s.acceptFeedback f).Within a := by
  simp only [State.acceptFeedback]
  (repeat' split) <;> simp [h]

@[simp] theorem completeRecord_within (bs : List Byte) : (s.completeRecord bs).Within a := by
  unfold State.completeRecord State.testFeedback
  (repeat' split) <;> simp [h]

@[simp] theorem driveBytes_within (bs : List Byte) : (s.driveBytes bs).Within a := by
  refine foldl_within _ (fun s b hs => ?_) bs h
  unfold State.driveByte
  (repeat' split) <;> simp [hs]

@[simp] theorem tripApply_within (i : Input) : (s.tripApply i).Within a := by
  unfold State.tripApply
  split
  · exact h
  · simp only [reportAll_within, State.tripStop, report_within]
    refine eachGang_within _ (fun _ t hs => quickStop_within hs t) _ ?_
    exact h

end Hall

end Sys2Proof.Machine
end

section
/-! PROOFS. The budget (R95, R105 to R107, R112 to R116): what a scan grants fits what remains, and after a budget change the
allocations fit the new budget. -/

namespace Sys2Proof.Machine

/-! ### Demand and room (R105, R106) -/

/-- At the derated speed that a room allows, the demand fits the room (R106, R114, R115). -/
theorem demand_le_of_speedIn {n : Need} {room : Int} {v : Nat} (h : n.speedIn room = some v) : (n.demand v : Int) ≤ room := by
  simp only [Need.speedIn] at h
  split at h
  · rename_i hpos
    cases h
    have hmass : n.mass * ((room - n.tilt - n.hold).toNat * 256 / n.mass) ≤ (room - n.tilt - n.hold).toNat * 256 :=
      Nat.mul_div_le _ _
    rw [demand_eq]
    generalize n.mass * _ = p at hmass
    split <;> omega
  · cases h

section Tests

variable {s : State} {e : Entry} {cap : Option Nat} {alloc : Nat} {derated : Bool}

/-- What the budget test gives fits the remaining budget (R106). -/
theorem budgetTest_fits (h : s.budgetTest e = .pass cap alloc derated) : alloc ≤ s.remaining := by
  simp only [State.budgetTest] at h
  (repeat' split at h) <;> cases h
  · assumption
  · assumption
  · have hfits := demand_le_of_speedIn ‹_›
    omega

/-- An entry that passes its tests has passed the budget test, the last of them (R102 to R106). -/
theorem budgetTest_of_judge (h : s.judge e = .pass cap alloc derated) : s.budgetTest e = .pass cap alloc derated := by
  have hclaim (hc : s.claimTest e = .pass cap alloc derated) : s.budgetTest e = .pass cap alloc derated := by
    unfold State.claimTest at hc
    (repeat' split at hc) <;> first | exact hc | cases hc
  unfold State.judge at h
  (repeat' split at h) <;> first | exact hclaim h | cases h

end Tests

/-! ### The scan (R102, R107, R108) -/

section Scan

variable {s : State}

/-- The grant that an admission puts in place (R107). -/
def Entry.granted (e : Entry) (cap : Option Nat) (alloc : Nat) (derated : Bool) : Grant :=
  ⟨e.kind, e.tier, e.members, e.cls, alloc, cap, derated⟩

/-- An admission takes its entry from the queue and adds its grant to the list; what follows frees at most grants and entries (R107). -/
theorem startEntry_within (e : Entry) (cap : Option Nat) (alloc : Nat) (derated : Bool) :
    (s.startEntry e cap alloc derated).Within
      { s.aa with queue := s.aa.queue.erase e, grants := s.aa.grants ++ [e.granted cap alloc derated] } := by
  have hclaim : (s.grantClaim e).aa = s.aa := by
    unfold State.grantClaim
    split <;> rfl
  have hgranted : ({ s.grantClaim e with aa := { (s.grantClaim e).aa with
      queue := (s.grantClaim e).aa.queue.erase e
      grants := (s.grantClaim e).aa.grants ++ [e.granted cap alloc derated] } } : State).Within
        { s.aa with queue := s.aa.queue.erase e, grants := s.aa.grants ++ [e.granted cap alloc derated] } := by
    rw [hclaim]
    exact within_self _
  have hreported := (report_within _ (admittedReport e cap alloc derated)).mpr hgranted
  have htest (x : State) (t : Tier) (a : Arbiter) (hx : x.Within a) : (x.startTest t).Within a := hx
  have hmove (x : State) (y : Tier × MoveRec) (a : Arbiter) :
      ((x.enter y.1 .moving).startMove y.2 y.1).Within a ↔ x.Within a := (modTier_within _ _ _).trans (enter_within x _ _)
  simp only [State.startEntry]
  split
  · exact htest _ _ _ ((enter_within _ _ _).mpr hreported)
  · refine finishMove_within ?_ _
    have hmoves (l : List (Tier × MoveRec)) := (foldl_within_iff _ _ (fun x y => hmove x y _) l).mpr hreported
    split
    · exact (convAdmitted_within _ _).mpr (hmoves _)
    · exact hmoves _

theorem allocated_append (s : State) (g : Grant) : ((s.aa.grants ++ [g]).map (·.alloc)).sum = s.allocated + g.alloc := by
  simp [State.allocated]

/-- An admission of an entry that passed its tests keeps the bounds (R95, R106, R107). -/
theorem startEntry_bounds {e : Entry} {cap : Option Nat} {alloc : Nat} {derated : Bool} (h : s.ArbiterBounds)
    (hj : s.judge e = .pass cap alloc derated) : (s.startEntry e cap alloc derated).ArbiterBounds := by
  have hfits := budgetTest_fits (budgetTest_of_judge hj)
  have hwithin := startEntry_within (s := s) e cap alloc derated
  have hsum := hwithin.allocated_le.trans_eq (allocated_append s _)
  rw [arbiterBounds_iff] at h ⊢
  refine ⟨hwithin.queue (h.1.sublist List.erase_sublist), ?_⟩
  have hbudget : (s.startEntry e cap alloc derated).aa.budget = s.aa.budget := hwithin.budget
  rw [hbudget]
  simp only [State.remaining, Entry.granted] at hfits hsum
  have hb := h.2
  omega

theorem visit_bounds (a : Scan) (t : Tier) (h : a.state.ArbiterBounds) : (a.visit t).state.ArbiterBounds := by
  unfold Scan.visit
  split
  · exact h
  · split
    · exact h
    · split
      · exact startEntry_bounds h ‹_›
      · exact (dropEntry_within (within_self _) _ _).bounds h
      · exact h
      · exact (wantSamples_within (within_self _) _ _).bounds h

/-- A scan keeps the bounds of the arbiter (R95, R96). -/
theorem scan_bounds (h : s.ArbiterBounds) : s.scan.ArbiterBounds := by
  have hvisits (l : List Tier) (a : Scan) (ha : a.state.ArbiterBounds) : (l.foldl Scan.visit a).state.ArbiterBounds := by
    induction l generalizing a with
    | nil => exact ha
    | cons t l ih => exact ih _ (visit_bounds a t ha)
  have hwalk : s.walkQueue.state.ArbiterBounds := by
    unfold State.walkQueue
    split
    · exact h
    · exact hvisits _ _ h
  exact (convScanEnd_within (raiseBypass_within (within_self _) _) _).bounds hwalk

theorem dueScan_bounds (h : s.ArbiterBounds) : s.dueScan.ArbiterBounds := by
  unfold State.dueScan
  split
  · exact h
  · exact scan_bounds h

end Scan

/-! ### A grant with a new allocation (R114, R115) -/

section Recap

variable {s : State} {g : Grant} {cap alloc : Nat} {derated : Bool}

/-- The arbiter with its budget and with a queue that is bounded if that of `a` is, whatever its grants. -/
def State.Steady (s : State) (a : Arbiter) : Prop := s.aa.budget = a.budget ∧ (QueueBounds a.queue → QueueBounds s.aa.queue)

theorem recap_steady {a : Arbiter} (h : s.Steady a) : (s.recap g cap alloc derated).Steady a := by
  rw [State.recap, State.Steady, report_aa]
  exact h

/-- A grant of the list is given its new allocation in place of the old. -/
theorem recap_allocated (hg : g ∈ s.aa.grants) :
    (s.recap g cap alloc derated).allocated + g.alloc = s.allocated + alloc := by
  have hreplace (l : List Grant) (n : Grant) (hn : n.alloc = alloc) (hl : g ∈ l) :
      ((l.replace g n).map (·.alloc)).sum + g.alloc = (l.map (·.alloc)).sum + alloc := by
    induction l with
    | nil => cases hl
    | cons x l ih =>
      by_cases hx : g = x
      · subst hx
        simp [hn]
        omega
      · have hrest := ih (List.mem_of_ne_of_mem hx hl)
        have hne : (g == x) = false := by simpa using hx
        simp only [List.replace_cons, hne, List.map_cons, List.sum_cons]
        omega
  simpa [State.recap, State.allocated, State.setGrant] using hreplace s.aa.grants _ rfl hg

/-- A grant that has left the list is not given one. -/
theorem recap_of_not_mem (hg : g ∉ s.aa.grants) : (s.recap g cap alloc derated).aa.grants = s.aa.grants := by
  simp [State.recap, State.setGrant, List.replace_of_not_mem hg]

/-- A new allocation that fits the room beside the other grants keeps the allocations within the budget. -/
theorem recap_fits (hfits : s.allocated ≤ s.aa.budget) (hroom : alloc ≤ s.remaining + g.alloc) :
    (s.recap g cap alloc derated).allocated ≤ s.aa.budget := by
  by_cases hg : g ∈ s.aa.grants
  · have hsum := recap_allocated (cap := cap) (alloc := alloc) (derated := derated) hg
    have hle : g.alloc ≤ s.allocated := List.single_le_sum (by simp) _ (List.mem_map_of_mem hg)
    simp only [State.remaining] at hroom
    omega
  · simpa [State.allocated, recap_of_not_mem hg] using hfits

end Recap

/-! ### The restore pass (R114) -/

section Restore

variable {s : State}

/-- The restore pass leaves a grant as it is, or gives it a demand that fits the room beside the others (R114). -/
theorem restoreGrant_cases (s : State) (g : Grant) : s.restoreGrant g = s ∨
    ∃ cap alloc derated, alloc ≤ s.remaining + g.alloc ∧ s.restoreGrant g = s.recap g cap alloc derated := by
  simp only [State.restoreGrant]
  split
  · split
    · exact Or.inr ⟨_, _, _, ‹_›, rfl⟩
    · split
      · split
        · refine Or.inr ⟨_, _, _, ?_, rfl⟩
          have hfits := demand_le_of_speedIn ‹_›
          omega
        · exact Or.inl rfl
      · exact Or.inl rfl
  · exact Or.inl rfl

theorem restoreGrant_fits {a : Arbiter} (g : Grant) (h : s.Steady a) (hfits : s.allocated ≤ s.aa.budget) :
    (s.restoreGrant g).Steady a ∧ (s.restoreGrant g).allocated ≤ (s.restoreGrant g).aa.budget := by
  rcases restoreGrant_cases s g with hsame | ⟨cap, alloc, derated, hroom, hrecap⟩
  · rw [hsame]
    exact ⟨h, hfits⟩
  · have hsteady := recap_steady (g := g) (cap := cap) (alloc := alloc) (derated := derated) h
    rw [hrecap]
    exact ⟨hsteady, (recap_fits hfits hroom).trans_eq (h.1.trans hsteady.1.symm)⟩

theorem restorePass_fits {a : Arbiter} (l : List Grant) (h : s.Steady a) (hfits : s.allocated ≤ s.aa.budget) :
    (l.foldl State.restoreGrant s).Steady a ∧
      (l.foldl State.restoreGrant s).allocated ≤ (l.foldl State.restoreGrant s).aa.budget := by
  induction l generalizing s with
  | nil => exact ⟨h, hfits⟩
  | cons g l ih =>
    obtain ⟨hsteady, hnext⟩ := restoreGrant_fits g h hfits
    exact ih hsteady hnext

end Restore

/-! ### The lowering pass (R115, R116) -/

section Lower

variable {s : State} {g : Grant}

/-- The allocations fit the budget, or every grant left is one that the lowering pass has yet to reach. -/
def State.Lowering (s : State) (rest : List Grant) : Prop := s.allocated ≤ s.aa.budget ∨ s.aa.grants.Subperm rest

/-- While the allocations exceed the budget, the lowering pass removes a grant, or gives it a demand that fits beside the others. -/
theorem lowerGrant_cases (h : s.aa.budget < s.allocated) (g : Grant) : (s.lowerGrant g).Within (s.removeGrant g).aa ∨
    ∃ (cap alloc : Nat), (alloc : Int) ≤ s.aa.budget - ((s.allocated - g.alloc : Nat) : Int) ∧
      s.lowerGrant g = s.recap g cap alloc true := by
  have hremoved := within_self (s.removeGrant g)
  have hhalted := controlledHalt_within hremoved g.leader .budget false
  simp only [State.lowerGrant, if_neg (Nat.not_le.mpr h)]
  split
  · exact Or.inl (enterSecured_within (abortTest_within hremoved _) _)
  · split
    · split
      · exact Or.inr ⟨_, _, demand_le_of_speedIn ‹_›, rfl⟩
      · exact Or.inl hhalted
    · exact Or.inl hhalted

theorem lowerGrant_of_fits (h : s.allocated ≤ s.aa.budget) (g : Grant) : s.lowerGrant g = s := if_pos h

/-- One step of the lowering pass: it lowers, and reaches one grant more. -/
theorem lowerGrant_lowers {a : Arbiter} {rest : List Grant} (h : s.Steady a) (hlow : s.Lowering (g :: rest)) :
    (s.lowerGrant g).Steady a ∧ (s.lowerGrant g).Lowering rest := by
  by_cases hfits : s.allocated ≤ s.aa.budget
  · rw [lowerGrant_of_fits hfits]
    exact ⟨h, Or.inl hfits⟩
  have hleft : (s.aa.grants.erase g).Subperm rest := by
    simpa using (hlow.resolve_left hfits).erase g
  rcases lowerGrant_cases (Nat.not_le.mp hfits) g with hremoved | ⟨cap, alloc, hroom, hrecap⟩
  · exact ⟨⟨hremoved.budget.trans h.1, fun ha => hremoved.queue (h.2 ha)⟩,
      Or.inr (hremoved.grants.subperm.trans hleft)⟩
  · have hsteady := recap_steady (g := g) (cap := cap) (alloc := alloc) (derated := true) h
    rw [hrecap]
    refine ⟨hsteady, ?_⟩
    by_cases hg : g ∈ s.aa.grants
    · left
      have hsum := recap_allocated (cap := cap) (alloc := alloc) (derated := true) hg
      have hle : g.alloc ≤ s.allocated := List.single_le_sum (by simp) _ (List.mem_map_of_mem hg)
      rw [hsteady.1.trans h.1.symm]
      omega
    · right
      rwa [recap_of_not_mem hg, ← List.erase_of_not_mem hg]

theorem lowerPass_lowers {a : Arbiter} (l : List Grant) (h : s.Steady a) (hlow : s.Lowering l) :
    (l.foldl State.lowerGrant s).Steady a ∧ (l.foldl State.lowerGrant s).Lowering [] := by
  induction l generalizing s with
  | nil => exact ⟨h, hlow⟩
  | cons g l ih =>
    obtain ⟨hsteady, hnext⟩ := lowerGrant_lowers h hlow
    exact ih hsteady hnext

/-- With no grant left to reach the allocations fit: none is left at all, or they fitted before. -/
theorem fits_of_lowered (h : s.Lowering []) : s.allocated ≤ s.aa.budget := by
  rcases h with h | h
  · exact h
  · simp [State.allocated, List.subperm_nil.mp h]

end Lower

/-! ### A new budget (R112) -/

/-- A budget change leaves the budget it was given, allocations that fit it, and a queue as bounded as before (R112, R115). -/
theorem changeBudget_fits (s : State) (b : Nat) : (s.changeBudget b).Steady { s.aa with budget := b } ∧
    (s.changeBudget b).allocated ≤ (s.changeBudget b).aa.budget := by
  have hnew : ({ s with aa := { s.aa with budget := b } } : State).Steady { s.aa with budget := b } := ⟨rfl, id⟩
  simp only [State.changeBudget]
  split
  · obtain ⟨hsteady, hlow⟩ := lowerPass_lowers _ hnew (Or.inr (List.reverse_perm _).symm.subperm)
    exact ⟨hsteady, fits_of_lowered hlow⟩
  · exact restorePass_fits _ hnew (Nat.not_lt.mp ‹_›)

theorem changeBudget_bounds {s : State} (h : s.ArbiterBounds) (b : Nat) : (s.changeBudget b).ArbiterBounds := by
  obtain ⟨hsteady, hfits⟩ := changeBudget_fits s b
  rw [arbiterBounds_iff] at h ⊢
  exact ⟨hsteady.2 h.1, hfits⟩

end Sys2Proof.Machine
end

section
/-! PROOFS. What a request does to the arbiter (R97, R112): all but SET-BUDGET leave an arbiter within the one they found. -/

namespace Sys2Proof.Machine

section Requests

variable {a : Arbiter} {s : State} (h : s.Within a)

include h

/-! ### Requests to tiers (R34 to R39) -/

@[simp] theorem refuse_within (c : Code) : (s.refuse c).1.Within a := h

@[simp] theorem accept_within : s.accept.1.Within a := h

theorem withTier_within (b : Byte) {k : Tier → Answer} (hk : ∀ t, (k t).1.Within a) : (s.withTier b k).1.Within a := by
  unfold State.withTier
  split
  · exact h
  · exact hk _

theorem withInstalled_within (b : Byte) {k : Tier → Answer} (hk : ∀ t, (k t).1.Within a) :
    (s.withInstalled b k).1.Within a :=
  withTier_within h b fun t => by
    split
    · exact hk t
    · exact h

@[simp] theorem offer_within (e : Entry) : (s.offer e).1.Within a := by
  unfold State.offer
  split
  · exact h
  · exact enqueue_within h ‹_›

@[simp] theorem secure_within (t : Tier) : (s.secure t).Within a := by
  simp only [State.secure]
  (repeat' split) <;> simp [h]

@[simp] theorem halt_within (t : Tier) : (s.halt t).Within a := by
  simp only [State.halt]
  split <;> simp [h]

theorem serveRelease_within (b : Byte) : (s.serveRelease b).1.Within a :=
  withInstalled_within h b fun t => (tryRelease_within s t).mpr h

theorem servePause_within (b : Byte) : (s.servePause b).1.Within a :=
  withInstalled_within h b fun t => by
    have hpause (m : MoveRec) : (s.pauseMove t m).1.Within a := by
      unfold State.pauseMove
      (repeat' split) <;> simp [h]
    (repeat' split) <;> simp [h, hpause]

theorem serveResume_within (b : Byte) : (s.serveResume b).1.Within a :=
  withInstalled_within h b fun t => by (repeat' split) <;> simp [h]

theorem takeRetarget_within (t : Tier) (m : MoveRec) (c : ClaimRec) (x : Slew) (r : Nat) (auto : Bool) :
    (s.takeRetarget t m c x r auto).Within a := by
  simp [State.takeRetarget, h]

theorem retargetMove_within (t : Tier) (m : MoveRec) (x : MoveArgs) : (s.retargetMove t m x).1.Within a := by
  simp only [State.retargetMove]
  (repeat' split) <;> simp [h, takeRetarget_within]

theorem serveMove_within (b : Byte) (x : MoveArgs) : (s.serveMove b x).1.Within a := by
  have hqueue (t : Tier) : (s.queueMove t x).1.Within a := by
    unfold State.queueMove
    split <;> simp [h]
  unfold State.serveMove
  split
  · exact withInstalled_within h b fun t => by
      (repeat' split) <;> simp [h, hqueue, retargetMove_within]
  · exact h

theorem serveGangMove_within (n t0 t1 t2 t3 : Byte) (x : MoveArgs) : (s.serveGangMove n t0 t1 t2 t3 x).1.Within a := by
  have hoffer (n : Nat) (ts : List Tier) : (s.gangOffer n ts x).1.Within a := by
    simp only [State.gangOffer]
    (repeat' split) <;> simp [h]
  unfold State.serveGangMove
  split
  · exact h
  · exact hoffer _ _

theorem serveRoute_within (b st run : Byte) (auto maint : Bool) : (s.serveRoute b st run auto maint).1.Within a := by
  have hwalk (t : Tier) (w : WalkRec) : (s.startWalk t w).1.Within a := by
    simp only [State.startWalk]
    split
    · exact h
    · split
      · exact h
      · exact enqueue_within ((modWalk_within s t _).mpr h) ‹_›
  exact withInstalled_within h b fun t => by (repeat' split) <;> simp [h, hwalk]

theorem serveRoutePut_within (b w : Byte) (x : Option WaypointMsg) : (s.serveRoutePut b w x).1.Within a := by
  unfold State.serveRoutePut
  (repeat' split) <;> exact h

/-! ### The hall's requests (R119, R128, R142, R145, R164, R166, R171 to R175) -/

theorem serveConvert_within (b : Byte) : (s.serveConvert b).1.Within a := by
  have hlayout (n : Fin 16) (l : Layout) : (s.convertLayout n l).1.Within a := by
    unfold State.convertLayout
    (repeat' split) <;> simp [h]
  have hstore : (s.raiseDevice .store).Within a := by simp [h]
  unfold State.serveConvert
  (repeat' split) <;> simp [h, hstore, hlayout]

theorem serveConvertAbort_within : s.serveConvertAbort.1.Within a := by
  unfold State.serveConvertAbort
  split <;> simp [h]

theorem serveSample_within (b : Byte) : (s.serveSample b).1.Within a :=
  withInstalled_within h b fun t => by simp [h]

theorem serveTest_within (b : Byte) : (s.serveTest b).1.Within a :=
  withInstalled_within h b fun t => by (repeat' split) <;> simp [h]

theorem serveClearFailsafe_within : s.serveClearFailsafe.1.Within a := by
  unfold State.serveClearFailsafe
  split
  · exact h
  · refine accept_within ((trigger_within _).mpr ((report_within _ _).mpr ?_))
    exact h

theorem serveClear_within (b : Byte) : (s.serveClear b).1.Within a :=
  withInstalled_within h b fun t => by
    split
    · split
      · exact clearTier_within h ‹_›
      · exact h
    · exact h

theorem serveClearAll_within : s.serveClearAll.1.Within a := by
  have hwalk := foldl_within _ (fun s t hs => offerClear_within hs t) s.installedTiers ((clearDevice_within s .store).mpr h)
  simp only [State.serveClearAll]
  split <;> exact hwalk

theorem serveShowLock_within (x : BitVec 16) : (s.serveShowLock x).1.Within a := by
  unfold State.serveShowLock
  split <;> simp [h]

/-! ### Settings (R11, R16, R75, R184) -/

theorem servePutProfile_within (b : Byte) (p : ProfileData) : (s.servePutProfile b p).1.Within a :=
  withTier_within h b fun t => by
    have htake {x : State} (hx : x.Within a) : (x.takeProfile t (profileClamped p)).Within a := by
      refine (clearDevice_within _ _).mpr ?_
      exact hx
    have hremark {x : State} (hx : s.remark t (profileClamped p) = some x) : x.Within a := by
      simp only [State.remark] at hx
      split at hx
      · cases hx
        simp [h]
      · cases hx
    simp only [State.putProfile]
    (repeat' split) <;> simp [*]

theorem removeTier_within (t : Tier) : (s.removeTier t).Within a := by
  have hdropped : ((s.removeEntryOf t .noTier).convTierRemoved t).Within a := by
    unfold State.convTierRemoved
    split <;> simp [h]
  simp only [State.removeTier]
  split
  · exact (trigger_within _).mpr ((modFloor_within _ _).mpr hdropped)
  · exact hdropped

theorem takeSite_within (x : Site) : (s.takeSite x).Within a := by
  simp only [State.takeSite, trigger_within]
  refine foldl_within _ (fun y t hy => ?_) _ ?_
  · refine (report_within _ _).mpr ?_
    exact hy
  · exact foldl_within _ (fun y t hy => removeTier_within hy t) _ h

theorem serveSite_within (m : SiteMsg) : (s.serveSite m).1.Within a := by
  unfold State.serveSite
  (repeat' split) <;> simp [h, takeSite_within]

theorem servePutZone_within (b : Byte) (z : ZoneMsg) : (s.servePutZone b z).1.Within a := by
  have htake (n : Fin 6) (x : ZoneRec) : (s.takeZone n x).Within a := by
    refine (trigger_within _).mpr ((clearDevice_within _ _).mpr ?_)
    exact h
  unfold State.servePutZone
  (repeat' split) <;> simp [h, htake]

end Requests

/-! ### Every request (R179, R180) -/

/-- Every request but SET-BUDGET leaves an arbiter within the one it found. -/
theorem serve_within (s : State) {r : Request} (hr : ∀ n, r ≠ .setBudget n) : (s.serve r).1.Within s.aa := by
  have h := within_self s
  have hkept {x : State} (hx : x = s) : x.Within s.aa := hx ▸ h
  cases r with
  | setBudget n => exact absurd rfl (hr n)
  | release b => exact serveRelease_within h b
  | secure b => exact withInstalled_within h b fun t => secure_within h t
  | secureAll => exact eachGang_within _ (fun _ t hs => secure_within hs t) _ h
  | move b x => exact serveMove_within h b x
  | gangMove n t0 t1 t2 t3 x => exact serveGangMove_within h n t0 t1 t2 t3 x
  | halt b => exact withInstalled_within h b fun t => halt_within h t
  | haltAll => exact eachGang_within _ (fun _ t hs => halt_within hs t) _ h
  | pause b => exact servePause_within h b
  | resume b => exact serveResume_within h b
  | route b st run auto maint => exact serveRoute_within h b st run auto maint
  | routePut b w x => exact serveRoutePut_within h b w x
  | convert b => exact serveConvert_within h b
  | convertAbort => exact serveConvertAbort_within h
  | sampleLoad b => exact serveSample_within h b
  | brakeTest b => exact serveTest_within h b
  | forceFailsafe => exact enterFailsafe_within h _
  | clearFailsafe => exact serveClearFailsafe_within h
  | clearFaults b => exact serveClear_within h b
  | clearFaultsAll => exact serveClearAll_within h
  | showLock x => exact serveShowLock_within h x
  | releaseShow x => simp only [State.serve, State.serveReleaseShow]; (repeat' split) <;> exact h
  | lock g => simp only [State.serve, State.serveLock]; split <;> exact h
  | unlock g => simp only [State.serve, State.serveUnlock]; (repeat' split) <;> exact h
  | siteSet m => exact serveSite_within h m
  | profilePut b p => exact servePutProfile_within h b p
  | profileGet b => exact hkept (query_fst s b 0 0).2.2.2.2.1
  | zonePut b z => exact servePutZone_within h b z
  | zoneGet b => exact hkept (query_fst s b 0 0).2.2.2.2.2.1
  | saveSettings => simp only [State.serve, State.serveSave]; (repeat' split) <;> exact h
  | layoutErase b => simp only [State.serve, State.serveErase]; (repeat' split) <;> exact h
  | layoutWrite b l => simp only [State.serve, State.serveWrite]; (repeat' split) <;> exact h
  | layoutRead b => exact hkept (query_fst s b 0 0).2.2.2.2.2.2
  | protectLayouts n => simp only [State.serve, State.serveProtect]; (repeat' split) <;> exact h
  | queryStatus => exact h
  | queryTier b => exact hkept (query_fst s b 0 0).1
  | queryMap f c => exact hkept (query_fst s 0 f c).2.1
  | queryQueue => exact h
  | queryGrants => exact h
  | restart => simp only [State.serve, State.serveRestart]; split <;> exact h

end Sys2Proof.Machine
end

section
/-! PROOFS. Every command keeps the bounds of the arbiter (R95, R96). -/

namespace Sys2Proof.Machine

section Commands

variable {s s' : State} (h : s.ArbiterBounds)

include h

/-! ### Frames (R179, R180) -/

theorem serve_bounds (r : Request) : (s.serve r).1.ArbiterBounds := by
  by_cases hr : ∃ n, r = .setBudget n
  · obtain ⟨n, rfl⟩ := hr
    exact changeBudget_bounds h _
  · exact (serve_within s (not_exists.mp hr)).bounds h

theorem answer_bounds (tag kind : Byte) (r : Request) : (s.answer tag kind r).ArbiterBounds := serve_bounds h r

theorem handle_bounds (f : Frame) : (s.handle f).ArbiterBounds := by
  unfold State.handle
  split
  · exact h
  · exact answer_bounds h _ _ _

theorem request_bounds (tag : Byte) (r : Request) : (s.request tag r).ArbiterBounds := by
  unfold State.request
  split
  · exact h
  · split
    · exact answer_bounds h _ _ _
    · split <;> exact h

theorem kickWatchdog_bounds : s.kickWatchdog.ArbiterBounds := (kickWatchdog_within (within_self s)).bounds h

theorem completeFrame_bounds (f : Frame) : (s.completeFrame f).ArbiterBounds := by
  unfold State.completeFrame
  split
  · exact h
  · split
    · exact handle_bounds (kickWatchdog_bounds h) f
    · split
      · exact kickWatchdog_bounds h
      · exact h

theorem linkByte_bounds (b : Byte) : (s.linkByte b).ArbiterBounds := by
  have hhunt : (s.setFramer .hunt).ArbiterBounds := h
  unfold State.linkByte
  split
  case h_7 =>
    dsimp only
    split
    · exact completeFrame_bounds hhunt _
    · exact h
  case h_1 => split <;> exact h
  all_goals exact h

theorem linkBytesIn_bounds (bs : List Byte) : (s.linkBytesIn bs).ArbiterBounds := by
  unfold State.linkBytesIn
  induction bs generalizing s with
  | nil => exact h
  | cons b bs ih => exact ih (linkByte_bounds h b)

theorem replySent_bounds : s.replySent.ArbiterBounds := by
  have htake {x : State} (hx : x.ArbiterBounds) : x.takeHeld.ArbiterBounds := by
    unfold State.takeHeld
    split
    · exact hx
    · rename_i f rest _
      split
      · exact handle_bounds (s := x.modPort fun p => { p with hold := rest }) hx f
      · exact hx
  unfold State.replySent
  split
  · rename_i rest _ _
    dsimp only
    split
    · exact h
    · exact htake (x := s.modPort fun p => { p with replies := rest, tx := .idle }) h
  · exact h

/-! ### Events -/

theorem during_bounds {f : State → State} (hf : (f s).ArbiterBounds) (e : s.during f = .next s') : s'.ArbiterBounds := by
  unfold State.during at e
  cases e
  split
  · exact hf
  · exact h

/-- An event whose operation leaves the arbiter within the one it found. -/
theorem during_within {f : State → State} (hf : (f s).Within s.aa) (e : s.during f = .next s') : s'.ArbiterBounds :=
  during_bounds h (hf.bounds h) e

theorem duringDrive_within {f : State → State} (hf : (f s).Within s.aa) (e : s.duringDrive f = .next s') :
    s'.ArbiterBounds := by
  unfold State.duringDrive at e
  split at e
  · cases e
    exact hf.bounds h
  · exact during_within h hf e

/-- An event of an input moves its pin and level, and its operation leaves the arbiter within the one it found. -/
theorem pin_within {p : Prop} [Decidable p] {x y : State} {f : State → State} (hx : x.aa = s.aa) (hy : y.aa = s.aa)
    (hf : (f x).Within s.aa) (e : (if p then .next y else x.during f) = .next s') : s'.ArbiterBounds := by
  have hkept {z : State} (hz : z.aa = s.aa) : z.ArbiterBounds := (hz ▸ within_self z : z.Within s.aa).bounds h
  split at e
  · cases e
    exact hkept hy
  · exact during_bounds (hkept hx) (hf.bounds h) e

omit h in
/-- An arbiter with no entry and no grant is within every budget. -/
theorem bounds_of_empty (hq : s.aa.queue = []) (hg : s.aa.grants = []) : s.ArbiterBounds := by
  rw [arbiterBounds_iff, State.allocated, hq, hg]
  exact ⟨⟨Nat.zero_le 8, List.Pairwise.nil⟩, Nat.zero_le _⟩

theorem exec_bounds (i : Instr) (e : exec i s = .next s') : s'.ArbiterBounds := by
  have hs := within_self s
  have hboot (x : State) (b : Bool) : (x.boot b).ArbiterBounds := bounds_of_empty rfl rfl
  cases hi : i.carried with
  | some x =>
    obtain ⟨q, hq⟩ := exec_of_carried (tag := x.1) (r := x.2) hi s
    exact during_bounds h (request_bounds h x.1 q) (hq ▸ e)
  | none =>
    cases i
    case powerOn =>
      cases e
      simp only [State.powerOn]
      split
      · exact bounds_of_empty rfl rfl
      · exact hboot _ _
    case resetLineLow =>
      cases e
      simp only [State.resetFalls]
      split
      · exact h
      · exact bounds_of_empty rfl rfl
    case resetLineRisingEdge =>
      cases e
      simp only [State.resetRises]
      split
      · exact hboot _ _
      · exact h
    case startupComplete =>
      cases e
      have hdone := ((completeStartUp_within s).mpr hs).bounds h
      unfold State.kickIfRunning
      split <;> exact hdone
    case restartStartup =>
      cases e
      split
      · exact hboot _ _
      · exact h
    case lossOfPower =>
      cases e
      exact bounds_of_empty rfl rfl
    case validFrame bs => exact during_bounds h (f := fun x => x.linkBytesIn bs) (linkBytesIn_bounds h bs) e
    case commandLinkGapTimeout => exact during_within h (f := State.dropFrame) hs e
    case commandLinkStopBitError => exact during_within h (f := State.dropFrame) hs e
    case lengthByteAbove248 =>
      exact during_within h (f := State.badLength) (by unfold State.badLength; split <;> exact hs) e
    case replySent => exact during_bounds h (f := State.replySent) (replySent_bounds h) e
    case reportSent => exact during_within h (f := State.reportSent) (by unfold State.reportSent; split <;> exact hs) e
    case setpointInterval t =>
      exact during_within h (f := fun x => if x.installed t then x.interval t else x) (by split <;> simp [hs]) e
    case setpointRecordSent => exact during_within h (f := State.recordSent) (by simp [hs]) e
    case feedbackRecord bs => exact duringDrive_within h (f := fun x => x.driveBytes bs) (by simp [hs]) e
    case feedbackGapTimeout => exact duringDrive_within h (f := fun x => x.setDriveFramer .hunting) hs e
    case driveLinkStopBitError => exact duringDrive_within h (f := fun x => x.setDriveFramer .hunting) hs e
    case feedbackTimerExpiry t => exact during_within h (f := fun x => x.feedbackExpire t) (by simp [hs]) e
    case releaseWaitExpiry t =>
      exact during_within h (f := fun x => x.releaseWaitExpire t) (by unfold State.releaseWaitExpire; split <;> simp [hs]) e
    case secureWaitExpiry t =>
      exact during_within h (f := fun x => x.secureWaitExpire t) (by unfold State.secureWaitExpire; split <;> simp [hs]) e
    case watchExpiry t =>
      exact during_within h (f := fun x => x.watchExpire t) (by unfold State.watchExpire; split <;> simp [hs]) e
    case settleTimerExpiry t => exact during_within h (f := fun x => x.settleTimeout t) (by simp [hs]) e
    case testTimerExpiry t => exact during_within h (f := fun x => x.testExpire t) (by simp [hs]) e
    case tripActiveEdge i =>
      exact pin_within h (x := s.setTripPin i true) (y := (s.setTripPin i true).setLevel i true)
        (f := fun x => x.tripRises i) rfl rfl ((tripRises_within _ i).mpr hs) e
    case tripInactiveEdge i =>
      exact pin_within h (x := s.setTripPin i false) (y := (s.setTripPin i false).setLevel i false)
        (f := fun x => x.tripFalls i) rfl rfl ((tripFalls_within _ i).mpr hs) e
    case keyChange b =>
      exact pin_within h (x := s.setKeyPin b) (y := (s.setKeyPin b).setKey b) (f := fun x => x.setKey b) rfl rfl hs e
    case tripApplication i => exact during_within h (f := fun x => x.tripApply i) (by simp [hs]) e
    case admissionScan => exact during_bounds h (f := State.dueScan) (dueScan_bounds h) e
    case loadConversionComplete n =>
      exact during_within h (f := fun x => x.completeConversion n.toNat) (by simp [hs]) e
    case freshnessTimerExpiry t => exact during_within h (f := fun x => x.expireFreshness t) (by simp [hs]) e
    case storeOperationComplete failed => exact during_within h (f := fun x => x.completeStore failed) (by simp [hs]) e
    case watchdogExpiry => exact during_within h (f := State.expireWatchdog) (by simp [hs]) e
    all_goals cases hi

end Commands

/-- Settles O7: the bounds hold after every operation of the hall, so after every command; a step is its front command. -/
theorem arbiterBoundsKept : Obligations.ArbiterBoundsKept := by
  intro s s' h e
  unfold step at e
  split at e
  · cases e
    exact h
  case h_2 c rest _ => exact exec_bounds (s := s.withPending rest) h c e

end Sys2Proof.Machine
end

section
/-! PROOFS. SET-BUDGET (R112, R115). -/

namespace Sys2Proof.Machine

/-- The transmitter takes nothing from the reply list when it goes on (R181). -/
@[simp] theorem LinkPort.kick_replies (p : LinkPort) : p.kick.replies = p.replies := by
  unfold LinkPort.kick
  (repeat' split) <;> rfl

/-- A new budget keeps the reply list. -/
theorem changeBudget_replies (s : State) (b : Nat) : (s.changeBudget b).clp.replies = s.clp.replies :=
  congrArg Rest.replies (changeBudget_rest s b)

/-- With no grant in force a new budget has none to derate or restore (R114, R115). -/
theorem changeBudget_of_no_grant {s : State} (h : s.aa.grants = []) (b : Nat) :
    s.changeBudget b = { s with aa := { s.aa with budget := b, scansDue := s.aa.scansDue + 1 } } := by
  simp [State.changeBudget, h, State.allocated, State.trigger]

/-- Settles O26: the lowering and the restore pass leave allocations that fit (`changeBudget_fits`), and the answer only adds a
reply. -/
theorem budgetFits : Obligations.BudgetFits := by
  refine ⟨fun tag n s hs => ?_, fun tag n s hs hg => ?_⟩
  · obtain ⟨hrun, hidle, hroom⟩ := hs
    obtain ⟨hsteady, hfits⟩ := changeBudget_fits s (min 1023 n)
    have hreplies := changeBudget_replies s (min 1023 n)
    refine ⟨_, during_next hrun fun x => x.request tag (.setBudget n), ?_⟩
    have hanswer : s.request tag (.setBudget n) = s.answer tag 0x14 (.setBudget n) := by
      simp [State.request, hidle, hroom, requestBytes]
    rw [hanswer]
    refine ⟨hsteady.1, hfits, ?_⟩
    simp [State.kick, State.modPort, State.answer, State.serve, State.serveBudget, LinkPort.push, hreplies, replyKind, u16]
  · refine request_next hs (r := .setBudget n) ?_ (by decide) rfl
    rw [told_nil, ← changeBudget_of_no_grant hg]
    rfl

end Sys2Proof.Machine
end

section
/-! PROOFS. Offers to the admission queue (R33, R35, R36, R97, R145). -/

namespace Sys2Proof.Machine

section Offers

variable {s : State} {e : Entry} {b : Byte} {t : Tier} {a : MoveArgs} {d : DirArg}

/-! ### The checks of R97 -/

/-- An offer on a tier that an entry names is refused BUSY (R97). -/
theorem offer_busy (ht : t ∈ e.tiers) (h : s.entryOf t ≠ none) : s.offer e = s.refuse .busy := by
  obtain ⟨q, hq⟩ := Option.ne_none_iff_exists'.mp h
  have hnames : (e.tiers.any q.names) = true := List.any_eq_true.mpr ⟨t, ht, List.find?_some (p := fun x => Entry.names x t) hq⟩
  have hbusy : s.aa.queue.any (fun q => e.tiers.any q.names) = true :=
    List.any_eq_true.mpr ⟨q, List.mem_of_find?_eq_some hq, hnames⟩
  simp [State.offer, State.offerCheck, hbusy]

/-- No entry names a tier of the offered one. -/
theorem queue_any_of_unnamed (hn : ∀ t ∈ e.tiers, s.entryOf t = none) :
    s.aa.queue.any (fun q => e.tiers.any q.names) = false := by
  refine List.any_eq_false.mpr fun q hq hany => ?_
  obtain ⟨t, ht, hnames⟩ := List.any_eq_true.mp hany
  exact List.find?_eq_none.mp (hn t ht) q hq hnames

/-- An offer to a full queue is refused FULL (R97). -/
theorem offer_full (hn : ∀ t ∈ e.tiers, s.entryOf t = none) (hlen : 8 ≤ s.aa.queue.length) : s.offer e = s.refuse .full := by
  simp [State.offer, State.offerCheck, queue_any_of_unnamed hn, hlen]

/-- An offer of an arc that does not fit the ring is refused RANGE (R97). -/
theorem offer_range (hn : ∀ t ∈ e.tiers, s.entryOf t = none) (hlen : s.aa.queue.length < 8) (hfit : s.entryFits e = false) :
    s.offer e = s.refuse .range := by
  simp [State.offer, State.offerCheck, queue_any_of_unnamed hn, Nat.not_le.mpr hlen, hfit]

/-! ### MOVE and BRAKE-TEST on a tier they may name (R33, R34) -/

/-- MOVE on an unbarred tier whose column has Q goes on to its distance (R34, R36). -/
theorem serveMove_standing (ha : moveLegal a = true) (hn : s.Names b t) (hu : s.Unbarred t)
    (hst : (s.tier t).state ∈ [.releasing, .ready, .settling]) : s.serveMove b a = s.queueMove t a := by
  have hgang : s.gangOf t = [t] := by
    cases hx : (s.tier t).state <;> simp [hx] at hst <;> simp [State.gangOf, hx]
  rw [State.serveMove, if_pos ha, withInstalled_of_names hn,
    motionCheck_of_clear hu.1 (showBarred_of_unbarred hu hgang), queueCheck_of_standing hst]
  dsimp only
  split
  case h_1 hmove _ => simp [hmove] at hst
  case h_2 => rfl

/-- A MOVE with a way to go is offered (R35, R36). -/
theorem queueMove_offers (hd : dirOfCode a.dir.toNat = some d) (hz : zeroAt a (s.prof t) (s.cmdPos t) = false) :
    s.queueMove t a = s.offer (moveEntryOf s t a d) := by
  simp [State.queueMove, hz, State.moveEntry, moveEntryOf, moveWay, hd, moveClass]
  rfl

/-- BRAKE-TEST on a SECURED tier is offered without fail-safe (R145). -/
theorem serveTest_secured (hn : s.Names b t) (hst : (s.tier t).state = .secured) :
    s.serveTest b = if s.fsu.failsafe.isSome then s.refuse .failsafe else s.offer (testEntry t) := by
  simp [State.serveTest, withInstalled_of_names hn, hst]

/-! ### A MOVE to where the tier stands (R36) -/

/-- A target equal to the commanded position has no distance (R36). -/
theorem zeroAt_of_eq {p : ProfileData} {now : Pos} (hslew : a.slew = none ∨ a.slew = some now.slew)
    (htilt : a.tilt = none ∨ a.tilt.map (fun x => min x p.tiltMax) = some now.tilt) : zeroAt a p now = true := by
  have htilt' : (a.tilt.map fun x => decide (clampTilt p x = now.tilt)).getD true = true := by
    cases hx : a.tilt <;> simp [hx] at htilt
    · rfl
    · exact decide_eq_true htilt
  rcases hslew with h | h <;> simp [zeroAt, h, htilt']

/-- It ends at once with its report (R36). -/
theorem queueMove_zero (hr : s.Room 1) (hz : zeroAt a (s.prof t) (s.cmdPos t) = true) (hauto : a.auto = false) :
    s.queueMove t a = (s.told [.moveEnd t none .atTarget (s.cmdPos t)], .ok, []) := by
  simp [State.queueMove, hz, State.completeAtOnce, hauto, report_eq_told hr, State.accept]

/-- With auto-secure the tier is then secured from its state (R36). -/
theorem queueMove_zero_auto (hr : s.Room 1) (hz : zeroAt a (s.prof t) (s.cmdPos t) = true) (hauto : a.auto = true) :
    s.queueMove t a = ((s.told [.moveEnd t none .atTarget (s.cmdPos t)]).secureAtOnce t, .ok, []) := by
  simp [State.queueMove, hz, State.completeAtOnce, hauto, report_eq_told hr, State.accept]

/-- A RELEASING or READY tier is secured by entering SECURING (R23, R36). -/
theorem secureAtOnce_standing (hr : s.Room 1) (hst : (s.tier t).state ∈ [.releasing, .ready]) :
    s.secureAtOnce t = (s.modTier t fun r =>
      { r with state := .securing, brakeTimer := .secureWait (s.prof t).secureTimeout }).told [.tierState t .securing] := by
  rw [← enterSecuring_eq hr]
  cases hx : (s.tier t).state <;> simp [hx] at hst <;> simp [State.secureAtOnce, hx]

/-- A SETTLING tier is secured when it has settled (R27, R36). -/
theorem secureAtOnce_settling (hst : (s.tier t).state = .settling) :
    s.secureAtOnce t = s.modTier t fun r => { r with securePending := true } := by
  simp [State.secureAtOnce, hst, State.setSecurePending]

end Offers

/-- Settles O20: the checks of R97 in their order on a MOVE and a BRAKE-TEST, and the MOVE without a distance. -/
theorem entriesOffered : Obligations.EntriesOffered := by
  refine ⟨fun tag b t a d s h hn hu hst ha hd hz => ?_, fun tag b t s h hn hst => ?_,
    fun tag b t a s h hr hn hu ha hslew htilt => ?_⟩
  case refine_1 =>
    have hserve : s.serveMove b a = s.offer (moveEntryOf s t a d) :=
      (serveMove_standing ha hn hu hst).trans (queueMove_offers hd hz)
    have hnone (hent : s.entryOf t = none) : ∀ u ∈ (moveEntryOf s t a d).tiers, s.entryOf u = none :=
      fun u hu => List.mem_singleton.mp hu ▸ hent
    refine ⟨fun hent => ?_, fun hent hlen => ?_, fun hent hlen hfit => ?_, fun hent hlen hfit => ?_⟩
    · exact request_same h (hserve.trans (offer_busy List.mem_cons_self hent)) (by decide)
    · exact request_same h (hserve.trans (offer_full (hnone hent) hlen)) (by decide)
    · exact request_same h (hserve.trans (offer_range (hnone hent) hlen hfit)) (by decide)
    · refine request_next h (hserve.trans ((offer_queued (hnone hent) hlen hfit).trans ?_)) (by decide) rfl
      rw [told_nil]
      rfl
  case refine_2 =>
    have hserve := serveTest_secured hn hst
    have hnone (hent : s.entryOf t = none) : ∀ u ∈ (testEntry t).tiers, s.entryOf u = none :=
      fun u hu => List.mem_singleton.mp hu ▸ hent
    have hoffer (hf : s.fsu.failsafe = none) : s.serveTest b = s.offer (testEntry t) := by simp [hserve, hf]
    refine ⟨fun hf => ?_, fun hf hent => ?_, fun hf hent hlen => ?_, fun hf hent hlen => ?_⟩
    · exact request_same h (hserve.trans (if_pos (Option.isSome_iff_ne_none.mpr hf))) (by decide)
    · exact request_same h ((hoffer hf).trans (offer_busy List.mem_cons_self hent)) (by decide)
    · exact request_same h ((hoffer hf).trans (offer_full (hnone hent) hlen)) (by decide)
    · refine request_next h ((hoffer hf).trans ((offer_queued (hnone hent) hlen rfl).trans ?_)) (by decide) rfl
      rw [told_nil]
      rfl
  case refine_3 =>
    have hone : s.Room 1 := room_mono hr (by decide)
    have hzero := zeroAt_of_eq (a := a) hslew htilt
    have hserve := serveMove_standing ha hn hu
    refine ⟨fun hauto hst => ?_, fun hauto hst => ?_, fun hauto hst => ?_⟩
    · exact request_next h ((hserve hst).trans (queueMove_zero hone hzero hauto)) (by decide) rfl
    · have hstands : (s.tier t).state ∈ [.releasing, .ready, .settling] := List.mem_append_left [_] hst
      refine request_next h ((hserve hstands).trans ((queueMove_zero_auto hone hzero hauto).trans ?_)) (by decide) rfl
      rw [secureAtOnce_standing ((told_room s [_] 1).mpr hr) (by exact hst), told_modTier, told_told]
      rfl
    · have hstands : (s.tier t).state ∈ [.releasing, .ready, .settling] := by simp [hst]
      refine request_next h ((hserve hstands).trans ((queueMove_zero_auto hone hzero hauto).trans ?_)) (by decide) rfl
      rw [secureAtOnce_settling (by exact hst), told_modTier]

end Sys2Proof.Machine
end

section
/-! PROOFS. The queries of the state and of the arbiter's lists (R96, R99, R161, R183). -/

namespace Sys2Proof.Machine

/-! ### The lengths of the records -/

section Lengths

@[simp] theorem u8_length (n : Nat) : (u8 n).length = 1 := rfl
@[simp] theorem u16_length (n : Nat) : (u16 n).length = 2 := rfl
@[simp] theorem u24_length (n : Nat) : (u24 n).length = 3 := rfl
@[simp] theorem flag_length (b : Bool) : (flag b).length = 1 := rfl
@[simp] theorem set12_length (x : BitVec 12) : (set12 x).length = 2 := rfl
@[simp] theorem slewBytes_length (p : Slew) : (slewBytes p).length = 3 := rfl
@[simp] theorem posBytes_length (p : Pos) : (posBytes p).length = 5 := rfl
@[simp] theorem posOrZero_length (p : Option Pos) : (posOrZero p).length = 5 := rfl
@[simp] theorem siteBytes_length (x : Site) : (siteBytes x).length = 11 := rfl
@[simp] theorem capBytes_length (n : Nat) : (capBytes n).length = 2 := rfl
@[simp] theorem Grant.bytes_length (g : Grant) : g.bytes.length = 10 := rfl
@[simp] theorem walkBytes_length (w : WalkRec) : (walkBytes w).length = 8 := rfl

@[simp] theorem moveBytes_length (m : Option MoveRec) : (moveBytes m).length = 13 := by cases m <;> rfl
@[simp] theorem genBytes_length (m : Option MoveRec) : (genBytes m).length = 14 := by cases m <;> rfl
@[simp] theorem stopBytes_length (q : StopReq) : (stopBytes q).length = 2 := by cases q <;> rfl
@[simp] theorem claimBytes_length (c : Option ClaimRec) : (claimBytes c).length = 4 := by cases c <;> rfl
@[simp] theorem waypointBytes_length (w : Option Waypoint) : (waypointBytes w).length = 6 := by cases w <;> rfl
@[simp] theorem sampleBytes_length (x : Sample) : (sampleBytes x).length = 6 := by cases x <;> rfl
@[simp] theorem lastBytes_length (f : Option Feedback) : (lastBytes f).length = 9 := by cases f <;> rfl
@[simp] theorem linkBytes_length (l : LinkRec) : (linkBytes l).length = 16 := by simp [linkBytes]
@[simp] theorem failsafeBytes_length (c : Option Cause) : (failsafeBytes c).length = 2 := by cases c <;> rfl

@[simp] theorem faultBytes_length (r : FaultRec) (x : KindSet) : (faultBytes r x).length = 11 := by
  unfold faultBytes
  split <;> rfl

@[simp] theorem testBytes_length (x : Option TestRec) : (testBytes x).length = 9 := by
  unfold testBytes
  split
  · rfl
  · split <;> rfl

@[simp] theorem Conv.bytes_length (c : Conv) : c.bytes.length = 34 := by
  unfold Conv.bytes
  split <;> simp

/-- Every waypoint of a route table has 6 bytes (R130). -/
theorem length_comp_waypointBytes : List.length ∘ waypointBytes = fun _ => 6 := funext waypointBytes_length

/-- Every grant of a reply has 10 bytes (R99). -/
theorem length_comp_grantBytes : List.length ∘ Grant.bytes = fun _ => 10 := funext Grant.bytes_length

theorem tierBytes_length (s : State) (t : Tier) : (s.tierBytes t).length = 146 := by
  simp [State.tierBytes, length_comp_waypointBytes]

/-- The overrun flags are the last two of the 64 bytes (R183). -/
theorem statusBytes_eq (s : State) :
    ∃ front, front.length = 62 ∧ s.statusBytes = front ++ [if s.clp.reportOverrun then 1 else 0, if s.clp.rxOverrun then 1 else 0] := by
  refine ⟨_, ?_, List.append_assoc _ _ _⟩
  simp

end Lengths

/-- QUERY-TIER answers for every tier number, installed or not (R161, log 33). -/
theorem serveTier_answers {s : State} {b : Byte} {t : Tier} (h : tierOf b = some t) : s.serveTier b = (s, .ok, s.tierBytes t) :=
  withTier_of_some h _

/-- The first byte of a tier's reply is its number. -/
theorem tierOf_byte {b : Byte} {t : Tier} (h : tierOf b = some t) : BitVec.ofNat 8 t.val = b := by
  unfold tierOf at h
  split at h
  · cases h
    simp
  · cases h

/-- A request that its block answers is handled at once, whatever it makes of the link port (R179). -/
theorem request_answered {s s' : State} {tag : Byte} {r : Request} {c : Code} {data : List Byte}
    (h : s.Handles) (hs : s.serve r = (s', c, data)) (hc : c ≠ .unknown) :
    s.during (fun x => x.request tag r) = .next (s'.replied tag ((requestBytes r).1 + 0x80) c data []) := by
  obtain ⟨hr, hi, hl⟩ := h
  rw [during_next hr]
  simp [State.request, hi, hl, State.answer, hs, State.kick, State.modPort, LinkPort.push, LinkPort.after,
    replyKind_of_ne hc, State.replied]

/-- Settles O38: each query's reply by the lengths of its records. -/
theorem queriesAnswer : Obligations.QueriesAnswer := by
  intro tag b t s h
  refine ⟨?status, fun hb => ?tier, fun hb => ?above, ?queue, ?grants⟩
  case status =>
    obtain ⟨front, hlen, heq⟩ := statusBytes_eq s
    refine ⟨s.statusBytes, ?_, ?_, ?_, request_answered h (r := .queryStatus) rfl (by decide)⟩
    · simp [heq, hlen]
    · rw [heq, List.getD_append_right _ _ _ _ (by omega), hlen]
      rfl
    · rw [heq, List.getD_append_right _ _ _ _ (by omega), hlen]
      rfl
  case tier =>
    refine ⟨s.tierBytes t, tierBytes_length s t, ?_, fun hi => ?_, request_same h (serveTier_answers hb) (by decide)⟩
    · exact tierOf_byte hb
    · have hstate : (s.tierBytes t).getD 1 0 = s.stateByte t := rfl
      rw [hstate, State.stateByte, if_pos hi]
  case above => exact request_same h (withTier_of_none hb _) (by decide)
  case queue => exact request_same h (r := .queryQueue) rfl (by decide)
  case grants =>
    refine ⟨_, ?_, ?_, request_same h (r := .queryGrants) rfl (by decide)⟩
    · rfl
    · simp [length_comp_grantBytes]
      omega

end Sys2Proof.Machine
end

section
/-! PROOFS. What a scan does with the entries it walks (R101, R102, R107, R108): the one entry of a queue, and a further one behind
an entry that waits. -/

namespace Sys2Proof.Machine

section Scan

variable {s y : State} {e x : Entry} {t : Tier} {n : Nat} {c : Code} {rs : List Report}

@[simp] theorem withScans_tier (s : State) (n : Nat) (t : Tier) : (s.withScans n).tier t = s.tier t := rfl

@[simp] theorem withScans_zu (s : State) (n : Nat) : (s.withScans n).zu = s.zu := rfl

/-- The state with no report of its event queued is the state with the transmitter gone on (R181). -/
theorem reported_nil (s : State) : s.reported [] = { s with clp := LinkPort.kick s.clp } := by
  simp [State.reported, LinkPort.after]

/-- ADMISSION-SCAN answers one trigger (R101). -/
theorem admissionScan_next (hrun : s.phase = .running) (hdue : s.aa.scansDue = n + 1) (hscan : (s.withScans n).scan = y.told rs) :
    exec .admissionScan s = .next (y.reported rs) := by
  have hdone : s.dueScan = (s.withScans n).scan := by simp only [State.dueScan, hdue]; rfl
  exact during_reported (f := State.dueScan) hrun (hdone.trans hscan)

/-- ADMISSION-SCAN that changes nothing but the count of triggers (R101). -/
theorem admissionScan_idle (hrun : s.phase = .running) (hdue : s.aa.scansDue = n + 1) (hscan : (s.withScans n).scan = s.withScans n) :
    exec .admissionScan s = .next ((s.withScans n).reported []) :=
  admissionScan_next hrun hdue (hscan.trans (told_nil _).symm)

/-- What it leaves, with the transmitter gone on (R181). -/
theorem withScans_reported_nil (s : State) (n : Nat) :
    (s.withScans n).reported [] = { s with clp := LinkPort.kick s.clp, aa := { s.aa with scansDue := n } } :=
  reported_nil (s.withScans n)

/-- A scan of a closed hall walks no entry (R102). -/
theorem scan_of_closed (hh : s.hallClosed = true) (hc : s.convActive = false) : s.scan = s := by
  have hwalk : s.walkQueue = ⟨s, [], [], false, false⟩ := by simp [State.walkQueue, hh]
  rw [State.scan, hwalk, raiseBypass_nil, convScanEnd_of_idle hc]

/-! ### The one entry of a queue -/

section One

variable (hq : s.aa.queue = [e]) (hh : s.hallClosed = false)

include hq hh

/-- A waiting entry stays as it is (R102). -/
theorem scan_of_wait (hj : s.judge e = .wait) (hc : s.convActive = false) : s.scan = s := by
  have hwalk : s.walkQueue = ⟨s, [e.tier], [], false, decide (8 ≤ e.bypass)⟩ := by
    simp [State.walkQueue, hh, hq, Scan.visit, hj, Scan.leave]
  rw [State.scan, hwalk, raiseBypass_nil, convScanEnd_of_idle hc]

/-- A dropped entry leaves the queue (R102). -/
theorem scan_of_drop (hj : s.judge e = .drop c) (hc : (s.dropEntry e c).convActive = false) : s.scan = s.dropEntry e c := by
  have hwalk : s.walkQueue = ⟨s.dropEntry e c, [], [], false, false⟩ := by
    simp [State.walkQueue, hh, hq, Scan.visit, hj]
  rw [State.scan, hwalk, raiseBypass_nil, convScanEnd_of_idle hc]

/-- An entry that lacks samples has them asked for (R103). -/
theorem scan_of_want {ts : List Tier} (hj : s.judge e = .want ts) (hc : (s.wantSamples e ts).convActive = false) :
    s.scan = s.wantSamples e ts := by
  have hwalk : s.walkQueue = ⟨s.wantSamples e ts, [e.tier], [], false, decide (8 ≤ e.bypass)⟩ := by
    simp [State.walkQueue, hh, hq, Scan.visit, hj, Scan.leave]
  rw [State.scan, hwalk, raiseBypass_nil, convScanEnd_of_idle hc]

end One

/-- ADMISSION-SCAN on the one entry of the queue that waits (R101, R102). -/
theorem admissionScan_wait (h : s.ScansOne n e) (hj : (s.withScans n).judge e = .wait) :
    exec .admissionScan s = .next ((s.withScans n).reported []) := by
  obtain ⟨hrun, hc, hdue, hq, hh⟩ := h
  exact admissionScan_idle hrun hdue (scan_of_wait (s := s.withScans n) hq hh hj hc)

/-- The one entry of the queue, of a LINK move, is dropped (R98). -/
theorem dropEntry_link (hr : s.Room 1) (hq : s.aa.queue = [e]) (ho : e.origin = .link) (c : Code) :
    s.dropEntry e c = ({ s with aa := { s.aa with queue := [] } } : State).told
      [.requestDropped e.tier e.members e.kind .link c] := by
  have hroom : ({ s with aa := { s.aa with queue := [] } } : State).Room 1 := hr
  simp [State.dropEntry, ho, hq, report_eq_told hroom]

/-- ADMISSION-SCAN that drops the one entry of the queue, of a LINK move (R98, R102). -/
theorem admissionScan_drop (h : s.ScansOne n e) (hr : s.Room 1) (ho : e.origin = .link)
    (hj : (s.withScans n).judge e = .drop c) :
    exec .admissionScan s = .next (({ s.withScans n with aa := { (s.withScans n).aa with queue := [] } } : State).reported
      [.requestDropped e.tier e.members e.kind .link c]) := by
  obtain ⟨hrun, hc, hdue, hq, hh⟩ := h
  have hdrop := dropEntry_link (s := s.withScans n) hr hq ho c
  refine admissionScan_next hrun hdue ((scan_of_drop (s := s.withScans n) hq hh hj ?_).trans hdrop)
  rw [hdrop]
  exact hc

/-! ### An entry behind one that waits (R102, R108) -/

section Two

variable (hq : s.aa.queue = [x, e]) (hh : s.hallClosed = false) (hx : s.judge x = .wait)

include hq hh hx

/-- A waiting entry whose bypass count is 8 ends the scan (R108). -/
theorem scan_of_blocked (hb : 8 ≤ x.bypass) (hc : s.convActive = false) : s.scan = s := by
  have hwalk : s.walkQueue = ⟨s, [x.tier], [], false, true⟩ := by
    simp [State.walkQueue, hh, hq, Scan.visit, hx, Scan.leave, hb]
  rw [State.scan, hwalk, raiseBypass_nil, convScanEnd_of_idle hc]

/-- An admission behind a waiting entry raises the bypass count of that entry (R102, R108). -/
theorem scan_of_overtaken {cap : Option Nat} {alloc : Nat} {derated : Bool} (hne : x.tier ≠ e.tier) (hb : x.bypass < 8)
    (hj : s.judge e = .pass cap alloc derated) (hc : ((s.startEntry e cap alloc derated).raiseBypass [x.tier]).convActive = false) :
    s.scan = (s.startEntry e cap alloc derated).raiseBypass [x.tier] := by
  have hwalk : s.walkQueue = ⟨s.startEntry e cap alloc derated, [x.tier], [x.tier], true, false⟩ := by
    simp [State.walkQueue, hh, hq, Scan.visit, hx, Scan.leave, Nat.not_le.mpr hb, hne, hj]
  rw [State.scan, hwalk, convScanEnd_of_idle hc]

end Two

end Scan

/-! ### The tests that keep an entry from admission (R102 to R106) -/

section Tests

variable {s : State} {e : Entry} {t : Tier}

section Barred

variable (hl : ∀ u ∈ e.tiers, s.fsu.showLock.getLsbD u = false)

include hl

theorem any_locked_of_unlocked : e.tiers.any (fun u => s.fsu.showLock.getLsbD u) = false :=
  List.any_eq_false.mpr fun u hu => by rw [hl u hu]; exact Bool.false_ne_true

/-- An entry of tiers that are not show-locked falls to a FAULTED one (R102). -/
theorem judge_faulted (ht : t ∈ e.tiers) (hf : (s.tier t).state = .faulted) : s.judge e = .drop .fault := by
  have hfaulted : e.tiers.any (fun u => decide ((s.tier u).state = .faulted)) = true :=
    List.any_eq_true.mpr ⟨t, ht, decide_eq_true hf⟩
  simp only [State.judge, any_locked_of_unlocked hl, hfaulted, Bool.false_eq_true, if_false, if_true]

/-- An entry of tiers that are neither show-locked nor FAULTED waits for one that does not stand for it (R102). -/
theorem judge_waits (hf : ∀ u ∈ e.tiers, (s.tier u).state ≠ .faulted) (ht : t ∈ e.tiers) (hs : s.standsFor e t = false) :
    s.judge e = .wait := by
  have hfaulted : e.tiers.any (fun u => decide ((s.tier u).state = .faulted)) = false :=
    List.any_eq_false.mpr fun u hu => by simp [hf u hu]
  have hstands : e.tiers.all (s.standsFor e) = false := List.all_eq_false.mpr ⟨t, ht, by simp [hs]⟩
  simp only [State.judge, any_locked_of_unlocked hl, hfaulted, hstands, Bool.not_false, Bool.false_eq_true, if_false, if_true]

end Barred

/-- A show-locked tier drops its entry (R102). -/
theorem judge_locked (ht : t ∈ e.tiers) (hl : s.fsu.showLock.getLsbD t = true) : s.judge e = .drop .showLocked :=
  if_pos (List.any_eq_true.mpr ⟨t, ht, hl⟩)

/-- What the load test makes of a CONVERT move: a drop, the claim test, or a wish for the samples that it lacks (R103). -/
def State.loadJudged (s : State) (e : Entry) : Except Code (List Tier) → Judged
  | .error c => .drop c
  | .ok [] => s.claimTest e
  | .ok (w :: ws) => if e.sample = .pending then .wait else .want (w :: ws)

/-- A CONVERT move of READY tiers is judged by its loads once the zone table is valid (R102, R103). -/
theorem judge_convert (hl : ∀ u ∈ e.tiers, s.fsu.showLock.getLsbD u = false) (hst : ∀ u ∈ e.tiers, s.standsFor e u = true)
    (hf : ∀ u ∈ e.tiers, (s.tier u).state ≠ .faulted) (hc : e.cls = some .convert) :
    s.judge e = if s.zu.valid then s.loadJudged e (s.loadTest e.tiers []) else .wait := by
  have hfaulted : e.tiers.any (fun u => decide ((s.tier u).state = .faulted)) = false :=
    List.any_eq_false.mpr fun u hu => by simp [hf u hu]
  have hstands : e.tiers.all (s.standsFor e) = true := List.all_eq_true.mpr hst
  simp only [State.judge, any_locked_of_unlocked hl, hfaulted, hstands, hc, Bool.not_true, Bool.false_eq_true, if_false, if_true]
  cases s.zu.valid
  · rfl
  · simp only [Bool.not_true, Bool.false_eq_true, if_false, if_true]
    rcases s.loadTest e.tiers [] with c | ⟨_ | ⟨w, ws⟩⟩ <;> rfl

/-! ### The load test of one tier (R103) -/

/-- A LOAD-RANGE restriction (R103). -/
theorem loadTest_range (h : (s.tier t).loadRange = true) : s.loadTest [t] [] = .error .load := by
  simp [State.loadTest, h]

/-- A tier without a fresh sample wants one (R103). -/
theorem loadTest_stale (h : (s.tier t).loadRange = false) (hs : s.sampleFresh t = false) : s.loadTest [t] [] = .ok [t] := by
  simp [State.loadTest, h, hs]

/-- A fresh sample of a load above the vacancy limit (R103). -/
theorem loadTest_occupied {k load : Nat} (h : (s.tier t).loadRange = false) (hs : s.sample t = .valid k load true)
    (hv : (s.prof t).vacancyLimit < load) : s.loadTest [t] [] = .error .occupied := by
  simp [State.loadTest, h, State.sampleFresh, State.occupied, hs, hv]

/-! ### The claim test of a move of one tier (R104) -/

section Claim

variable (hk : e.kind = .move)

include hk

theorem entryValid_of_move : s.entryValid e = s.entryFits e := by simp [State.entryValid, hk]

/-- An arc that can no longer be granted at all (R66, R104). -/
theorem claimTest_range (hfit : s.entryFits e = false) : s.claimTest e = .drop .range := by
  simp [State.claimTest, hk, entryValid_of_move hk, hfit]

/-- A zone that forbids the arc (R104, R110). -/
theorem claimTest_zone (hfit : s.entryFits e = true) (hz : s.entryZone e = .zone) : s.claimTest e = .drop .zone := by
  simp [State.claimTest, hk, entryValid_of_move hk, hfit, hz]

/-- A zone that holds the move back (R68, R104). -/
theorem claimTest_zone_wait (hfit : s.entryFits e = true) (hz : s.entryZone e = .wait) : s.claimTest e = .wait := by
  simp [State.claimTest, hk, entryValid_of_move hk, hfit, hz]

/-- Floor that is not free (R104). -/
theorem claimTest_not_grantable (hfit : s.entryFits e = true) (hz : s.entryZone e = .pass)
    (hg : s.grantable e.tiers (s.entryClaim e).arc = false) : s.claimTest e = .wait := by
  simp [State.claimTest, hk, entryValid_of_move hk, hfit, hz, hg]

end Claim

end Tests

end Sys2Proof.Machine
end

section
/-! PROOFS. What a scan drops and what it leaves waiting (R66, R68, R102 to R104, R110). -/

namespace Sys2Proof.Machine

section Tests

variable {s : State} {e : Entry} {t : Tier}

theorem standsFor_of_move (hk : e.kind = .move) : s.standsFor e t = decide ((s.tier t).state = .ready) := by
  simp [State.standsFor, hk]

section Ready

variable (hk : e.kind = .move) (hts : e.tiers = [t]) (hl : s.fsu.showLock.getLsbD t = false) (hst : (s.tier t).state = .ready)

include hk hts hl hst

/-- A MAINT move of a READY tier goes on to the claim test (R102, R103). -/
theorem judge_maint (hc : e.cls = some .maint) : s.judge e = s.claimTest e :=
  judge_ready (by simpa [hts] using hl) (by simpa [hts] using hst) (by simp [hk]) (by simp [hc])

/-- A CONVERT move of a READY tier is judged by its load once the zone table is valid (R102, R103). -/
theorem judge_convert_single (hc : e.cls = some .convert) :
    s.judge e = if s.zu.valid then s.loadJudged e (s.loadTest [t] []) else .wait := by
  have hstands : s.standsFor e t = true := by rw [standsFor_of_move hk, hst]; rfl
  rw [← hts]
  exact judge_convert (by simpa [hts] using hl) (by simpa [hts] using hstands) (by simp [hts, hst]) hc

/-- A CONVERT move that lacks its sample asks for it once (R103). -/
theorem judge_stale (hc : e.cls = some .convert) (hz : s.zu.valid = true) (hr : (s.tier t).loadRange = false)
    (hs : s.sampleFresh t = false) : s.judge e = if e.sample = .pending then .wait else .want [t] := by
  rw [judge_convert_single hk hts hl hst hc, if_pos hz, loadTest_stale hr hs]
  rfl

end Ready

/-- A sample asked for on an idle converter begins its conversion, and the entry becomes PENDING (R103, R139). -/
theorem wantSamples_of_idle (hq : s.aa.queue = [e]) (hc : s.lc.converter = none) (hf : s.lc.fifo = []) (t : Tier) :
    s.wantSamples e [t] = { s with
      aa := { s.aa with queue := [{ e with sample := .pending }] }
      lc := { s.lc with converter := some ⟨t, false, true⟩ } } := by
  simp [State.wantSamples, State.requestSample, hc, hf, hq]

end Tests

/-- Settles O54: the outcome of each test on the one entry of the queue. -/
theorem scanDrops : Obligations.ScanDrops := by
  rintro t n cls e s x hscan hroom hk rfl hm ho hc rfl
  have hts : e.tiers = [e.tier] := by simp [Entry.tiers, hm]
  have htier : e.tier ∈ e.tiers := by simp [hts]
  have hunlocked (hl : s.fsu.showLock.getLsbD e.tier = false) : ∀ u ∈ e.tiers, s.fsu.showLock.getLsbD u = false := by
    simpa [hts] using hl
  refine ⟨fun c hcause => ?dropped, fun hl hcause => ?waits, fun hl hst hconv hz hr hs hsample hidle hfifo => ?wanted⟩
  case dropped =>
    have hdrop : (s.withScans n).judge e = .drop c := by
      rcases hcause with ⟨hl, rfl⟩ | ⟨hl, hf, rfl⟩ | ⟨hl, hst, hload | hoccupied | hrange | hzone⟩
      · exact judge_locked htier hl
      · exact judge_faulted (hunlocked hl) htier hf
      · obtain ⟨rfl, hz, hr, rfl⟩ := hload
        rw [judge_convert_single (s := s.withScans n) hk hts hl hst hc, if_pos (by exact hz),
          loadTest_range (s := s.withScans n) hr]
        rfl
      · obtain ⟨rfl, hz, hr, ⟨k, load, hs, hv⟩, rfl⟩ := hoccupied
        rw [judge_convert_single (s := s.withScans n) hk hts hl hst hc, if_pos (by exact hz),
          loadTest_occupied (s := s.withScans n) hr hs hv]
        rfl
      · obtain ⟨rfl, hfit, rfl⟩ := hrange
        exact (judge_maint (s := s.withScans n) hk hts hl hst hc).trans (claimTest_range hk hfit)
      · obtain ⟨rfl, hfit, hz, rfl⟩ := hzone
        exact (judge_maint (s := s.withScans n) hk hts hl hst hc).trans (claimTest_zone (s := s.withScans n) hk hfit hz)
    have hnext := admissionScan_drop hscan hroom ho hdrop
    rw [hm, hk] at hnext
    exact hnext
  case waits =>
    refine admissionScan_wait hscan ?_
    rcases hcause with hst | ⟨hst, hzones | hpending | hzone | hfloor⟩
    · have hnot : (s.tier e.tier).state ≠ .ready ∧ (s.tier e.tier).state ≠ .faulted := by simpa using hst
      refine judge_waits (s := s.withScans n) (hunlocked hl) (by simpa [hts] using hnot.2) htier ?_
      rw [standsFor_of_move hk]
      exact decide_eq_false hnot.1
    · obtain ⟨rfl, hz⟩ := hzones
      rw [judge_convert_single (s := s.withScans n) hk hts hl hst hc]
      exact if_neg (by simp [hz])
    · obtain ⟨rfl, hz, hr, hs, hpending⟩ := hpending
      exact (judge_stale (s := s.withScans n) hk hts hl hst hc hz hr hs).trans (if_pos hpending)
    · obtain ⟨rfl, hfit, hz⟩ := hzone
      exact (judge_maint (s := s.withScans n) hk hts hl hst hc).trans (claimTest_zone_wait hk hfit hz)
    · obtain ⟨rfl, hfit, hz, hg⟩ := hfloor
      exact (judge_maint (s := s.withScans n) hk hts hl hst hc).trans (claimTest_not_grantable hk hfit hz (by rw [hts]; exact hg))
  case wanted =>
    subst hconv
    obtain ⟨hrun, hidleConv, hdue, hq, hh⟩ := hscan
    have hwant : (s.withScans n).judge e = .want [e.tier] :=
      (judge_stale (s := s.withScans n) hk hts hl hst hc hz hr hs).trans (if_neg hsample)
    have hasked := wantSamples_of_idle (s := s.withScans n) hq hidle hfifo e.tier
    refine admissionScan_next hrun hdue ((scan_of_want (s := s.withScans n) hq hh hwant ?_).trans (hasked.trans (told_nil _).symm))
    rw [hasked]
    exact hidleConv

end Sys2Proof.Machine
end

section
/-! PROOFS. A scan admits a move at a derated speed (R105 to R107). -/

namespace Sys2Proof.Machine

/-! ### The speed that a room allows (R106) -/

section Speed

variable {x : Need} {room u v : Nat}

/-- The derated speed is what is left of the room, in 256ths, over the mass (R106). -/
theorem speedIn_eq : x.speedIn room =
    if x.tilt + x.hold < room then some ((room - (x.tilt + x.hold)) * 256 / x.mass) else none := by
  have hpos : (0 < (room : Int) - x.tilt - x.hold) ↔ x.tilt + x.hold < room := by omega
  have hleft : ((room : Int) - x.tilt - x.hold).toNat = room - (x.tilt + x.hold) := by omega
  simp only [Need.speedIn, hpos, hleft]

/-- A speed whose demand exceeds the room is above the derated speed (R106). -/
theorem speedIn_lt (hs : x.slews = true) (hu : room < x.demand u) (hv : x.speedIn room = some v) : v < u := by
  rw [speedIn_eq] at hv
  split at hv
  · cases hv
    by_contra hle
    have hmass : x.mass * u ≤ (room - (x.tilt + x.hold)) * 256 :=
      (Nat.mul_le_mul_left _ (Nat.not_lt.mp hle)).trans (Nat.mul_div_le _ _)
    rw [demand_eq, if_pos hs] at hu
    generalize x.mass * u = p at hmass hu
    omega
  · cases hv

end Speed

/-! ### The budget test (R106) -/

section Budget

variable {s : State} {e : Entry}

section Room

variable {x : Need} {room v : Nat} (hk : e.kind ≠ .test) (hn : s.entryNeed e = x) (hr : s.remaining = room)
  (hb : room < x.demand x.full)

include hk hn hr hb

/-- A slewing move whose full demand does not fit passes at the derated speed, if that is at least creep (R106). -/
theorem budgetTest_derated (hs : x.slews = true) (hv : x.speedIn room = some v) (hc : s.site.creep ≤ v) :
    s.budgetTest e = .pass (some v) (x.demand v) true := by
  unfold State.budgetTest
  split
  case h_1 htest => exact absurd htest hk
  case h_2 => simp only [hn, hr, if_neg (Nat.not_le.mpr hb), hs, hv, if_pos hc, if_true]

/-- It waits below creep, and a move that does not slew waits for its full demand (R106). -/
theorem budgetTest_waits (hv : x.slews = true → ∀ v, x.speedIn room = some v → v < s.site.creep) : s.budgetTest e = .wait := by
  unfold State.budgetTest
  split
  case h_1 htest => exact absurd htest hk
  case h_2 =>
    simp only [hn, hr, if_neg (Nat.not_le.mpr hb)]
    split
    · split
      · exact if_neg (Nat.not_le.mpr (hv ‹_› _ ‹_›))
      · rfl
    · rfl

end Room

/-- A move of one READY tier that its load, the zones and the floor let pass is judged by the budget (R102 to R104). -/
theorem judge_granted {t : Tier} (hk : e.kind = .move) (hts : e.tiers = [t]) (hl : s.fsu.showLock.getLsbD t = false)
    (hst : (s.tier t).state = .ready) (hload : e.cls = some .convert → s.zu.valid = true ∧ s.loadTest [t] [] = .ok [])
    (hfit : s.entryFits e = true) (hz : s.entryZone e = .pass) (hg : s.grantable [t] (s.entryClaim e).arc = true) :
    s.judge e = s.budgetTest e :=
  (judge_ready (by simpa [hts] using hl) (by simpa [hts] using hst) (by simp [hk]) (by rwa [hts])).trans
    (claimTest_granted (by simp [hk]) ((entryValid_of_move hk).trans hfit) hz (by rwa [hts]))

end Budget

/-- The entry of a LINK move of one tier to a slew and a tilt. -/
def moveTo (t : Tier) (cls : MClass) (x : Slew) (w : Dir) (y : Nat) (auto : Bool) (bypass : Nat) (sample : SampleState) : Entry :=
  ⟨.move, t, [], some cls, some x, some w, some y, auto, .link, bypass, sample⟩

section MoveTo

variable (s : State) (t : Tier) (cls : MClass) (x : Slew) (w : Dir) (y : Nat) (auto : Bool) (bypass : Nat) (sample : SampleState)

/-- Its need (R105). -/
theorem moveTo_need : s.entryNeed (moveTo t cls x w y auto bypass sample) =
    ⟨s.mass (some cls) t, decide (distance w (s.cmdPos t).slew x ≠ 0),
      if y = (s.cmdPos t).tilt then 0 else (s.mass (some cls) t * (s.prof t).tiltSpeed + 7) / 8, (s.prof t).hold,
      if cls = .maint then min s.site.creep (s.prof t).slewMax else (s.prof t).slewMax⟩ := by
  have hneed : s.entryNeed (moveTo t cls x w y auto bypass sample) =
      ⟨s.mass (some cls) t, decide (distance w (s.cmdPos t).slew x ≠ 0),
        if decide (y ≠ (s.cmdPos t).tilt) then (s.mass (some cls) t * (s.prof t).tiltSpeed + 7) / 8 else 0, (s.prof t).hold,
        if cls = .maint then min s.site.creep (s.prof t).slewMax else (s.prof t).slewMax⟩ := need_single s cls t _ _
  rw [hneed]
  by_cases hy : y = (s.cmdPos t).tilt <;> simp [hy]

/-- Its move record at admission, while it has a way to slew (R25, R77). -/
theorem moveTo_moveFrom (hgo : distance w (s.cmdPos t).slew x ≠ 0) : s.moveFrom (moveTo t cls x w y auto bypass sample) t =
    { leader := t, members := [], cls := cls, origin := .link, targetSlew := x, dir := w, targetTilt := y,
      band := moveBand (s.cmdPos t).tilt y, auto := auto
      slew := ⟨0, distance w (s.cmdPos t).slew x, false, false, 0, false⟩
      tilt := ⟨if (s.cmdPos t).tilt < y then .up else if y < (s.cmdPos t).tilt then .down else .none, 0,
        (y - (s.cmdPos t).tilt) + ((s.cmdPos t).tilt - y), false, decide (y = (s.cmdPos t).tilt)⟩ } := by
  have hslew : SlewGen.start (distance w (s.cmdPos t).slew x) = ⟨0, distance w (s.cmdPos t).slew x, false, false, 0, false⟩ := by
    simp [SlewGen.start, hgo]
  rw [← tiltStart_eq, ← hslew]
  rfl

end MoveTo

/-- Settles O55: past the other tests the budget test alone decides, by the speed that the room allows. -/
theorem scanDerates : Obligations.ScanDerates := by
  refine ⟨?convert, ?maint⟩
  case convert =>
    rintro t n d mass tilts room v x y now e w k s hscan hroom2 he hl hst rfl hz hr ⟨c, load, hs, hvacant⟩ rfl hfit hzone hgrant
      hmass htilts hroom hv
    generalize e.auto = auto, e.bypass = bypass, e.sample = sample at he ⊢
    change e = moveTo t .convert x w y auto bypass sample at he
    subst he hmass
    have hjudge := judge_granted (s := s.withScans n) (e := moveTo t .convert x w y auto bypass sample) rfl rfl hl hst
      (fun _ => ⟨hz, loadTest_vacant (s := s.withScans n) hr hs hvacant⟩) hfit hzone hgrant
    have hneed := moveTo_need s t .convert x w y auto bypass sample
    generalize hn : s.entryNeed (moveTo t .convert x w y auto bypass sample) = need at hneed
    have hsum : need.tilt + need.hold = tilts := by rw [hneed, htilts]
    have hfullDemand (hgo : distance w (s.cmdPos t).slew x ≠ 0) (u : Nat) :
        need.demand u = (s.mass (some .convert) t * u + 255) / 256 + tilts := by
      rw [demand_eq, Nat.add_assoc, hsum, hneed]
      simp [hgo]
    refine ⟨fun hgo hfull hleft hcreep hd => ?admits, fun hcause => ?waits⟩
    case admits =>
      have hspeed : need.speedIn room = some v := by rw [speedIn_eq, hsum, if_pos hleft, hv, hneed]
      have hdemand : need.demand v = d := by rw [hfullDemand hgo, hd]
      have hlow : room < need.demand (s.prof t).slewMax := by rwa [hfullDemand hgo]
      have hslews : need.slews = true := by rw [hneed]; exact decide_eq_true hgo
      have hfits : (need.demand v : Int) ≤ room := demand_le_of_speedIn hspeed
      refine ⟨by omega, speedIn_lt hslews hlow hspeed, ?_⟩
      have hpass := hjudge.trans
        (budgetTest_derated (s := s.withScans n) (by simp [moveTo]) hn hroom.symm (by rw [hneed] at hlow ⊢; exact hlow) hslews
          hspeed hcreep)
      rw [hdemand] at hpass
      have hmoves := moveTo_moveFrom s t .convert x w y auto bypass sample hgo
      have hstart := startEntry_single (s := s.withScans n) (e := moveTo t .convert x w y auto bypass sample) (cap := some v)
        (alloc := d) (derated := true) hroom2 rfl rfl rfl (by
          show (s.moveFrom (moveTo t .convert x w y auto bypass sample) t).finished = false
          rw [hmoves]
          rfl)
      rw [granted_of_one (by exact hscan.2.2.2.1)] at hstart
      rw [← hmoves]
      exact admissionScan_pass hscan hpass hstart rfl
    case waits =>
      have hlow : room < need.demand need.full := by
        rw [demand_eq, Nat.add_assoc, hsum, hneed]
        rcases hcause with ⟨hgo, hfull, -⟩ | ⟨hgo, hfull⟩ <;> simpa [hgo] using hfull
      refine (admissionScan_wait hscan (hjudge.trans (budgetTest_waits (by simp [moveTo]) hn hroom.symm hlow
        fun hslews u hu => ?_))).trans (congrArg _ (withScans_reported_nil s n))
      rcases hcause with ⟨-, -, hnone | hcreep⟩ | ⟨hgo, -⟩
      · rw [speedIn_eq, hsum, if_neg (Nat.not_lt.mpr hnone)] at hu
        cases hu
      · rw [speedIn_eq, hsum] at hu
        split at hu
        · cases hu
          rw [hneed]
          rwa [hv] at hcreep
        · cases hu
      · rw [hneed] at hslews
        exact absurd hgo (of_decide_eq_true hslews)
  case maint =>
    rintro t n mass x y now e w k s hscan he hl hst rfl rfl hfit hzone hgrant rfl hfull
    generalize e.auto = auto, e.bypass = bypass, e.sample = sample at he ⊢
    change e = moveTo t .maint x w y auto bypass sample at he
    subst he
    have hjudge := judge_granted (s := s.withScans n) (e := moveTo t .maint x w y auto bypass sample) rfl rfl hl hst
      (fun hc => by cases hc) hfit hzone hgrant
    have hneed := moveTo_need s t .maint x w y auto bypass sample
    generalize hn : s.entryNeed (moveTo t .maint x w y auto bypass sample) = need at hneed
    have hlow : s.remaining < need.demand need.full := by
      rw [demand_eq, hneed]
      simpa [State.remaining, Nat.add_assoc] using hfull
    refine (admissionScan_wait hscan (hjudge.trans (budgetTest_waits (by simp [moveTo]) hn rfl hlow
      fun hs v hv => ?_))).trans (congrArg _ (withScans_reported_nil s n))
    calc v < need.full := speedIn_lt hs hlow hv
      _ ≤ s.site.creep := by rw [hneed]; exact min_le_left _ _

end Sys2Proof.Machine
end

section
/-! PROOFS. A scan of a closed hall and of a TEST entry (R41, R101, R102, R105 to R108, R146). -/

namespace Sys2Proof.Machine

/-! ### A closed hall (R102) -/

section Closed

variable {s : State}

/-- Fail-safe, an UNSYNCED tier or a map conflict closes the hall (R102). -/
theorem hallClosed_of (h : s.fsu.failsafe ≠ none ∨ (∃ t, s.installed t = true ∧ (s.tier t).state = .unsynced) ∨
    s.mapConflict = true) : s.hallClosed = true := by
  rcases h with hf | ⟨t, hi, hst⟩ | hm
  · simp [State.hallClosed, Option.isSome_iff_ne_none.mpr hf]
  · have hany : s.installedTiers.any (fun t => decide ((s.tier t).state = .unsynced)) = true :=
      List.any_eq_true.mpr ⟨t, mem_installedTiers.mpr hi, decide_eq_true hst⟩
    simp [State.hallClosed, hany]
  · simp [State.hallClosed, hm]

/-- ADMISSION-SCAN with no trigger due (R101). -/
theorem dueScan_none (h : s.aa.scansDue = 0) : s.dueScan = s := by
  simp [State.dueScan, h]

end Closed

/-! ### The TEST entry (R41, R105, R146) -/

section Test

variable {s : State} {t : Tier}

/-- The TEST entry of an unlocked SECURED tier is judged by its test demand alone (R102, R105, R106). -/
theorem judge_testEntry (hl : s.fsu.showLock.getLsbD t = false) (hst : (s.tier t).state = .secured) :
    s.judge (testEntry t) = if s.testDemand t ≤ s.remaining then .pass none (s.testDemand t) false else .wait := by
  have hlocked : (testEntry t).tiers.any (fun u => s.fsu.showLock.getLsbD u) = false :=
    any_locked_of_unlocked fun u hu => List.mem_singleton.mp hu ▸ hl
  have hjudge : s.judge (testEntry t) = s.budgetTest (testEntry t) := by
    simp only [State.judge, hlocked]
    simp [testEntry, Entry.tiers, hst, State.standsFor, State.claimTest]
  exact hjudge

/-- The record of a tier that an admission sets testing, with the test record of its profile (R41, R146). -/
def TierRec.testing (r : TierRec) (p : ProfileData) : TierRec :=
  { r with
    state := .testing
    brakeTimer := .stopped
    testTimer := some p.testDuration
    test := some ⟨p.testTorque, p.testDuration, p.slipLimit, none, none⟩ }

/-- A tier enters TESTING with its test timer and test record (R41, R146). -/
theorem enter_startTest (hr : s.Room 1) :
    (s.enter t .testing).startTest t = (s.modTier t fun r => r.testing (s.prof t)).told [.tierState t .testing] := by
  rw [enter_eq hr, State.startTest, told_modTier, modTier_modTier]
  rfl

/-- The admission of a TEST entry (R41, R107, R146). -/
theorem startEntry_test (hr : s.Room 2) (d : Nat) : s.startEntry (testEntry t) none d false =
    ((s.granted (testEntry t) s.fm none d false).modTier t fun r => r.testing (s.prof t)).told
      [.admitted t [] .test .link none d false, .tierState t .testing] := by
  have hgrant : s.startEntry (testEntry t) none d false =
      (((s.granted (testEntry t) s.fm none d false).report (.admitted t [] .test .link none d false)).enter t .testing).startTest t :=
    rfl
  rw [hgrant, report_eq_told (by exact room_mono hr (by decide)), enter_startTest ((told_room _ _ _).mpr hr), told_modTier,
    told_told]
  rfl

/-- An admission from behind a waiting entry, whose bypass count it raises (R107, R108). -/
theorem granted_raiseBypass {x e : Entry} {d : Nat} (hq : s.aa.queue = [x, e]) (hne : x.tier ≠ e.tier) (hb : x.bypass < 8) :
    (s.granted e s.fm none d false).raiseBypass [x.tier] = { s with aa := { s.aa with
      queue := [{ x with bypass := x.bypass + 1 }]
      grants := s.aa.grants ++ [⟨e.kind, e.tier, e.members, e.cls, d, none, false⟩] } } := by
  have hother : (x == e) = false := beq_false_of_ne fun h => hne (congrArg Entry.tier h)
  have hcount : min 8 (x.bypass + 1) = x.bypass + 1 := by omega
  simp [State.granted, State.raiseBypass, hq, hother, hcount]

/-- The admission of a TEST entry from behind a waiting one (R41, R107, R108, R146). -/
theorem startEntry_test_behind {x : Entry} (hr : s.Room 2) (hq : s.aa.queue = [x, testEntry t]) (hne : x.tier ≠ t)
    (hb : x.bypass < 8) (d : Nat) : (s.startEntry (testEntry t) none d false).raiseBypass [x.tier] =
      ((({ s with aa := { s.aa with
        queue := [{ x with bypass := x.bypass + 1 }]
        grants := s.aa.grants ++ [⟨.test, t, [], none, d, none, false⟩] } } : State).modTier t fun r =>
          r.testing (s.prof t)).told [.admitted t [] .test .link none d false, .tierState t .testing]) := by
  have hunder : ((s.granted (testEntry t) s.fm none d false).modTier t fun r => r.testing (s.prof t)).raiseBypass [x.tier] =
      ((s.granted (testEntry t) s.fm none d false).raiseBypass [x.tier]).modTier t fun r => r.testing (s.prof t) := rfl
  rw [granted_raiseBypass (e := testEntry t) hq hne hb] at hunder
  rw [startEntry_test hr]
  exact congrArg (State.told · _) hunder

end Test

/-- Settles O52: the scan of a closed hall, of the TEST entry, and of the TEST entry behind one that waits. -/
theorem scanTests : Obligations.ScanTests := by
  refine ⟨fun n s hrun hc => ⟨fun hdue => ?_, fun hdue hclosed => ?_⟩, ?_⟩
  · exact (during_reported (f := State.dueScan) hrun ((dueScan_none hdue).trans (told_nil s).symm)).trans
      (congrArg _ (reported_nil s))
  · exact (admissionScan_idle hrun hdue (scan_of_closed (s := s.withScans n) (hallClosed_of hclosed) hc)).trans
      (congrArg _ (withScans_reported_nil s n))
  · rintro t n d e s hrun hroom hc hdue he hh hl hst hd
    change e = testEntry t at he
    change d = s.testDemand t at hd
    subst he hd
    have hjudge := judge_testEntry (s := s.withScans n) hl hst
    have hwaits (x : Entry) (hx : ∀ u ∈ x.tiers, s.fsu.showLock.getLsbD u = false ∧ (s.tier u).state ≠ .faulted)
        (hstands : s.standsFor x x.tier = false) : (s.withScans n).judge x = .wait :=
      judge_waits (fun u hu => (hx u hu).1) (fun u hu => (hx u hu).2) List.mem_cons_self hstands
    refine ⟨fun w hq hfits hw => ?admits, fun hq hfits => ?waits, fun x hq hne hx hstands hb => ?blocked⟩
    case admits =>
      have hpass := hjudge.trans (if_pos hfits)
      have hstart := startEntry_test (s := s.withScans n) (t := t) hroom (s.testDemand t)
      rcases hw with rfl | ⟨x, rfl, hne, hx, hstands, hb⟩
      · rw [granted_of_one (by exact hq)] at hstart
        exact admissionScan_pass ⟨hrun, hc, hdue, hq, hh⟩ hpass hstart rfl
      · have hraised := startEntry_test_behind (s := s.withScans n) hroom hq hne hb (s.testDemand t)
        have hidle : (((s.withScans n).startEntry (testEntry t) none (s.testDemand t) false).raiseBypass
            [x.tier]).convActive = false := by
          rw [hraised]
          exact hc
        exact admissionScan_next hrun hdue
          ((scan_of_overtaken (s := s.withScans n) hq hh (hwaits x hx hstands) hne hb hpass hidle).trans hraised)
    case waits =>
      exact (admissionScan_wait ⟨hrun, hc, hdue, hq, hh⟩ (hjudge.trans (if_neg (Nat.not_le.mpr hfits)))).trans
        (congrArg _ (withScans_reported_nil s n))
    case blocked =>
      exact (admissionScan_idle hrun hdue (scan_of_blocked (s := s.withScans n) hq hh (hwaits x hx hstands) hb hc)).trans
        (congrArg _ (withScans_reported_nil s n))

end Sys2Proof.Machine
end

section
/-! PROOFS. Sample requests, conversions and freshness (R103, R138 to R142). -/

namespace Sys2Proof.Machine

section Requests

variable {s : State} {t : Tier} {link arb : Bool}

/-- An idle converter begins the conversion at once (R139). -/
theorem requestSample_idle (hc : s.lc.converter = none) (hf : s.lc.fifo = []) :
    s.requestSample t link arb = { s with lc := { s.lc with converter := some ⟨t, link, arb⟩ } } := by
  simp [State.requestSample, hc, hf]

/-- A request for the channel in conversion merges with it (R139). -/
theorem requestSample_merged {c : Channel} (hc : s.lc.converter = some c) (ht : c.tier = t) :
    s.requestSample t link arb = { s with lc := { s.lc with converter := some (c.mark link arb) } } := by
  simp [State.requestSample, hc, ht]

/-- A request for a channel that neither converts nor waits goes to the tail (R139). -/
theorem requestSample_waits {c : Channel} (hc : s.lc.converter = some c) (ht : c.tier ≠ t) (hf : ∀ x ∈ s.lc.fifo, x.tier ≠ t) :
    s.requestSample t link arb = { s with lc := { s.lc with fifo := s.lc.fifo ++ [⟨t, link, arb⟩] } } := by
  have hnone : s.lc.fifo.any (fun x => x.tier = t) = false := List.any_eq_false.mpr fun x hx => by simp [hf x hx]
  simp only [State.requestSample, hc, if_neg ht, hnone, Bool.false_eq_true, if_false]

/-- SAMPLE-LOAD requests a sample for the link (R142). -/
theorem serveSample_names {b : Byte} (hn : s.Names b t) : s.serveSample b = (s.requestSample t true false, .ok, []) :=
  withInstalled_of_names hn _

end Requests

section Completion

variable {s : State} {t : Tier} {link arb : Bool}

/-- The converter goes on with the oldest channel that waits (R140). -/
theorem nextChannel_eq (s : State) :
    s.nextChannel = { s with lc := { s.lc with converter := s.lc.fifo.head?, fifo := s.lc.fifo.tail } } := by
  unfold State.nextChannel
  split <;> simp [*]

/-- The restriction that a sample record puts on its tier (R137, R140). -/
def Sample.restricts : Sample → Bool
  | .outOfRange _ => true
  | _ => false

/-- A sample record is written with the restriction that it gives (R137, R140). -/
theorem setSample_eq (s : State) (t : Tier) (x : Sample) :
    s.setSample t x = ({ s with lc := { s.lc with samples := s.lc.samples.set t x } } : State).modTier t fun r =>
      { r with loadRange := x.restricts } := by
  cases x <;> rfl

/-- A result makes the PENDING entries of its tier DONE and starts a scan (R103). -/
theorem loadResult_eq (s : State) (t : Tier) : s.loadResult t = { s with aa := { s.aa with
    scansDue := s.aa.scansDue + 1
    queue := s.aa.queue.map fun e => if e.names t = true ∧ e.sample = .pending then { e with sample := .done } else e } } := by
  simp only [State.loadResult, State.trigger, Bool.and_eq_true, decide_eq_true_eq]

/-- The end of a conversion of an installed tier: its record, its report where the link asked, the entries that wait for it, and
the next channel (R103, R140). -/
theorem completeConversion_eq (hr : s.Room 1) (hi : s.installed t = true) (hc : s.lc.converter = some ⟨t, link, arb⟩) {k : Nat}
    {x : Sample} (hx : Sample.ofCounts (s.prof t) k = x) :
    s.completeConversion k = (({ s with
      lc := { samples := s.lc.samples.set t x, converter := s.lc.fifo.head?, fifo := s.lc.fifo.tail }
      aa := { s.aa with
        scansDue := s.aa.scansDue + 1
        queue := s.aa.queue.map fun e =>
          if e.names t = true ∧ e.sample = .pending then { e with sample := .done } else e } } : State).modTier t fun r =>
      { r with loadRange := x.restricts }).told (if link then [loadReport (s.prof t) t k x] else []) := by
  have hreported (y : State) (hy : y.Room 1) (r : Report) : (if link then y.report r else y) = y.told (if link then [r] else []) := by
    cases link
    · exact (told_nil y).symm
    · exact report_eq_told hy
  simp only [State.completeConversion, hc, hi, if_true, hx]
  rw [setSample_eq, hreported _ (by exact hr), loadResult_eq, nextChannel_eq]
  rfl

/-- A freshness timer that runs out leaves the load of its sample (R141). -/
theorem expireFreshness_eq {k load : Nat} (hs : s.sample t = .valid k load true) : s.expireFreshness t =
    { s with lc := { s.lc with samples := s.lc.samples.set t (.valid k load false) } } := by
  simp [State.expireFreshness, hs]

end Completion

/-- Settles O56: the converter's rules for a request, a result and a freshness timer, each on its own command. -/
theorem loadSamples : Obligations.LoadSamples := by
  refine ⟨fun tag b t s h hb => ⟨fun hi => ?_, fun hi hc hf => ?_, fun a hi hc => ?_, fun c hi hc hne hf => ?_⟩,
    fun t n link arb load s hrun hroom => ⟨fun hi hc hn hload => ?_, fun hi hc hn => ?_, fun c hs => ?_⟩⟩
  · exact request_same h (withInstalled_of_not_installed hb hi _) (by decide)
  · refine request_next h ((serveSample_names ⟨hb, hi⟩).trans ?_) (by decide) rfl
    rw [requestSample_idle hc hf, told_nil]
  · refine request_next h ((serveSample_names ⟨hb, hi⟩).trans ?_) (by decide) rfl
    rw [requestSample_merged hc rfl, told_nil]
    simp [Channel.mark]
  · refine request_next h ((serveSample_names ⟨hb, hi⟩).trans ?_) (by decide) rfl
    rw [requestSample_waits hc hne hf, told_nil]
  · have hcounts : n.toNat ≠ 4095 := fun heq => hn (BitVec.eq_of_toNat_eq heq)
    have hx : Sample.ofCounts (s.prof t) n.toNat = .valid n.toNat load true := by
      rw [Sample.ofCounts, if_neg hcounts, hload]
    exact during_reported (f := fun x => x.completeConversion n.toNat) hrun (completeConversion_eq hroom hi hc hx)
  · subst hn
    exact during_reported (f := fun x => x.completeConversion 4095) hrun
      (completeConversion_eq (x := .outOfRange 4095) hroom hi hc rfl)
  · exact (during_reported (f := fun x => x.expireFreshness t) hrun
      ((expireFreshness_eq hs).trans (told_nil _).symm)).trans (congrArg _ (reported_nil _))

end Sys2Proof.Machine
end

section
/-! PROOFS. Route walks (R130 to R134): the order of the waypoints, ROUTE-PUT and ROUTE. -/

namespace Sys2Proof.Machine

/-! ### The waypoints of a walk in order (R133) -/

section Order

variable (w : WalkRec)

/-- The size of a run divides the eight waypoints. -/
theorem Run.size_dvd (r : Run) : r.size ∣ 8 := by cases r <;> decide

/-- The waypoints of a run's block stand among the eight, so the number of one is not reduced (R133). -/
theorem waypoint_val : w.waypoint.val =
    (w.start.val - w.start.val % w.run.size) + (w.start.val % w.run.size + w.leg) % w.run.size := by
  generalize hn : w.run.size = n
  have hdvd : n ∣ 8 := hn ▸ w.run.size_dvd
  have hoff : w.start.val - (w.start.val - w.start.val % n) = w.start.val % n := Nat.sub_sub_self (Nat.mod_le _ _)
  obtain ⟨k, hk⟩ := hdvd
  have hpos : 0 < n := Nat.pos_of_ne_zero fun h => by simp [h] at hk
  have hblock : n * (w.start.val / n) + n ≤ 8 := by
    have hlt : w.start.val / n < k := Nat.div_lt_of_lt_mul (hk ▸ w.start.isLt)
    calc n * (w.start.val / n) + n = n * (w.start.val / n + 1) := by ring
      _ ≤ n * k := Nat.mul_le_mul_left n hlt
      _ = 8 := hk.symm
  have hbase : w.start.val - w.start.val % n = n * (w.start.val / n) := by
    have := Nat.div_add_mod w.start.val n
    omega
  have hlt : (w.start.val % n + w.leg) % n < n := Nat.mod_lt _ hpos
  simp only [WalkRec.waypoint, hn, hoff]
  exact Nat.mod_eq_of_lt (by omega)

/-- The first leg of a walk goes to its start waypoint (R133). -/
theorem waypoint_first (h : w.leg = 0) : w.waypoint = w.start := by
  refine Fin.ext ?_
  rw [waypoint_val, h, Nat.add_zero, Nat.mod_mod]
  exact Nat.sub_add_cancel (Nat.mod_le _ _)

end Order

/-- Settles O60: a leg's waypoint by `waypoint_val`; the block of a CONT walk begins at waypoint 0. -/
theorem walkOrder : Obligations.WalkOrder := by
  intro w n hn
  have hsize : n = w.run.size := by rw [hn]; cases w.run <;> rfl
  refine ⟨hsize ▸ waypoint_val w, by rw [WalkRec.isLast, hsize], fun hcont => ⟨?_, by simp [WalkRec.nextLeg, hcont]⟩⟩
  have h8 : w.run.size = 8 := by rw [hcont]; rfl
  rw [waypoint_val, h8, Nat.mod_eq_of_lt w.start.isLt]
  omega

/-! ### Offers on tiers that stand where they stood (R97) -/

section Places

variable {s x : State} {t : Tier} {f : TierRec → TierRec} {e : Entry}

/-- Every tier has the commanded position and the profile that it has in another state. -/
def State.SamePlaces (x s : State) : Prop := x.cmdPos = s.cmdPos ∧ x.prof = s.prof

/-- A change of a tier's record but for its commanded position leaves every tier in its place. -/
theorem modTier_samePlaces (h : (f (s.tier t)).cmd = (s.tier t).cmd) : (s.modTier t f).SamePlaces s := by
  refine ⟨funext fun u => ?_, rfl⟩
  by_cases hu : u = t
  · subst hu
    simp only [State.cmdPos, modTier_tier, h]
  · simp only [State.cmdPos, modTier_tier_ne _ hu]

/-- The claim record of an entry rests on the places of the tiers alone (R49, R61). -/
theorem entryClaim_samePlaces (h : x.SamePlaces s) (e : Entry) : x.entryClaim e = s.entryClaim e := by
  obtain ⟨hcmd, hprof⟩ := h
  simp only [State.entryClaim, State.gangClaim, State.spanOrigin, State.spanLength, State.standing, State.entryTarget,
    State.entryTilt, State.entryDistance, State.entryBand, hcmd, hprof]

/-- Whether an arc fits rests on the places of the tiers alone (R49, R61). -/
theorem entryFits_samePlaces (h : x.SamePlaces s) (e : Entry) : x.entryFits e = s.entryFits e := by
  have hclaim := entryClaim_samePlaces h e
  obtain ⟨hcmd, hprof⟩ := h
  cases hk : e.kind <;>
    simp only [State.entryFits, hk, hclaim, State.standing, State.entryFinal, State.entryTarget, State.entryTilt, hcmd, hprof]

/-- An offer of an entry whose tiers no other names, with room and an arc that fits, passes (R97). -/
theorem offerCheck_passes (hn : ∀ u ∈ e.tiers, s.entryOf u = none) (hlen : s.aa.queue.length < 8)
    (hfit : s.entryFits e = true) : s.offerCheck e = none := by
  simp [State.offerCheck, queue_any_of_unnamed hn, Nat.not_le.mpr hlen, hfit]

end Places

/-! ### ROUTE-PUT (R130) -/

section RoutePut

variable {s : State} {b k : Byte} {t : Tier} {n : Fin 8} {x : Option WaypointMsg} {w : Option Waypoint}
  (hn : s.Names b t) (hk : k.toNat = n.val) (hx : waypointOf x = some w)

include hn hk hx

/-- A waypoint of a tier that runs a leg is refused BUSY (R130). -/
theorem serveRoutePut_onLeg (hleg : s.onLeg t = true) : s.serveRoutePut b k x = s.refuse .busy := by
  simp [State.serveRoutePut, hn.1, hx, hk, hn.2, hleg]

/-- A waypoint of a tier that runs no leg is written (R130). -/
theorem serveRoutePut_taken (hleg : s.onLeg t = false) :
    s.serveRoutePut b k x = (s.modTier t fun r => { r with route := r.route.set n w }).accept := by
  simp [State.serveRoutePut, hn.1, hx, hk, hn.2, hleg]

end RoutePut

/-! ### ROUTE (R132 to R134) -/

section Route

variable {s : State} {b k c : Byte} {t : Tier} {n : Fin 8} {r : Run} {auto maint : Bool}

/-- The fields of a ROUTE that lie in their encodings give its walk record (R132). -/
theorem routeWalk_eq (hk : k.toNat = n.val) (hc : runOfCode c = some r) (hm : r = .cont → maint = true) :
    routeWalk k c auto maint = some (WalkRec.started n r maint auto) := by
  have hcont : ¬ (r = .cont ∧ maint = false) := fun ⟨hr, hf⟩ => by simp [hm hr] at hf
  simp only [routeWalk, hc, hk, n.isLt, dite_true, if_neg hcont]

/-- ROUTE on an unbarred tier that the legality table lets start a walk (R33, R34, R132). -/
theorem serveRoute_starts (hn : s.Names b t) (hu : s.Unbarred t) (hst : (s.tier t).state ∈ [.releasing, .ready, .settling])
    (hk : k.toNat = n.val) (hc : runOfCode c = some r) (hm : r = .cont → maint = true) :
    s.serveRoute b k c auto maint = s.startWalk t (WalkRec.started n r maint auto) := by
  have hgang : s.gangOf t = [t] := by
    cases hx : (s.tier t).state <;> simp [hx] at hst <;> simp [State.gangOf, hx]
  rw [State.serveRoute, withInstalled_of_names hn, motionCheck_of_clear hu.1 (showBarred_of_unbarred hu hgang),
    queueCheck_of_standing hst, routeWalk_eq hk hc hm]

/-- The LEG entry that a ROUTE queues: the fields of R96 for its start waypoint, the last leg of a run of one (R134). -/
def firstLeg (s : State) (t : Tier) (r : Run) (auto maint : Bool) (w : Waypoint) : Entry where
  kind := .leg
  tier := t
  members := []
  cls := some (if maint then .maint else .convert)
  targetSlew := some w.slew
  dir := some (resolveDir w.dir (s.cmdPos t).slew (some w.slew))
  targetTilt := some (min w.tilt (s.prof t).tiltMax)
  auto := decide (r = .one) && auto
  origin := .route
  bypass := 0
  sample := .none

/-- A tier whose walk record changes stands where it stood. -/
theorem modWalk_samePlaces (f : WalkRec → WalkRec) : (s.modWalk t f).SamePlaces s := modTier_samePlaces rfl

/-- The current leg of a walk that has just been set active is the first, to the start waypoint if that is set (R133, R134). -/
theorem legEntry_started : (s.modWalk t fun _ => WalkRec.started n r maint auto).legEntry t =
    ((s.tier t).route.get n).map (firstLeg s t r auto maint) := by
  obtain ⟨hcmd, hprof⟩ : (s.modWalk t fun _ => WalkRec.started n r maint auto).SamePlaces s := modWalk_samePlaces _
  have hfirst : (WalkRec.started n r maint auto).waypoint = n := waypoint_first _ rfl
  have hlast : (WalkRec.started n r maint auto).isLast = decide (r = .one) := by cases r <;> rfl
  have htier : (s.modWalk t fun _ => WalkRec.started n r maint auto).tier t =
      { s.tier t with walk := WalkRec.started n r maint auto } := modTier_tier _ _ _
  simp only [State.legEntry, hcmd, hprof, htier, hfirst, hlast]
  rfl

/-- A walk to a start waypoint that is unset is refused RANGE (R134). -/
theorem startWalk_unset (hw : (s.tier t).route.get n = none) :
    s.startWalk t (WalkRec.started n r maint auto) = s.refuse .range := by
  simp only [State.startWalk, legEntry_started, hw, Option.map_none]

/-- A walk whose first leg passes the checks of an offer is active with its entry queued (R97, R132, R134). -/
theorem startWalk_queued {w : Waypoint} (hw : (s.tier t).route.get n = some w) (he : s.entryOf t = none)
    (hlen : s.aa.queue.length < 8) (hfit : s.entryFits (firstLeg s t r auto maint w) = true) :
    s.startWalk t (WalkRec.started n r maint auto) =
      ((s.modWalk t fun _ => WalkRec.started n r maint auto).enqueue (firstLeg s t r auto maint w), .queued, []) := by
  have hpass : (s.modWalk t fun _ => WalkRec.started n r maint auto).offerCheck (firstLeg s t r auto maint w) = none :=
    offerCheck_passes (fun u hu => by rw [List.mem_singleton.mp hu]; exact he) hlen
      ((entryFits_samePlaces (modWalk_samePlaces _) _).trans hfit)
  simp only [State.startWalk, legEntry_started, hw, Option.map_some, hpass]

end Route

/-- Settles O23: ROUTE-PUT by whether its tier runs a leg, ROUTE by whether its start waypoint is set. -/
theorem routes : Obligations.Routes := by
  refine ⟨fun tag b k t n s h hn hk => ⟨fun hleg => ?busy, fun hleg => ?unset, fun w d hd htilt hleg => ?set⟩,
    fun tag b k c t n r auto maint s h hn hu hst hk hc hm => ?route⟩
  case busy => exact request_same h (serveRoutePut_onLeg hn hk rfl hleg) (by decide)
  case unset =>
    exact request_next h ((serveRoutePut_taken hn hk rfl hleg).trans (congrArg State.accept (told_nil _).symm)) (by decide) rfl
  case set =>
    have hx : waypointOf (some w) = some (some ⟨w.slew, w.tilt, d⟩) := by simp [waypointOf, hd, htilt]
    exact request_next h ((serveRoutePut_taken hn hk hx hleg).trans (congrArg State.accept (told_nil _).symm)) (by decide) rfl
  case route =>
    have hserve := serveRoute_starts (auto := auto) hn hu hst hk hc hm
    refine ⟨fun hw => request_same h (hserve.trans (startWalk_unset hw)) (by decide), ?_⟩
    rintro w e hw rfl he hlen hfit
    have hqueued := hserve.trans (startWalk_queued hw he hlen hfit)
    rw [← told_nil (State.enqueue _ _)] at hqueued
    exact request_next h hqueued (by decide) rfl

end Sys2Proof.Machine
end

section
/-! PROOFS. CONVERT (R118 to R124): its checks, the tiers it takes in rank order, the offer of the conversion entry of a tier
that does not stand at its target, and the end of a conversion whose tiers are all counted. -/

namespace Sys2Proof.Machine

/-! ### The conversion record as CONVERT fills it (R118, R120) -/

section Record

variable {s x : State} {n : Fin 16} {l : Layout} {total done dropped : Nat} {v : Vector ConvTier 12} {t u : Tier}
  {ts pre post : List Tier} {y : ConvTier}

/-- A state whose conversion runs, with its counts and what it holds for each tier (R118). -/
def State.converting (s : State) (n : Fin 16) (l : Layout) (total done dropped : Nat) (v : Vector ConvTier 12) : State :=
  { s with cu := ⟨.running, some n, some l, total, done, dropped, v⟩ }

@[simp] theorem converting_convTier : (s.converting n l total done dropped v).convTier t = v.get t := rfl

@[simp] theorem converting_told (rs : List Report) :
    (s.told rs).converting n l total done dropped v = (s.converting n l total done dropped v).told rs := rfl

@[simp] theorem told_setConvState (rs : List Report) (c : ConvState) :
    (s.told rs).setConvState c = (s.setConvState c).told rs := rfl

/-- The tiers of a list counted done, one after another (R120). -/
def doneAt (ts : List Tier) (v : Vector ConvTier 12) : Vector ConvTier 12 :=
  ts.foldl (fun v (t : Tier) => v.set t ⟨.done, .none, false⟩) v

theorem vector_get_set {α : Type} {n : Nat} (v : Vector α n) (t u : Fin n) (x : α) :
    (v.set t x).get u = if u = t then x else v.get u := by
  split
  case isTrue h => rw [h, vector_get_set_self]
  case isFalse h => rw [vector_get_set_ne _ h]

theorem vector_ext_get {α : Type} {n : Nat} {v w : Vector α n} (h : ∀ t : Fin n, v.get t = w.get t) : v = w :=
  Vector.ext fun i hi => h ⟨i, hi⟩

/-- No tier is in a conversion after a reset (R118). -/
theorem convReset_get : Conv.reset.tiers.get t = ⟨.out, .none, false⟩ := by simp [Conv.reset, Vector.get_eq_getElem]

theorem doneAt_get : (doneAt ts v).get t = if t ∈ ts then ⟨.done, .none, false⟩ else v.get t := by
  induction ts generalizing v with
  | nil => simp [doneAt]
  | cons u ts ih =>
    have hcons : doneAt (u :: ts) v = doneAt ts (v.set u ⟨.done, .none, false⟩) := rfl
    rw [hcons, ih, vector_get_set]
    by_cases hts : t ∈ ts <;> by_cases hu : t = u <;> simp [hts, hu]

/-- A tier whose part is set between those counted done keeps what has been set. -/
theorem doneAt_set (hu : u ∉ post) : doneAt post ((doneAt pre v).set u y) = (doneAt (pre ++ post) v).set u y := by
  refine vector_ext_get fun t => ?_
  simp only [doneAt_get, vector_get_set, List.mem_append]
  by_cases htu : t = u
  · simp [htu, hu]
  · by_cases hpost : t ∈ post <;> simp [htu, hpost]

/-- CONVERT finds its tiers where they stand without it. -/
theorem atLayout_samePlaces (h : x.SamePlaces s) : x.atLayout l t = s.atLayout l t := by
  simp only [State.atLayout, h.1, h.2]

theorem convEntryFor_samePlaces (h : x.SamePlaces s) : x.convEntryFor l t = s.convEntryFor l t := by
  simp only [State.convEntryFor, h.1, h.2]

/-- A running conversion goes on while a tier is not counted (R124). -/
theorem convCheck_running (h : done + dropped ≠ total) :
    (s.converting n l total done dropped v).convCheck = s.converting n l total done dropped v := by
  simp [State.convCheck, State.converting, h]

/-- A running conversion whose tiers are all counted is DONE, with its report (R124, R125). -/
theorem convCheck_done (hr : s.Room 1) (h : done + dropped = total) :
    (s.converting n l total done dropped v).convCheck =
      ((s.converting n l total done dropped v).setConvState .done).told
        [.conversion (some n) .done done dropped total none] := by
  simp only [State.convCheck, State.converting, h, if_true]
  exact report_eq_told hr

end Record

/-! ### The tiers taken (R120) -/

section Take

variable {s : State} {n : Fin 16} {l : Layout} {total done dropped : Nat} {v : Vector ConvTier 12} {t u : Tier}
  {ts : List Tier} {c : Code}

/-- A tier at its target is counted done (R120). -/
theorem convTake_done (hend : l.endSecure = false) (hat : s.atLayout l t = true) :
    State.convTake l (s.converting n l total done dropped v) t =
      s.converting n l total (done + 1) dropped (v.set t ⟨.done, .none, false⟩) := by
  have hat' : (s.converting n l total done dropped v).atLayout l t = true := hat
  simp only [State.convTake, hat', if_true, State.convAtTarget, hend, Bool.false_and, Bool.false_eq_true, if_false]
  rfl

/-- The tiers of a list that stand at their targets are counted done (R120). -/
theorem foldl_convTake_done (hend : l.endSecure = false) (hat : ∀ t ∈ ts, s.atLayout l t = true) :
    ts.foldl (State.convTake l) (s.converting n l total done dropped v) =
      s.converting n l total (done + ts.length) dropped (doneAt ts v) := by
  induction ts generalizing done v with
  | nil => rfl
  | cons t ts ih =>
    rw [List.foldl_cons, convTake_done hend (hat t (by simp)), ih fun u hu => hat u (by simp [hu]), List.length_cons,
      Nat.add_assoc, Nat.add_comm 1]
    rfl

/-- A tier away from its target is WAITING; one in SECURING wants its release (R120, R123). -/
theorem convTake_waiting (hat : s.atLayout l u = false) (hst : (s.tier u).state ≠ .secured) :
    State.convTake l (s.converting n l total done dropped v) u =
      s.converting n l total done dropped (v.set u ⟨.waiting, .none, decide ((s.tier u).state = .securing)⟩) := by
  have hat' : (s.converting n l total done dropped v).atLayout l u = false := hat
  simp only [State.convTake, hat', Bool.false_eq_true, if_false]
  exact if_neg hst

/-- The record of a tier whose brake has been sent its release (R22). -/
def TierRec.released (r : TierRec) (d : ProfileData) : TierRec :=
  { r with state := .releasing, brakeTimer := .releaseWait d.releaseTimeout }

/-- A SECURED tier away from its target is WAITING, and released as RELEASE gives it; it is dropped where that is refused
(R120). -/
theorem convTake_secured (hat : s.atLayout l u = false) (hst : (s.tier u).state = .secured) :
    State.convTake l (s.converting n l total done dropped v) u =
      if s.releaseCode u = .ok
      then (s.converting n l total done dropped (v.set u ⟨.waiting, .none, false⟩)).enterReleasing u
      else (s.converting n l total done dropped (v.set u ⟨.waiting, .none, false⟩)).convDropWith u (s.releaseCode u) := by
  have hat' : (s.converting n l total done dropped v).atLayout l u = false := hat
  have hst' : ((s.converting n l total done dropped v).tier u).state = .secured := hst
  have hwait : (s.converting n l total done dropped v).setConvTier u ⟨.waiting, .none, decide (TierState.secured = .securing)⟩ =
      s.converting n l total done dropped (v.set u ⟨.waiting, .none, false⟩) := rfl
  have htry := tryRelease_eq (s := s.converting n l total done dropped (v.set u ⟨.waiting, .none, false⟩)) (t := u)
  have hcode : (s.converting n l total done dropped (v.set u ⟨.waiting, .none, false⟩)).releaseCode u = s.releaseCode u := rfl
  have hstate : ((s.converting n l total done dropped (v.set u ⟨.waiting, .none, false⟩)).tier u).state = .secured := hst
  simp only [hcode, hstate, and_true] at htry
  simp only [State.convTake, hat', Bool.false_eq_true, if_false, hst', hwait, hstate, if_true, htry]
  cases s.releaseCode u <;> rfl

/-- A SECURED tier away from its target whose RELEASE is taken (R22, R120). -/
theorem convTake_released (hr : s.Room 1) (hat : s.atLayout l u = false) (hst : (s.tier u).state = .secured)
    (hc : s.releaseCode u = .ok) :
    State.convTake l (s.converting n l total done dropped v) u =
      ((s.modTier u fun r => r.released (s.prof u)).converting n l total done dropped
        (v.set u ⟨.waiting, .none, false⟩)).told [.tierState u .releasing] := by
  rw [convTake_secured hat hst, if_pos hc]
  exact enterReleasing_eq hr

/-- A SECURED tier away from its target whose RELEASE is refused is dropped, with its report (R120, R125). -/
theorem convTake_dropped (hr : s.Room 1) (hat : s.atLayout l u = false) (hst : (s.tier u).state = .secured)
    (hc : s.releaseCode u = c) (hne : c ≠ .ok) :
    State.convTake l (s.converting n l total done dropped v) u =
      (s.converting n l total done (dropped + 1) (v.set u ⟨.dropped, .none, false⟩)).told
        [.conversion (some n) .tierDropped done (dropped + 1) total (some (u, c))] := by
  have hset : (v.set u ⟨.waiting, .none, false⟩).set u ⟨.dropped, .none, false⟩ = v.set u ⟨.dropped, .none, false⟩ :=
    Vector.set_set ..
  rw [convTake_secured hat hst, hc, if_neg hne, ← hset]
  exact report_eq_told hr

end Take

/-! ### The first offers (R121) -/

section Offer

variable {s x : State} {n : Fin 16} {l : Layout} {total done dropped : Nat} {v : Vector ConvTier 12} {u : Tier}
  {ts pre post : List Tier} {b : Bool}

/-- CONVERT once its tiers are taken: the WAITING ones offered, and the test whether all are counted (R121, R124). -/
def State.offerWaiting (l : Layout) (ts : List Tier) (s : State) : State :=
  (((s.waitingOf ts).foldl (State.convOfferAll l) (s, false)).1).convCheck

/-- A taken CONVERT begins a conversion of its tiers in rank order (R120, R121). -/
theorem startConversion_eq (hts : rankOrder l (s.convTiersOf l) = ts) :
    s.startConversion n l = State.offerWaiting l ts
      (ts.foldl (State.convTake l) (s.converting n l ts.length 0 0 Conv.reset.tiers)) := by
  subst hts
  rfl

/-- Without a WAITING tier none is offered. -/
theorem offerWaiting_none (h : ∀ t ∈ ts, (s.convTier t).status ≠ .waiting) : s.offerWaiting l ts = s.convCheck := by
  have hnone : s.waitingOf ts = [] := List.filter_eq_nil_iff.mpr (by simpa using h)
  rw [State.offerWaiting, hnone]
  rfl

/-- A single WAITING tier is offered alone. -/
theorem offerWaiting_one (hpre : ∀ t ∈ pre ++ post, (s.convTier t).status ≠ .waiting) (hu : (s.convTier u).status = .waiting) :
    s.offerWaiting l (pre ++ u :: post) = (s.convOffer l u).1.convCheck := by
  have hnone : ∀ ts, (∀ t ∈ ts, t ∈ pre ++ post) → s.waitingOf ts = [] := fun ts h =>
    List.filter_eq_nil_iff.mpr fun t ht => by simpa using hpre t (h t ht)
  have hone : s.waitingOf (pre ++ u :: post) = [u] := by
    simp only [State.waitingOf, List.filter_append, List.filter_cons, hu, decide_true, if_true]
    rw [← State.waitingOf, ← State.waitingOf, hnone pre (by simp +contextual), hnone post (by simp +contextual)]
    rfl
  rw [State.offerWaiting, hone]
  rfl

/-- The checks of an offer look at the queue and at the places of the tiers alone (R97). -/
theorem offerCheck_samePlaces (h : x.SamePlaces s) (hq : x.aa = s.aa) (e : Entry) : x.offerCheck e = s.offerCheck e := by
  simp only [State.offerCheck, hq, entryFits_samePlaces h]

/-- An entry of a tier that no other names is refused FULL at a full queue (R97). -/
theorem offerCheck_full {e : Entry} (hn : ∀ u ∈ e.tiers, s.entryOf u = none) (hlen : 8 ≤ s.aa.queue.length) :
    s.offerCheck e = some .full := by
  simp [State.offerCheck, queue_any_of_unnamed hn, hlen]

/-- A conversion entry that passes the checks of an offer is QUEUED (R121). -/
theorem convOffer_queued (hx : x.SamePlaces s) (hq : x.aa = s.aa) (hcheck : s.offerCheck (s.convEntryFor l u) = none)
    (hv : v.get u = ⟨.waiting, .none, b⟩) :
    ((x.converting n l total done dropped v).convOffer l u).1 =
      (x.enqueue (s.convEntryFor l u)).converting n l total done dropped (v.set u ⟨.waiting, .queued, b⟩) := by
  have hplaces : (x.converting n l total done dropped v).SamePlaces s := hx
  simp only [State.convOffer, convEntryFor_samePlaces hplaces, offerCheck_samePlaces hplaces hq, hcheck,
    State.setConvEntry, converting_convTier, hv]
  rfl

/-- A conversion entry that finds the queue full leaves its tier PENDING (R121). -/
theorem convOffer_pending (hx : x.SamePlaces s) (hq : x.aa = s.aa) (hcheck : s.offerCheck (s.convEntryFor l u) = some .full)
    (hv : v.get u = ⟨.waiting, .none, b⟩) :
    ((x.converting n l total done dropped v).convOffer l u).1 =
      x.converting n l total done dropped (v.set u ⟨.waiting, .pending, b⟩) := by
  have hplaces : (x.converting n l total done dropped v).SamePlaces s := hx
  simp only [State.convOffer, convEntryFor_samePlaces hplaces, offerCheck_samePlaces hplaces hq, hcheck,
    State.setConvEntry, converting_convTier, hv]
  rfl

end Offer

/-! ### The tiers of a layout in rank order (R117) -/

section Order

variable {s : State} {l : Layout} {u t : Tier}

/-- The tiers of a conversion are the installed ones that its layout has present (R117, R118). -/
theorem mem_rankOrder : t ∈ rankOrder l (s.convTiersOf l) ↔ s.installed t = true ∧ (layoutEntry l t).present = true := by
  rw [rankOrder, List.mem_insertionSort, State.convTiersOf, List.mem_filter, mem_installedTiers]

theorem rankOrder_length : (rankOrder l (s.convTiersOf l)).length = (s.convTiersOf l).length := List.length_insertionSort ..

theorem rankOrder_nodup : (rankOrder l (s.convTiersOf l)).Nodup :=
  (List.perm_insertionSort ..).nodup_iff.mpr ((installedTiers_nodup s).filter _)

end Order

/-! ### A CONVERT of tiers at their targets but for one (R120, R121) -/

/-- The tiers of a layout in rank order stand at their targets but for one (R120). -/
structure State.AllBut (s : State) (l : Layout) (u : Tier) (pre post : List Tier) : Prop where
  order : rankOrder l (s.convTiersOf l) = pre ++ u :: post
  once : u ∉ pre ++ post
  stand : ∀ t ∈ pre ++ post, s.atLayout l t = true
  away : s.atLayout l u = false
  unsecured : l.endSecure = false

/-- What the conversion record holds when every tier but one has been counted done. -/
def tiersBut (ts : List Tier) (u : Tier) (y : ConvTier) : Vector ConvTier 12 := (doneAt ts Conv.reset.tiers).set u y

section AllBut

variable {s x : State} {n : Fin 16} {l : Layout} {u : Tier} {pre post : List Tier} {y : ConvTier} {b : Bool} {c : Code}
  {total dropped k : Nat} {rs : List Report}

theorem tiersBut_get (t : Tier) : (tiersBut (pre ++ post) u y).get t =
    if t = u then y else if t ∈ pre ++ post then ⟨.done, .none, false⟩ else ⟨.out, .none, false⟩ := by
  rw [tiersBut, vector_get_set, doneAt_get, convReset_get]

/-- A layout whose present tiers stand at their targets but for one, in rank order. -/
theorem exists_allBut (hend : l.endSecure = false) (hi : s.installed u = true) (hp : (layoutEntry l u).present = true)
    (haway : s.atLayout l u = false)
    (hat : ∀ t, s.installed t = true → (layoutEntry l t).present = true → t ≠ u → s.atLayout l t = true) :
    ∃ pre post, s.AllBut l u pre post := by
  obtain ⟨pre, post, horder⟩ := List.append_of_mem (mem_rankOrder.mpr ⟨hi, hp⟩)
  have honce : u ∉ pre ++ post := by
    have hnd := rankOrder_nodup (s := s) (l := l)
    rw [horder] at hnd
    exact (List.nodup_middle.mp hnd).notMem
  refine ⟨pre, post, horder, honce, fun t ht => ?_, haway, hend⟩
  have hmem : t ∈ rankOrder l (s.convTiersOf l) := by
    rw [horder]
    simp only [List.mem_append, List.mem_cons] at ht ⊢
    tauto
  obtain ⟨hti, htp⟩ := mem_rankOrder.mp hmem
  exact hat t hti htp fun htu => honce (htu ▸ ht)

variable (h : s.AllBut l u pre post)

include h

theorem State.AllBut.mem_iff {t : Tier} (htu : t ≠ u) :
    t ∈ pre ++ post ↔ s.installed t = true ∧ (layoutEntry l t).present = true := by
  rw [← mem_rankOrder, h.order]
  simp [htu]

theorem State.AllBut.length_eq : (s.convTiersOf l).length = pre.length + post.length + 1 := by
  rw [← rankOrder_length, h.order, List.length_append, List.length_cons, Nat.add_assoc]

/-- The tiers before the one away from its target are those whose counts its report carries (R125). -/
theorem State.AllBut.takeWhile_eq :
    (rankOrder l (s.convTiersOf l)).takeWhile (fun t => decide (t ≠ u)) = pre := by
  rw [h.order, List.takeWhile_append_of_pos]
  · simp
  · intro t ht
    have htu : t ≠ u := fun e => h.once (by simp [← e, ht])
    simpa using htu

/-- What is held of each tier is as a statement gives it (R118, R120). -/
theorem State.AllBut.tiers_eq {ts : Vector ConvTier 12} (hts : ∀ t, ts.get t = if t = u then y
      else if s.installed t = true ∧ (layoutEntry l t).present = true then ⟨.done, .none, false⟩ else ⟨.out, .none, false⟩) :
    tiersBut (pre ++ post) u y = ts := by
  refine vector_ext_get fun t => ?_
  rw [hts, tiersBut_get]
  by_cases htu : t = u
  · simp only [htu, if_true]
  · simp only [htu, if_false, h.mem_iff htu]

/-- The tier away from its target is taken among those that are counted done. -/
theorem State.AllBut.taken_eq (hx : x.SamePlaces s)
    (hu : State.convTake l (s.converting n l total pre.length 0 (doneAt pre Conv.reset.tiers)) u =
      (x.converting n l total pre.length dropped ((doneAt pre Conv.reset.tiers).set u y)).told rs) :
    (pre ++ u :: post).foldl (State.convTake l) (s.converting n l total 0 0 Conv.reset.tiers) =
      (x.told rs).converting n l total (pre.length + post.length) dropped (tiersBut (pre ++ post) u y) := by
  have hpost : ∀ t ∈ post, (x.told rs).atLayout l t = true := fun t ht =>
    (atLayout_samePlaces (x := x.told rs) hx).trans (h.stand t (by simp [ht]))
  rw [List.foldl_append, foldl_convTake_done h.unsecured fun t ht => h.stand t (by simp [ht]), List.foldl_cons,
    Nat.zero_add, hu, ← converting_told, foldl_convTake_done h.unsecured hpost, doneAt_set fun hm => h.once (by simp [hm])]
  rfl

/-- A conversion that begins with one tier WAITING makes of it what its offer gives, and runs on (R120, R121, R124). -/
theorem State.AllBut.started_offered {x' : State} (hx : x.SamePlaces s) (hk : k + 1 = (s.convTiersOf l).length)
    (hu : ∀ total done v, State.convTake l (s.converting n l total done 0 v) u =
      (x.converting n l total done 0 (v.set u ⟨.waiting, .none, b⟩)).told rs)
    (hoffer : ∀ v, v.get u = ⟨.waiting, .none, b⟩ →
      (((x.told rs).converting n l (k + 1) k 0 v).convOffer l u).1 = x'.converting n l (k + 1) k 0 (v.set u y)) :
    s.startConversion n l = x'.converting n l (k + 1) k 0 (tiersBut (pre ++ post) u y) := by
  have hlen : pre.length + post.length = k := by have := h.length_eq; omega
  have htotal : (pre ++ u :: post).length = k + 1 := by rw [List.length_append, List.length_cons]; omega
  have hget : (tiersBut (pre ++ post) u ⟨.waiting, .none, b⟩).get u = ⟨.waiting, .none, b⟩ := by rw [tiersBut_get, if_pos rfl]
  have hset : (tiersBut (pre ++ post) u ⟨.waiting, .none, b⟩).set u y = tiersBut (pre ++ post) u y := Vector.set_set ..
  rw [startConversion_eq h.order, h.taken_eq hx (hu ..), hlen, htotal, offerWaiting_one, hoffer _ hget, hset,
    convCheck_running (by omega)]
  · intro t ht
    have htu : t ≠ u := fun e => h.once (e ▸ ht)
    rw [converting_convTier, tiersBut_get, if_neg htu, if_pos ht]
    decide
  · rw [converting_convTier, hget]

/-- The tier's release is refused: it is dropped, and the conversion is DONE at once (R120, R124, R125). -/
theorem State.AllBut.started_dropped (hr : s.Room 2) (hk : k + 1 = (s.convTiersOf l).length)
    (hst : (s.tier u).state = .secured) (hc : s.releaseCode u = c) (hne : c ≠ .ok) :
    s.startConversion n l = ((s.converting n l (k + 1) k 1 (tiersBut (pre ++ post) u ⟨.dropped, .none, false⟩)).setConvState
      .done).told [.conversion (some n) .tierDropped pre.length 1 (k + 1) (some (u, c)),
        .conversion (some n) .done k 1 (k + 1) none] := by
  have hlen : pre.length + post.length = k := by have := h.length_eq; omega
  have htotal : (pre ++ u :: post).length = k + 1 := by rw [List.length_append, List.length_cons]; omega
  have hplaces : s.SamePlaces s := ⟨rfl, rfl⟩
  rw [startConversion_eq h.order, h.taken_eq hplaces (convTake_dropped (room_mono hr (by decide)) h.away hst hc hne), hlen,
    htotal, offerWaiting_none, convCheck_done ((told_room _ _ _).mpr hr) rfl]
  · rw [converting_told, told_setConvState, told_told]
    rfl
  · intro t _
    rw [converting_convTier, tiersBut_get]
    split_ifs <;> decide

end AllBut

/-! ### The checks of CONVERT (R119) -/

section Devices

variable {s : State}

/-- A slot that fails its check value latches the STORE fault, with its report where that is new (R119, R167). -/
theorem raiseDevice_store (hr : s.Room 1) (hd : s.fsu.device.getLsbD 10 = false) :
    s.raiseDevice .store =
      ({ s with fsu := { s.fsu with device := s.fsu.device ||| 0x400#12 } } : State).told [.device true .store] := by
  have hnew : ¬ s.fsu.device.getLsbD DeviceFault.store.bit = true := fun h => Bool.false_ne_true (hd.symm.trans h)
  rw [State.raiseDevice, if_neg hnew]
  exact report_eq_told hr

/-- A device fault that is latched is not raised again (R167). -/
theorem raiseDevice_latched {k : DeviceFault} (hd : s.fsu.device.getLsbD k.bit = true) : s.raiseDevice k = s := by
  rw [State.raiseDevice, if_pos hd]

end Devices

section Checks

variable {s : State} {b : Byte} {n : Fin 16} {l : Layout}

/-- A byte that names no slot is refused RANGE (R119). -/
theorem serveConvert_range (hb : slotOf b = none) : s.serveConvert b = s.refuse .range := by
  simp only [State.serveConvert, hb]

variable (hb : slotOf b = some n)

include hb

/-- Fail-safe refuses a CONVERT (R119). -/
theorem serveConvert_failsafe (hf : s.fsu.failsafe ≠ none) : s.serveConvert b = s.refuse .failsafe := by
  simp [State.serveConvert, hb, Option.isSome_iff_ne_none.mpr hf]

variable (hf : s.fsu.failsafe = none)

include hf

/-- A conversion that is followed, or a store operation, refuses a CONVERT (R119). -/
theorem serveConvert_busy (h : s.convActive = true ∨ s.nvs.op ≠ none) : s.serveConvert b = s.refuse .busy := by
  cases hc : s.convActive
  case true => simp [State.serveConvert, hb, hf, hc]
  case false =>
    have hop : s.nvs.op.isSome = true := Option.isSome_iff_ne_none.mpr (by simpa [hc] using h)
    simp [State.serveConvert, hb, hf, hc, State.nvsBusy, hop]

variable (hc : s.convActive = false) (hop : s.nvs.op = none)

include hc hop

/-- A blank slot refuses a CONVERT (R119). -/
theorem serveConvert_blank (hs : s.slot n = .blank) : s.serveConvert b = s.refuse .blank := by
  simp [State.serveConvert, hb, hf, hc, State.nvsBusy, hop, hs]

/-- A slot that fails its check value refuses a CONVERT and raises the STORE fault (R119). -/
theorem serveConvert_bad (hs : s.slot n = .bad) : s.serveConvert b = (s.raiseDevice .store).refuse .blank := by
  simp [State.serveConvert, hb, hf, hc, State.nvsBusy, hop, hs]

/-- The layout of a written slot decides (R119). -/
theorem serveConvert_written (hs : s.slot n = .written l) : s.serveConvert b = s.convertLayout n l := by
  simp [State.serveConvert, hb, hf, hc, State.nvsBusy, hop, hs]

end Checks

section Layouts

variable {s : State} {n : Fin 16} {l : Layout}

/-- An installed tier that is UNSYNCED refuses a CONVERT (R119). -/
theorem convertLayout_unsynced (h : ∃ t, s.installed t = true ∧ (s.tier t).state = .unsynced) :
    s.convertLayout n l = s.refuse .state := by
  obtain ⟨t, hi, hst⟩ := h
  have hany : s.installedTiers.any (fun t => decide ((s.tier t).state = .unsynced)) = true :=
    List.any_eq_true.mpr ⟨t, mem_installedTiers.mpr hi, by simpa using hst⟩
  rw [State.convertLayout, if_pos hany]

/-- The tiers that a check of CONVERT on its layout looks at (R117, R119). -/
theorem convTiersOf_any {p : Tier → Bool} : (s.convTiersOf l).any p = true ↔
    ∃ t, s.installed t = true ∧ (layoutEntry l t).present = true ∧ p t = true := by
  simp only [State.convTiersOf, List.any_eq_true, List.mem_filter, mem_installedTiers, and_assoc]

variable (hsync : ∀ t, s.installed t = true → (s.tier t).state ≠ .unsynced)

include hsync

/-- With every installed tier synchronised, show lock and FAULTED tiers of the layout decide (R119). -/
theorem convertLayout_synced : s.convertLayout n l =
    if (s.convTiersOf l).any (fun t => s.fsu.showLock.getLsbD t) then s.refuse .showLocked
    else if (s.convTiersOf l).any (fun t => decide ((s.tier t).state = .faulted)) then s.refuse .state
    else (s.startConversion n l).accept := by
  have hany : ¬ s.installedTiers.any (fun t => decide ((s.tier t).state = .unsynced)) = true := by
    rw [List.any_eq_true]
    rintro ⟨t, ht, hst⟩
    exact hsync t (mem_installedTiers.mp ht) (by simpa using hst)
  rw [State.convertLayout, if_neg hany]

/-- A tier of the layout in the show-lock set refuses a CONVERT (R119). -/
theorem convertLayout_locked
    (h : ∃ t, s.installed t = true ∧ (layoutEntry l t).present = true ∧ s.fsu.showLock.getLsbD t = true) :
    s.convertLayout n l = s.refuse .showLocked := by
  rw [convertLayout_synced hsync, if_pos (convTiersOf_any.mpr h)]

variable (hlock : ∀ t, s.installed t = true → (layoutEntry l t).present = true → s.fsu.showLock.getLsbD t = false)

include hlock

/-- Past show lock the FAULTED tiers of the layout decide (R119). -/
theorem convertLayout_unlocked : s.convertLayout n l =
    if (s.convTiersOf l).any (fun t => decide ((s.tier t).state = .faulted)) then s.refuse .state
    else (s.startConversion n l).accept := by
  rw [convertLayout_synced hsync, if_neg]
  rw [convTiersOf_any]
  rintro ⟨t, hi, hp, hl⟩
  exact Bool.false_ne_true ((hlock t hi hp).symm.trans hl)

/-- A FAULTED tier of the layout refuses a CONVERT (R119). -/
theorem convertLayout_faulted (h : ∃ t, s.installed t = true ∧ (layoutEntry l t).present = true ∧ (s.tier t).state = .faulted) :
    s.convertLayout n l = s.refuse .state := by
  rw [convertLayout_unlocked hsync hlock, if_pos (convTiersOf_any.mpr (by simpa using h))]

/-- A layout that passes every check is taken (R119). -/
theorem convertLayout_taken
    (hfault : ∀ t, s.installed t = true → (layoutEntry l t).present = true → (s.tier t).state ≠ .faulted) :
    s.convertLayout n l = (s.startConversion n l).accept := by
  rw [convertLayout_unlocked hsync hlock, if_neg]
  rw [convTiersOf_any]
  rintro ⟨t, hi, hp, hst⟩
  exact hfault t hi hp (by simpa using hst)

end Layouts

/-! ### Taken conversions (R120 to R124) -/

section Started

variable {s : State} {n : Fin 16} {l : Layout}

/-- A conversion of tiers at their targets is DONE at once (R120, R124). -/
theorem startConversion_done (hr : s.Room 1) (hend : l.endSecure = false)
    (hat : ∀ t, s.installed t = true → (layoutEntry l t).present = true → s.atLayout l t = true) :
    s.startConversion n l =
      ((s.converting n l (s.convTiersOf l).length (s.convTiersOf l).length 0
        (doneAt (rankOrder l (s.convTiersOf l)) Conv.reset.tiers)).setConvState .done).told
        [.conversion (some n) .done (s.convTiersOf l).length 0 (s.convTiersOf l).length none] := by
  have hstand : ∀ t ∈ rankOrder l (s.convTiersOf l), s.atLayout l t = true := fun t ht =>
    hat t (mem_rankOrder.mp ht).1 (mem_rankOrder.mp ht).2
  rw [startConversion_eq rfl, foldl_convTake_done hend hstand, Nat.zero_add, rankOrder_length, offerWaiting_none,
    convCheck_done hr (Nat.add_zero _)]
  intro t ht
  rw [converting_convTier, doneAt_get, if_pos ht]
  decide

/-- The RELEASE of an unbarred SECURED tier with a valid profile and good brakes is taken (R33, R34). -/
theorem releaseCode_secured {u : Tier} (hu : s.Unbarred u) (hst : (s.tier u).state = .secured) : s.releaseCode u =
    if (s.profiles.get u).valid = false then .profile else if (s.tier u).brakeWeak = true then .brake else .ok := by
  simp [State.releaseCode, hu.1, showBarred_of_unbarred hu (gangOf_secured hst), hst, releaseColumn]

/-- A CONVERT that every check passes begins its conversion (R119). -/
theorem serveConvert_taken {b : Byte} (hb : slotOf b = some n) (hf : s.fsu.failsafe = none) (hc : s.convActive = false)
    (hop : s.nvs.op = none) (hslot : s.slot n = .written l) (hsync : ∀ t, s.installed t = true → (s.tier t).state ≠ .unsynced)
    (hlock : ∀ t, s.installed t = true → (layoutEntry l t).present = true → s.fsu.showLock.getLsbD t = false)
    (hfault : ∀ t, s.installed t = true → (layoutEntry l t).present = true → (s.tier t).state ≠ .faulted) :
    s.serveConvert b = (s.startConversion n l).accept := by
  rw [serveConvert_written hb hf hc hop hslot]
  exact convertLayout_taken hsync hlock hfault

/-- What the command leaves of a conversion begun: its reply, and the reports of its beginning. -/
theorem exec_convert_taken {s' : State} {b tag : Byte} {rs : List Report} (h : s.Handles)
    (htaken : s.serveConvert b = (s.startConversion n l).accept) (hstart : s.startConversion n l = s'.told rs)
    (hclp : s'.clp = s.clp) : exec (.convert tag b) s = .next (s'.replied tag 0x90 .ok [] rs) :=
  request_next h (htaken.trans (congrArg State.accept hstart)) (by decide) hclp

end Started

/-- Settles O24: CONVERT by the first of its checks that fails; the tiers at their targets counted done; and the one that is
away from its target queued, left pending, released first, or dropped. -/
theorem convertTaken : Obligations.ConvertTaken := by
  refine ⟨fun tag b n l s h hroom hb hf hc hop hslot hend hsync hall => ?stand,
    fun tag b n l u x d e k s h hroom hb hf hc hop hslot hend hsync hall hi hx hp haway hk hd he ts y hts => ?one,
    fun tag b s h => ⟨fun hb => request_same h (serveConvert_range hb) (by decide), fun n hb =>
      ⟨fun hf => request_same h (serveConvert_failsafe hb hf) (by decide),
        fun hf hbusy => request_same h (serveConvert_busy hb hf hbusy) (by decide), fun hf hc hop => ?slot⟩⟩⟩
  case stand =>
    have htaken := serveConvert_taken hb hf hc hop hslot hsync (fun t hi hp => (hall t hi hp).1)
      fun t hi hp => (hall t hi hp).2.1
    refine ⟨doneAt (rankOrder l (s.convTiersOf l)) Conv.reset.tiers, exec_convert_taken h htaken
      (startConversion_done hroom hend fun t hi hp => decide_eq_true (hall t hi hp).2.2) rfl, fun t => ?_⟩
    simp only [doneAt_get, mem_rankOrder, convReset_get]
  case one =>
    subst hx
    have htaken := serveConvert_taken hb hf hc hop hslot hsync (fun t hi hp => (hall t hi hp).1)
      fun t hi hp => (hall t hi hp).2.1
    obtain ⟨pre, post, hbut⟩ := exists_allBut hend hi hp (decide_eq_false haway) fun t hti htp htu =>
      decide_eq_true ((hall t hti htp).2.2 htu)
    have hentry : s.convEntryFor l u = e := by rw [he, State.convEntryFor, hd, hend]; rfl
    have hnames (hent : s.entryOf u = none) : ∀ v ∈ (s.convEntryFor l u).tiers, s.entryOf v = none := fun v hv => by
      rw [List.mem_singleton.mp hv]; exact hent
    have hcode := releaseCode_secured (s := s) (u := u) ⟨hf, (hall u hi hp).1⟩
    refine ⟨fun hst hent hlen hfit hy => ?queued, fun hst hent hlen hy => ?pending,
      fun hst hv hw hent hlen hfit hy => ?released, fun c hst hc hbad hy => ?dropped⟩
    case queued =>
      have hstart := hbut.started_offered (n := n) ⟨rfl, rfl⟩ hk
        (fun _ _ _ => (convTake_waiting hbut.away hst).trans (told_nil _).symm)
        fun _ => convOffer_queued (s := s) ⟨rfl, rfl⟩ rfl (offerCheck_passes (hnames hent) hlen (hentry ▸ hfit))
      rw [hentry, hbut.tiers_eq (hy ▸ hts)] at hstart
      exact exec_convert_taken h htaken hstart rfl
    case pending =>
      have hstart := hbut.started_offered (n := n) ⟨rfl, rfl⟩ hk
        (fun _ _ _ => (convTake_waiting hbut.away hst).trans (told_nil _).symm)
        fun _ => convOffer_pending (s := s) ⟨rfl, rfl⟩ rfl (offerCheck_full (hnames hent) hlen)
      rw [hbut.tiers_eq (hy ▸ hts)] at hstart
      exact exec_convert_taken h htaken hstart rfl
    case released =>
      have hplaces : (s.modTier u fun r => r.released (s.prof u)).SamePlaces s := modTier_samePlaces rfl
      have hstart := hbut.started_offered (n := n) hplaces hk
        (fun _ _ _ => convTake_released (room_mono hroom (by decide)) hbut.away hst (by simp [hcode hst, hv, hw]))
        fun _ => convOffer_queued (s := s) hplaces rfl (offerCheck_passes (hnames hent) hlen (hentry ▸ hfit))
      rw [hentry, hbut.tiers_eq (hy ▸ hts)] at hstart
      exact exec_convert_taken h htaken hstart rfl
    case dropped =>
      have hrefused : s.releaseCode u = c := by
        rw [hcode hst, hc]
        rcases hbad with hv | hw
        · simp only [hv, if_true]
        · simp only [hw, if_true]
      have hne : c ≠ .ok := by rw [hc]; split_ifs <;> decide
      have hstart := hbut.started_dropped (n := n) hroom hk hst hrefused hne
      rw [hbut.tiers_eq (hy ▸ hts), ← hbut.takeWhile_eq] at hstart
      exact exec_convert_taken h htaken hstart rfl
  case slot =>
    refine ⟨?blank, fun hbad hd hroom => ?bad, fun l hwritten => ?written⟩
    case blank =>
      rintro (hblank | ⟨hbad, hd⟩)
      · exact request_same h (serveConvert_blank hb hf hc hop hblank) (by decide)
      · refine request_same h ((serveConvert_bad hb hf hc hop hbad).trans ?_) (by decide)
        rw [raiseDevice_latched hd]
        rfl
    case bad =>
      refine request_next h ((serveConvert_bad hb hf hc hop hbad).trans ?_) (by decide) rfl
      rw [raiseDevice_store hroom hd]
      rfl
    case written =>
      have hserve := serveConvert_written hb hf hc hop hwritten
      exact ⟨fun hun => request_same h (hserve.trans (convertLayout_unsynced hun)) (by decide), fun hsync =>
        ⟨fun hlock => request_same h (hserve.trans (convertLayout_locked hsync hlock)) (by decide), fun hlock hfault =>
          request_same h (hserve.trans (convertLayout_faulted hsync hlock hfault)) (by decide)⟩⟩

end Sys2Proof.Machine
end

section
/-! PROOFS. The brake-weak restrictions (R149): they are a part of `State.rest`, which the operations of the hall leave alone.
The requests that write a part of `rest` write another one, a start-up after RESTART keeps them, and so every command but the
end of a brake test does. -/

namespace Sys2Proof.Machine

/-- The brake-weak restrictions of the tiers, as the operations of the hall leave them alone. -/
def State.weak (s : State) : Vector Bool 12 := s.rest.weak

theorem weak_get (s : State) (t : Tier) : s.weak.get t = (s.tier t).brakeWeak := by
  simp [State.weak, State.rest, State.tier, Vector.get_eq_getElem]

theorem weak_of_rest {s s' : State} (h : s'.rest = s.rest) : s'.weak = s.weak := congrArg Rest.weak h

/-! ### Requests (R11, R16, R75, R174 to R176, R184 to R192) -/

theorem addShow_weak (s : State) (x : TierSet) : (s.addShow x).weak = s.weak := by
  rw [State.weak, addShow_rest]
  rfl

theorem takeSite_weak (s : State) (x : Site) : (s.takeSite x).weak = s.weak := by
  rw [State.weak, takeSite_rest]
  rfl

theorem takeProfile_weak (s : State) (t : Tier) (p : ProfileData) : (s.takeProfile t p).weak = s.weak := by
  rw [State.weak, takeProfile_rest]
  rfl

theorem takeZone_weak (s : State) (n : Fin 6) (z : ZoneRec) : (s.takeZone n z).weak = s.weak := by
  rw [State.weak, takeZone_rest]
  rfl

theorem serveShowLock_weak (s : State) (x : BitVec 16) : (s.serveShowLock x).1.weak = s.weak := by
  unfold State.serveShowLock
  split
  · rfl
  · exact addShow_weak s _

theorem serveSite_weak (s : State) (m : SiteMsg) : (s.serveSite m).1.weak = s.weak := by
  unfold State.serveSite
  split
  · rfl
  · split
    · rfl
    · split
      · exact takeSite_weak s _
      · rfl

/-- A record refused changes nothing; one taken keeps the restrictions, also behind a re-mark of the map (R59). -/
theorem putProfile_weak (s : State) (t : Tier) (p : ProfileData) : (s.putProfile t p).1.weak = s.weak := by
  have hrefuse (c : Code) : (s.refuse c).1.weak = s.weak := rfl
  simp only [State.putProfile]
  (repeat' split) <;> simp only [accept_fst, takeProfile_weak, hrefuse]
  case h_1 x hx => exact weak_of_rest (remark_rest hx)

theorem servePutProfile_weak (s : State) (b : Byte) (p : ProfileData) : (s.servePutProfile b p).1.weak = s.weak := by
  unfold State.servePutProfile State.withTier
  split
  · rfl
  · exact putProfile_weak s _ _

theorem servePutZone_weak (s : State) (b : Byte) (z : ZoneMsg) : (s.servePutZone b z).1.weak = s.weak := by
  have hrefuse (c : Code) : (s.refuse c).1.weak = s.weak := rfl
  unfold State.servePutZone
  (repeat' split) <;> simp only [accept_fst, takeZone_weak, hrefuse]

/-- No request changes a restriction: the hall's requests keep all of `rest`, settings write settings, and the store's requests
leave the tiers alone. -/
theorem serve_weak (s : State) (r : Request) : (s.serve r).1.weak = s.weak := by
  cases r with
  | release b => exact weak_of_rest (serveRelease_rest s b)
  | secure b => exact weak_of_rest (serveSecure_rest s b)
  | secureAll => exact weak_of_rest (serveSecureAll_rest s)
  | move b x => exact weak_of_rest (serveMove_rest s b x)
  | gangMove n t0 t1 t2 t3 x => exact weak_of_rest (serveGangMove_rest s n t0 t1 t2 t3 x)
  | halt b => exact weak_of_rest (serveHalt_rest s b)
  | haltAll => exact weak_of_rest (serveHaltAll_rest s)
  | pause b => exact weak_of_rest (servePause_rest s b)
  | resume b => exact weak_of_rest (serveResume_rest s b)
  | route b st run auto maint => exact weak_of_rest (serveRoute_rest s b st run auto maint)
  | routePut b w x => exact weak_of_rest (serveRoutePut_rest s b w x)
  | convert b => exact weak_of_rest (serveConvert_rest s b)
  | convertAbort => exact weak_of_rest (serveConvertAbort_rest s)
  | setBudget n => exact weak_of_rest (serveBudget_rest s n)
  | sampleLoad b => exact weak_of_rest (serveSample_rest s b)
  | brakeTest b => exact weak_of_rest (serveTest_rest s b)
  | forceFailsafe => exact weak_of_rest (serveForce_rest s)
  | clearFailsafe => exact weak_of_rest (serveClearFailsafe_rest s)
  | clearFaults b => exact weak_of_rest (serveClear_rest s b)
  | clearFaultsAll => exact weak_of_rest (serveClearAll_rest s)
  | showLock x => exact serveShowLock_weak s x
  | releaseShow x => simp only [State.serve, State.serveReleaseShow]; (repeat' split) <;> rfl
  | lock g => simp only [State.serve, State.serveLock]; split <;> rfl
  | unlock g => simp only [State.serve, State.serveUnlock]; (repeat' split) <;> rfl
  | siteSet m => exact serveSite_weak s m
  | profilePut b p => exact servePutProfile_weak s b p
  | profileGet b =>
    obtain ⟨-, -, -, -, hget, -, -⟩ := query_fst s b 0 0
    exact congrArg State.weak hget
  | zonePut b z => exact servePutZone_weak s b z
  | zoneGet b =>
    obtain ⟨-, -, -, -, -, hget, -⟩ := query_fst s b 0 0
    exact congrArg State.weak hget
  | saveSettings => simp only [State.serve, State.serveSave]; (repeat' split) <;> rfl
  | layoutErase b => simp only [State.serve, State.serveErase]; (repeat' split) <;> rfl
  | layoutWrite b l => simp only [State.serve, State.serveWrite]; (repeat' split) <;> rfl
  | layoutRead b =>
    obtain ⟨-, -, -, -, -, -, hget⟩ := query_fst s b 0 0
    exact congrArg State.weak hget
  | protectLayouts n => simp only [State.serve, State.serveProtect]; (repeat' split) <;> rfl
  | queryStatus => rfl
  | queryTier b =>
    obtain ⟨hget, -, -, -, -, -, -⟩ := query_fst s b 0 0
    exact congrArg State.weak hget
  | queryMap f c =>
    obtain ⟨-, hget, -, -, -, -, -⟩ := query_fst s 0 f c
    exact congrArg State.weak hget
  | queryQueue => rfl
  | queryGrants => rfl
  | restart => simp only [State.serve, State.serveRestart]; split <;> rfl

/-! ### Frames (R169, R177 to R182) -/

theorem answer_weak (s : State) (tag kind : Byte) (r : Request) : (s.answer tag kind r).weak = s.weak := serve_weak s r

theorem handle_weak (s : State) (f : Frame) : (s.handle f).weak = s.weak := by
  unfold State.handle
  split
  · rfl
  · exact answer_weak s _ _ _

theorem request_weak (s : State) (tag : Byte) (r : Request) : (s.request tag r).weak = s.weak := by
  unfold State.request
  split
  · rfl
  · split
    · exact answer_weak s _ _ _
    · split <;> rfl

theorem enterFailsafe_weak (s : State) (c : Cause) : (s.enterFailsafe c).weak = s.weak :=
  weak_of_rest (enterFailsafe_rest s c)

theorem kickWatchdog_weak (s : State) : s.kickWatchdog.weak = s.weak := by
  unfold State.kickWatchdog
  split
  · rfl
  · rfl
  · exact enterFailsafe_weak s _

theorem completeFrame_weak (s : State) (f : Frame) : (s.completeFrame f).weak = s.weak := by
  unfold State.completeFrame
  split
  · rfl
  · split
    · exact (handle_weak _ f).trans (kickWatchdog_weak s)
    · split
      · exact kickWatchdog_weak s
      · rfl

theorem linkByte_weak (s : State) (b : Byte) : (s.linkByte b).weak = s.weak := by
  unfold State.linkByte
  split
  case h_7 =>
    dsimp only
    split
    · exact completeFrame_weak (s.setFramer .hunt) _
    · rfl
  case h_1 => split <;> rfl
  all_goals rfl

theorem linkBytesIn_weak (s : State) (bs : List Byte) : (s.linkBytesIn bs).weak = s.weak := by
  unfold State.linkBytesIn
  induction bs generalizing s with
  | nil => rfl
  | cons b bs ih => exact (ih (s.linkByte b)).trans (linkByte_weak s b)

theorem takeHeld_weak (s : State) : s.takeHeld.weak = s.weak := by
  unfold State.takeHeld
  split
  · rfl
  · rename_i f rest _
    split
    · exact handle_weak (s.modPort fun p => { p with hold := rest }) f
    · rfl

theorem replySent_weak (s : State) : s.replySent.weak = s.weak := by
  unfold State.replySent
  split
  · rename_i rest _ _
    dsimp only
    split
    · rfl
    · exact takeHeld_weak (s.modPort fun p => { p with replies := rest, tx := .idle })
  · rfl

/-! ### Events (R70 to R72, R149, R169, R186, R192) -/

theorem reportAll_weak (s : State) (rs : List Report) : (s.reportAll rs).weak = s.weak := weak_of_rest (reportAll_rest s rs)

theorem tripStop_weak (s : State) (i : Input) : (s.tripStop i).weak = s.weak := weak_of_rest (tripStop_rest s i)

theorem tripRises_weak (s : State) (i : Input) : (s.tripRises i).weak = s.weak := by
  unfold State.tripRises
  split <;> rfl

theorem tripFalls_weak (s : State) (i : Input) : (s.tripFalls i).weak = s.weak := by
  unfold State.tripFalls
  split
  · dsimp only
    split
    · rfl
    · exact weak_of_rest (s := (s.setLevel i false).trigger) (report_rest _ _)
  · rfl

theorem tripApply_weak (s : State) (i : Input) : (s.tripApply i).weak = s.weak := by
  unfold State.tripApply
  split
  · rfl
  · rename_i x _
    exact (reportAll_weak _ _).trans (tripStop_weak { s with zu := { s.zu with due := x.1 } } i)

theorem expireWatchdog_weak (s : State) : s.expireWatchdog.weak = s.weak := by
  unfold State.expireWatchdog
  split
  · exact enterFailsafe_weak { s with fsu := { s.fsu with watchdog := .expired } } _
  · rfl

theorem completeStore_weak (s : State) (failed : BitVec 3) : (s.completeStore failed).weak = s.weak := by
  have hdone (x : State) (k : StoreKind) (b : Bool) (n : BitVec 3) : (x.storeDone k b n).weak = x.weak := by
    refine weak_of_rest ?_
    simp only [State.storeDone]
    split <;> simp
  unfold State.completeStore
  dsimp only
  split
  · rfl
  all_goals exact hdone _ _ _ _

/-- The start-up after a RESTART keeps the restrictions (R149, R192). -/
theorem boot_weak (s : State) : (s.boot true).weak = s.weak := by
  refine Vector.ext fun n hn => ?_
  have htier := boot_tier s true ⟨n, hn⟩
  have hget (x : State) : x.weak[n] = (x.tier ⟨n, hn⟩).brakeWeak := weak_get x ⟨n, hn⟩
  rw [hget, hget, htier]
  rfl

/-- A rising RESET line begins a start-up only on a part that is held (R191). -/
theorem resetRises_weak {s : State} (hrun : s.phase = .running) : s.resetRises.weak = s.weak := by
  have hheld : ¬ s.phase = .held := by simp [hrun]
  unfold State.resetRises
  dsimp only
  rw [if_neg hheld]
  rfl

/-- A running part has no start-up to complete (R191). -/
theorem completeStartUp_of_running {s : State} (hrun : s.phase = .running) : s.completeStartUp = s :=
  if_neg (by simp [hrun])

section Commands

variable {s s' : State}

theorem during_weak {f : State → State} (hf : (f s).weak = s.weak) (e : s.during f = .next s') : s'.weak = s.weak := by
  unfold State.during at e
  cases e
  split
  · exact hf
  · rfl

/-- An event whose operation keeps all of `rest`. -/
theorem during_weak_of_rest {f : State → State} (hf : (f s).rest = s.rest) (e : s.during f = .next s') :
    s'.weak = s.weak :=
  during_weak (weak_of_rest hf) e

theorem duringDrive_weak {f : State → State} (hf : (f s).rest = s.rest) (e : s.duringDrive f = .next s') :
    s'.weak = s.weak := by
  unfold State.duringDrive at e
  split at e
  · cases e
    exact weak_of_rest hf
  · exact during_weak_of_rest hf e

/-- An event of an input, which moves its pin and in start-up its level. -/
theorem pin_weak {p : Prop} [Decidable p] {x y : State} {f : State → State} (hx : x.weak = s.weak) (hy : y.weak = s.weak)
    (hf : (f x).weak = x.weak) (e : (if p then .next y else x.during f) = .next s') : s'.weak = s.weak := by
  split at e
  · cases e
    exact hy
  · exact (during_weak hf e).trans hx

/-- On a running part every command but the end of a brake test keeps the restrictions, resets excepted but for the start-up of
a RESTART (R149). -/
theorem exec_weak {i : Instr} (hrun : s.phase = .running) (hi : i = .restartStartup ∨ Resets i = false)
    (htest : ∀ t, i ≠ .testTimerExpiry t) (e : exec i s = .next s') : s'.weak = s.weak := by
  cases hc : i.carried with
  | some x =>
    obtain ⟨q, hq⟩ := exec_of_carried (tag := x.1) (r := x.2) hc s
    exact during_weak (request_weak s x.1 q) (hq ▸ e)
  | none =>
    cases i
    case powerOn => simp [Resets] at hi
    case resetLineLow => simp [Resets] at hi
    case lossOfPower => simp [Resets] at hi
    case testTimerExpiry t => exact absurd rfl (htest t)
    case resetLineRisingEdge =>
      cases e
      exact resetRises_weak hrun
    case startupComplete =>
      cases e
      rw [completeStartUp_of_running hrun]
      unfold State.kickIfRunning
      split <;> rfl
    case restartStartup =>
      cases e
      split
      · exact boot_weak s
      · rfl
    case validFrame bs => exact during_weak (f := fun x => x.linkBytesIn bs) (linkBytesIn_weak s bs) e
    case commandLinkGapTimeout => exact during_weak (f := State.dropFrame) rfl e
    case commandLinkStopBitError => exact during_weak (f := State.dropFrame) rfl e
    case lengthByteAbove248 =>
      exact during_weak (f := State.badLength) (by unfold State.badLength; split <;> rfl) e
    case replySent => exact during_weak (f := State.replySent) (replySent_weak s) e
    case reportSent => exact during_weak (f := State.reportSent) (by unfold State.reportSent; split <;> rfl) e
    case setpointInterval t =>
      exact during_weak_of_rest (f := fun x => if x.installed t then x.interval t else x) (by split <;> simp) e
    case setpointRecordSent => exact during_weak_of_rest (f := State.recordSent) (recordSent_rest s) e
    case feedbackRecord bs => exact duringDrive_weak (f := fun x => x.driveBytes bs) (driveBytes_rest s bs) e
    case feedbackGapTimeout => exact duringDrive_weak (f := fun x => x.setDriveFramer .hunting) rfl e
    case driveLinkStopBitError => exact duringDrive_weak (f := fun x => x.setDriveFramer .hunting) rfl e
    case feedbackTimerExpiry t => exact during_weak_of_rest (f := fun x => x.feedbackExpire t) (feedbackExpire_rest s t) e
    case releaseWaitExpiry t =>
      exact during_weak_of_rest (f := fun x => x.releaseWaitExpire t) (releaseWaitExpire_rest s t) e
    case secureWaitExpiry t => exact during_weak_of_rest (f := fun x => x.secureWaitExpire t) (secureWaitExpire_rest s t) e
    case watchExpiry t => exact during_weak_of_rest (f := fun x => x.watchExpire t) (watchExpire_rest s t) e
    case settleTimerExpiry t => exact during_weak_of_rest (f := fun x => x.settleTimeout t) (settleTimeout_rest s t) e
    case tripActiveEdge i =>
      exact pin_weak (s := s) (x := s.setTripPin i true) (y := (s.setTripPin i true).setLevel i true)
        (f := fun x => x.tripRises i) rfl rfl (tripRises_weak _ i) e
    case tripInactiveEdge i =>
      exact pin_weak (s := s) (x := s.setTripPin i false) (y := (s.setTripPin i false).setLevel i false)
        (f := fun x => x.tripFalls i) rfl rfl (tripFalls_weak _ i) e
    case keyChange b =>
      exact pin_weak (s := s) (x := s.setKeyPin b) (y := (s.setKeyPin b).setKey b) (f := fun x => x.setKey b) rfl rfl rfl e
    case tripApplication i => exact during_weak (f := fun x => x.tripApply i) (tripApply_weak s i) e
    case admissionScan => exact during_weak_of_rest (f := State.dueScan) (dueScan_rest s) e
    case loadConversionComplete n =>
      exact during_weak_of_rest (f := fun x => x.completeConversion n.toNat) (completeConversion_rest s _) e
    case freshnessTimerExpiry t =>
      exact during_weak_of_rest (f := fun x => x.expireFreshness t) (expireFreshness_rest s t) e
    case storeOperationComplete failed =>
      exact during_weak (f := fun x => x.completeStore failed) (completeStore_weak s failed) e
    case watchdogExpiry => exact during_weak (f := State.expireWatchdog) (expireWatchdog_weak s) e
    all_goals cases hc

end Commands

/-- Settles O11: what a command leaves of the restrictions as a whole, read at each tier. -/
theorem brakeWeakKept : Obligations.BrakeWeakKept := by
  intro i s s' hrun hi htest e t
  rw [← weak_get, ← weak_get, exec_weak hrun hi htest e]

end Sys2Proof.Machine
end

section
/-! PROOFS. An accepted feedback without drive faults on a tier that stands (R22 to R24, R146, R155 to R158): what its brake state
makes of each state. -/

namespace Sys2Proof.Machine

/-! ### The brake watch (R24) -/

section Watch

variable {s : State} {f : Feedback} {t : Tier}

/-- The watch while its timer runs or is stopped: it stops at the expected brake state and starts at any other (R24). -/
theorem brakeWatch_eq (h : (s.tier t).brakeTimer = .stopped ∨ ∃ k, (s.tier t).brakeTimer = .watch k) (b : Bool) (n : Nat) :
    s.brakeWatch t b n = s.modTier t fun r =>
      { r with brakeTimer := if b then .stopped else if (s.tier t).brakeTimer = .stopped then .watch n
                             else (s.tier t).brakeTimer } := by
  refine modTier_congr ?_
  rcases h with h | ⟨k, h⟩
  · simp only [h, if_true]
  · simp only [h, reduceCtorEq, if_false]

/-- The watch does nothing at the expected brake state while its timer is stopped (R24). -/
theorem brakeWatch_quiet (h : (s.tier t).brakeTimer = .stopped) (n : Nat) : s.brakeWatch t true n = s :=
  modTier_self (by simp only [h, if_true]; rw [← h])

/-- SECURED tiers are watched for SET, and READY, PAUSED and SETTLING ones for RELEASED (R24). -/
theorem brakeStep_watched {expected : Brake} {n : Nat}
    (h : (s.tier f.tier).state = .secured ∧ expected = .set ∧ n = (s.prof f.tier).secureTimeout ∨
      (s.tier f.tier).state ∈ [.ready, .paused, .settling] ∧ expected = .released ∧ n = (s.prof f.tier).releaseTimeout) :
    s.brakeStep f = s.brakeWatch f.tier (decide (f.brake = expected)) n := by
  simp only [List.mem_cons, List.not_mem_nil, or_false] at h
  rcases h with ⟨hst, rfl, rfl⟩ | ⟨hst | hst | hst, rfl, rfl⟩ <;> simp only [State.brakeStep, hst]

/-- The watched states are none of those in which a feedback does more than that (R24, R156). -/
theorem watched_still {x : TierState} (h : x = .secured ∨ x ∈ [.ready, .paused, .settling]) :
    x ∉ [.unsynced, .testing, .moving] := by
  cases x <;> simp at h ⊢

/-- Of the watched states only PAUSED and SETTLING have the following-error check (R159). -/
theorem watched_follows {r : TierRec} (h : r.state = .secured ∨ r.state ∈ [.ready, .paused, .settling]) :
    r.followed = false ∨ r.state ∈ [.paused, .settling] := by
  rw [TierRec.followed]
  cases hst : r.state <;> simp [hst] at h ⊢

/-- A tier in TESTING with its brakes SET starts no brake watch (R24). -/
theorem brakeStep_testing (hst : (s.tier f.tier).state = .testing) (hset : f.brake = .set)
    (htimer : (s.tier f.tier).brakeTimer = .stopped) : s.brakeStep f = s := by
  simp [State.brakeStep, hst, hset, brakeWatch_quiet htimer]

/-- A RELEASING tier waits for RELEASED, and is READY then (R22). -/
theorem brakeStep_releasing (hst : (s.tier f.tier).state = .releasing) :
    s.brakeStep f = if f.brake = .released then s.enterReady f.tier else s := by
  simp only [State.brakeStep, hst]

/-- A SECURING tier that does not quick-stop is SECURED at SET (R23). -/
theorem brakeStep_securing_set (hst : (s.tier f.tier).state = .securing) (hstop : (s.tier f.tier).stop ≠ .quick)
    (hset : f.brake = .set) : s.brakeStep f = s.enterSecured f.tier := by
  simp [State.brakeStep, hst, hstop, hset]

end Watch

/-! ### The steps of a feedback on a tier that does not move (R156) -/

section Steps

variable {s : State} {f : Feedback}

/-- A feedback without drive faults and without a following error on a tier that neither moves nor is tested: its brakes are
looked at (R156). -/
theorem acceptFeedback_still (hst : (s.tier f.tier).state ∉ [.unsynced, .testing, .moving]) (hf : f.faults = 0)
    (hfollow : (s.tier f.tier).followed = false ∨ s.Follows f) :
    s.acceptFeedback f = ((s.noted f).brakeStep f).linkStep f.tier := by
  simp only [List.mem_cons, List.not_mem_nil, or_false, not_or] at hst
  obtain ⟨hsynced, htesting, hmoving⟩ := hst
  refine acceptFeedback_brakes (by simp [hsynced, htesting]) hf (trailingRelease_of_not_moving ?_) hfollow
  rw [received_tier]
  exact hmoving

/-- A feedback of such a tier whose brake state has no effect leaves its positions and its link record (R155 to R158). -/
theorem feedbackRecord_quiet (h : s.Accepts f) (hst : (s.tier f.tier).state ∉ [.unsynced, .testing, .moving])
    (hf : f.faults = 0) (hfollow : (s.tier f.tier).followed = false ∨ s.Follows f)
    (hbrake : (s.noted f).brakeStep f = s.noted f) :
    exec (.feedbackRecord f.bytes) s =
      .next (((s.modTier f.tier fun r => r.located f).modLink f.tier fun l => l.handled f).reported []) := by
  refine feedbackRecord_noted (F := id) h ?_
  rw [acceptFeedback_still hst hf hfollow, hbrake, told_nil, modTier_self rfl]

/-- The record of a tier in TESTING after a feedback: its positions, and its slip where the feedback answers a TEST record (R4,
R146). -/
def TierRec.slipped (r : TierRec) (f : Feedback) (y : TestRec) (mode : Option Mode) : TierRec :=
  { r.located f with test := some (if mode = some .test then { y with lastSlip := some f.slip } else y) }

/-- Step 1 on a tier in TESTING (R4, R146). -/
theorem takePosition_testing {y : TestRec} (hst : (s.tier f.tier).state = .testing) (hy : (s.tier f.tier).test = some y) :
    s.takePosition f = s.modTier f.tier fun r => r.slipped f y ((s.link f.tier).latestRec.map SentRecord.mode) := by
  rw [State.takePosition]
  refine modTier_congr ?_
  simp only [hst, hy, decide_true, Bool.true_and, decide_eq_true_eq, Option.map_some, TierRec.slipped, TierRec.located]
  split <;> rfl

/-- A feedback without drive faults of a tier in TESTING with its brakes SET (R146, R156). -/
theorem acceptFeedback_testing {y : TestRec} (hst : (s.tier f.tier).state = .testing) (hf : f.faults = 0)
    (hset : f.brake = .set) (htimer : (s.tier f.tier).brakeTimer = .stopped) (hy : (s.tier f.tier).test = some y) :
    s.acceptFeedback f = (s.modTier f.tier fun r =>
      r.slipped f y ((s.link f.tier).latestRec.map SentRecord.mode)).modLink f.tier fun l => (l.accept f).stepped f := by
  have htake : (s.modLink f.tier fun l => l.accept f).takePosition f = (s.modTier f.tier fun r =>
      r.slipped f y ((s.link f.tier).latestRec.map SentRecord.mode)).modLink f.tier fun l => l.accept f := by
    rw [takePosition_testing (by exact hst) (by exact hy), modLink_link, modLink_modTier]
    rfl
  have hkept (g : LinkRec → LinkRec) (mode : Option Mode) :
      (((s.modTier f.tier fun r => r.slipped f y mode).modLink f.tier g).tier f.tier).state = .testing := by
    rw [modLink_tier, modTier_tier]
    exact hst
  rw [State.acceptFeedback, htake]
  refine (if_neg (by rw [hkept]; decide)).trans ?_
  rw [handOn_quiet (by rw [hkept]; decide) (by rw [TierRec.followed, hkept]) (by simp [hf])
    (brakeStep_testing (by rw [modLink_modLink]; exact hkept _ _) hset (by simp [TierRec.slipped, TierRec.located, htimer])),
    modLink_modLink]

end Steps

/-- Settles O44: by the state of the tier, what its brake state makes of the record in which the positions have been noted. -/
theorem standingFeedback : Obligations.StandingFeedback := by
  unfold Obligations.StandingFeedback
  rintro f t l p s x hacc hroom hf rfl rfl rfl rfl
  have hnoted := noted_tier s f
  refine ⟨fun hst => ?releasing, fun hst hstop hc => ?securing, fun expected n timer hwatch hfollow htimer htime => ?watched,
    fun y hst hset htimer hy => ?testing, fun hst => ?faulted⟩
  case releasing =>
    have hfollow : (s.tier f.tier).followed = false := by simp [TierRec.followed, hst]
    have hbrake := brakeStep_releasing (s := s.noted f) (f := f) (by rw [hnoted]; exact hst)
    refine ⟨fun hrel => ?_, fun hrel => ?_⟩
    · have hsteps := acceptFeedback_still (by simp [hst]) hf (.inl hfollow)
      rw [hbrake, if_pos hrel, enterReady_eq (by exact hroom)] at hsteps
      exact feedbackRecord_noted (x := s.trigger) hacc hsteps
    · exact feedbackRecord_quiet hacc (by simp [hst]) hf (.inl hfollow) (hbrake.trans (if_neg hrel))
  case securing =>
    have hfollow : (s.tier f.tier).followed = false := by simp [TierRec.followed, hst]
    refine ⟨fun hset => ?_, fun hset => ?_⟩
    · have hsteps := acceptFeedback_still (by simp [hst]) hf (.inl hfollow)
      rw [brakeStep_securing_set (by rw [hnoted]; exact hst) (by rw [hnoted]; exact hstop) hset,
        enterSecured_eq (by exact hroom) (by exact hc)] at hsteps
      exact feedbackRecord_noted (x := s.trigger) hacc hsteps
    · exact feedbackRecord_quiet hacc (by simp [hst]) hf (.inl hfollow)
        (brakeStep_securing (by rw [hnoted]; exact hst) hset (by rw [hnoted]; exact hstop))
  case watched =>
    have hstate : (s.tier f.tier).state = .secured ∨ (s.tier f.tier).state ∈ [.ready, .paused, .settling] :=
      hwatch.imp And.left And.left
    have hsteps := acceptFeedback_still (watched_still hstate) hf ((watched_follows hstate).imp_right hfollow)
    have hbrake := brakeStep_watched (s := s.noted f) (f := f) (by rw [hnoted]; exact hwatch)
    rw [brakeWatch_eq (by rw [hnoted]; exact htimer), hnoted] at hbrake
    simp only [decide_eq_true_eq] at hbrake
    rw [hbrake, ← told_nil (State.modTier _ _ _)] at hsteps
    subst htime
    exact feedbackRecord_noted hacc hsteps
  case testing =>
    have hsteps := acceptFeedback_testing hst hf hset htimer hy
    exact feedbackRecord_next hacc (hsteps.trans (told_nil _).symm)
  case faulted =>
    exact feedbackRecord_quiet hacc (by simp [hst]) hf (.inl (by simp [TierRec.followed, hst]))
      (brakeStep_faulted (by rw [hnoted]; exact hst))

end Sys2Proof.Machine
end

section
/-! PROOFS. The faults that an accepted feedback raises: FOLLOW-ERROR on a tier that moves or settles (R159), and drive faults on a
tier that stands or is FAULTED already (R160), with what a fault leaves of a move (R42, R88, R163). -/

namespace Sys2Proof.Machine

/-! ### A fault that meets a move (R42, R88, R163) -/

section Moving

variable {s : State} {t : Tier} {m : MoveRec} {z : Pos}

theorem told_ungrant (s : State) (rs : List Report) (t : Tier) : (s.told rs).ungrant t = (s.ungrant t).told rs := rfl

theorem modTier_ungrant (s : State) (t u : Tier) (f : TierRec → TierRec) :
    (s.modTier t f).ungrant u = (s.ungrant u).modTier t f := rfl

/-- A fault takes a moving tier of its own to FAULTED: MOVE-END FAULT, its generators stopped, its allocation freed (R42,
R88). -/
theorem faultReaction_moving (hr : s.Room 2) (hm : s.Single t m) (ho : m.origin = .link) (hst : (s.tier t).state = .moving)
    (hstop : (s.tier t).stop ≠ .quick) (hent : s.entryOf t = none) (hg : s.aa.grants.any (fun g => g.names t) = true) :
    s.faultReaction t = ((s.ungrant t).modTier t fun r =>
      { r with state := .faulted, brakeTimer := .stopped, securePending := false, settleTimer := none, testTimer := none,
               move := some m.stopGenerators }).told [.moveEnd t none .fault (s.cmdPos t), .tierState t .faulted] := by
  have hend := moveEnd_link (s := s) (t := t) (room_mono hr (by decide)) ho hm.2.2 .fault
  have hstopped : (s.modTier t fun r => { r with move := r.move.map MoveRec.stopGenerators }) =
      s.modTier t fun r => { r with move := some m.stopGenerators } :=
    modTier_congr (by simp only [hm.1, Option.map_some])
  simp only [State.faultReaction, hm.1, hst, true_or, decide_true, Bool.true_and, ne_eq, hstop, not_false_eq_true, if_true,
    hend, reduceCtorEq, if_false, told_modTier, hstopped]
  rw [freeGrant_of_named (by exact hg), told_ungrant, modTier_ungrant,
    removeEntryOf_of_unnamed (by exact unnamed_ungrant hent), told_modTier, modTier_modTier,
    enter_eq ((told_room _ _ _).mpr hr), told_modTier, told_told, modTier_modTier]
  rfl

/-- A first fault that reaches a moving tier of its own takes it to FAULTED (R42, R88, R163). -/
theorem raiseFault_moving (hr : s.Room 3) (hm : s.Single t m) (ho : m.origin = .link) (hst : (s.tier t).state = .moving)
    (hstop : (s.tier t).stop ≠ .quick) (h0 : (s.tier t).fault.latched = 0) (hent : s.entryOf t = none)
    (hg : s.aa.grants.any (fun g => g.names t) = true) (k : FaultKind) :
    s.raiseFault t k = ((s.ungrant t).modTier t fun r =>
      { r.faulted k (s.cmdPos t) with move := some m.stopGenerators }).told
        [.faultRaised t k (s.tier t).state (s.cmdPos t), .moveEnd t none .fault (s.cmdPos t), .tierState t .faulted] := by
  have hraise : s.raiseFault t k = (s.latch t k).faultReaction t := by
    simp only [State.raiseFault, hst, gangOf_of_single hm, List.foldl_cons, List.foldl_nil]
  have hcmd (x : FaultRec) : (s.modTier t fun r => { r with fault := x }).cmdPos t = s.cmdPos t := by simp [State.cmdPos]
  rw [hraise, latch_first (room_mono hr (by decide)) h0, faultReaction_moving ((told_room _ _ _).mpr hr) (m := m)
    ⟨by rw [told_tier, modTier_tier]; exact hm.1, hm.2⟩ ho (by rw [told_tier, modTier_tier]; exact hst)
    (by rw [told_tier, modTier_tier]; exact hstop) (by exact hent) (by exact hg), told_cmdPos, hcmd, told_ungrant,
    modTier_ungrant, told_modTier, told_told, modTier_modTier]
  rfl

end Moving

/-! ### Further faults of a FAULTED tier (R160, R163) -/

section Further

variable {s : State} {t : Tier} {y : FirstFault}

/-- The set of the kinds in a list. -/
def kindSet (ks : List FaultKind) : KindSet := ks.foldr (fun k x => 1#12 <<< k.bit ||| x) 0

/-- The set of one kind holds it and no other. -/
theorem getLsbD_kind (k d : FaultKind) : (1#12 <<< k.bit).getLsbD d.bit = decide (k = d) := by
  cases k <;> cases d <;> decide

/-- The drive faults in their order are those of the record's bits (R160). -/
theorem kindSet_driveKinds (x : BitVec 4) : kindSet (driveKinds.filter fun d => x.getLsbD d.bit) = x.zeroExtend 12 := by
  revert x; decide

/-- A new drive fault is not latched in a set that is apart from the drive faults (R160). -/
theorem not_latched_of_apart {x : KindSet} {a b : BitVec 4} (h : x &&& a.zeroExtend 12 = 0) {k : FaultKind}
    (hk : (a &&& ~~~b).getLsbD k.bit = true) : x.getLsbD k.bit = false := by
  have hbit := congrArg (fun z => BitVec.getLsbD z k.bit) h
  have hlow : k.bit < 12 := by cases k <;> decide
  rw [BitVec.getLsbD_and, Bool.and_eq_true] at hk
  simpa [hk.1, hlow, -BitVec.getLsbD_eq_getElem] using hbit

/-- A kind that a FAULTED tier has not latched is added to its record, and its report names the first fault (R163). -/
theorem raiseFault_again (hr : s.Room 1) (hst : (s.tier t).state = .faulted) (hy : (s.tier t).fault.first = some y)
    (h0 : (s.tier t).fault.latched ≠ 0) {k : FaultKind} (hk : (s.tier t).fault.latched.getLsbD k.bit = false) :
    s.raiseFault t k = (s.modTier t fun r => { r with fault := ⟨r.fault.latched ||| 1#12 <<< k.bit, some y⟩ }).told
      [.faultRaised t k y.met y.pos] := by
  rw [← report_eq_told (by exact hr)]
  simp only [State.raiseFault, hst, State.latch, hk, h0, hy, Bool.false_eq_true, if_false, Option.getD_some]

/-- Kinds that a FAULTED tier has not latched are added one by one, each with its report (R160, R163). -/
theorem raiseFaults_again (ks : List FaultKind) (hr : s.Room ks.length) (hst : (s.tier t).state = .faulted)
    (hy : (s.tier t).fault.first = some y) (h0 : (s.tier t).fault.latched ≠ 0) (hnew : ks.Nodup)
    (hks : ∀ k ∈ ks, (s.tier t).fault.latched.getLsbD k.bit = false) :
    ks.foldl (fun s k => s.raiseFault t k) s =
      (s.modTier t fun r => { r with fault := ⟨r.fault.latched ||| kindSet ks, some y⟩ }).told
        (ks.map fun k => .faultRaised t k y.met y.pos) := by
  induction ks generalizing s with
  | nil =>
    have hkept : (s.tier t).fault.latched ||| kindSet [] = (s.tier t).fault.latched := BitVec.or_zero
    refine ((told_nil _).trans (modTier_self (s := s) ?_)).symm
    rw [hkept, ← hy]
  | cons k ks ih =>
    obtain ⟨hk, hrest⟩ := List.forall_mem_cons.mp hks
    obtain ⟨hout, hnodup⟩ := List.nodup_cons.mp hnew
    have hone := raiseFault_again (room_mono hr (by simp)) hst hy h0 hk
    have hother : ∀ d ∈ ks, ((s.tier t).fault.latched ||| 1#12 <<< k.bit).getLsbD d.bit = false := fun d hd => by
      have hne : k ≠ d := fun e => hout (e ▸ hd)
      rw [BitVec.getLsbD_or, hrest d hd, getLsbD_kind, decide_eq_false hne]
      rfl
    have hmore : (s.tier t).fault.latched ||| 1#12 <<< k.bit ≠ 0 := fun e => h0 (BitVec.or_eq_zero_iff.mp e).1
    rw [List.foldl_cons, hone, ih ((told_room _ _ _).mpr (by rw [Nat.add_comm]; exact hr)) (by simpa using hst) (by simp)
      (by simpa using hmore) hnodup (by simpa using hother), told_modTier, told_told, modTier_modTier]
    simp only [BitVec.or_assoc]
    rfl

end Further

/-! ### The steps of a feedback that raises a fault (R156, R159, R160) -/

section Steps

variable {s x : State} {f : Feedback}

theorem received_cmdPos (s : State) (f : Feedback) : (s.received f).cmdPos f.tier = s.cmdPos f.tier := by
  simp [State.cmdPos, received_tier, TierRec.located]

theorem received_link (s : State) (f : Feedback) : (s.received f).link f.tier = (s.link f.tier).accept f := modLink_link _ _ _

/-- Positions taken, a record changed and the reported set stored are the change of the record that has been noted (R156). -/
theorem received_reported (s : State) (f : Feedback) (F : TierRec → TierRec) :
    ((s.received f).modTier f.tier F).modLink f.tier (fun l => { l with reported := f.faults }) =
      (s.noted f).modTier f.tier F := by
  rw [← modLink_modTier, State.received, modLink_modLink]
  rfl

/-- A feedback beyond a following limit raises FOLLOW-ERROR in a state with the check (R159). -/
theorem followCheck_beyond {y : SentRecord} (hy : (s.link f.tier).latestRec = some y)
    (hf : (s.tier f.tier).followed = true) (hbeyond : f.beyond (s.prof f.tier) y = true) :
    s.followCheck f = s.raiseFault f.tier .followError := by
  simp [State.followCheck, hy, hf, hbeyond]

/-- A feedback without a following error raises none once its positions have been taken (R159). -/
theorem received_followed (h : (s.tier f.tier).followed = false ∨ s.Follows f) :
    (s.received f).followCheck f = s.received f := by
  refine followCheck_of_within (h.imp (fun h => ?_) fun h y hy => h y ?_)
  · rw [received_tier]
    exact h
  · rw [received_link] at hy
    exact hy

/-- A tier that stands without a move is synchronised and not tested. -/
theorem standing_synced {x : TierState} (h : x ∈ [.secured, .releasing, .ready, .settling, .securing]) :
    x ∉ [.unsynced, .testing] := by
  cases x <;> simp at h ⊢

/-- A first fault of a standing tier, raised by a feedback of it (R42, R163). -/
theorem received_raises (hr : s.Room 2) (hn : s.Unnamed f.tier) (h0 : (s.tier f.tier).fault.latched = 0)
    (hmove : (s.tier f.tier).move = none)
    (hst : (s.tier f.tier).state ∈ [.secured, .releasing, .ready, .settling, .securing]) (k : FaultKind) :
    (s.received f).raiseFault f.tier k = ((s.received f).modTier f.tier fun r => r.faulted k (s.cmdPos f.tier)).told
      [.faultRaised f.tier k (s.tier f.tier).state (s.cmdPos f.tier), .tierState f.tier .faulted] := by
  have hreceived := received_tier s f
  rw [raiseFault_standing (by exact hr) (by exact hn) (by rw [hreceived]; exact h0) (by rw [hreceived]; exact hmove)
    (by rw [hreceived]; exact hst), received_cmdPos, hreceived]
  rfl

/-- A feedback whose steps 3 to 5 leave its tier FAULTED: its brakes are not looked at (R156, R158). -/
theorem feedbackRecord_faulted {F : TierRec → TierRec} {rs : List Report} (h : s.Accepts f)
    (hst : (s.tier f.tier).state ∉ [.unsynced, .testing])
    (hs : (((s.received f).trailingRelease f).followCheck f).driveFaults f = ((x.noted f).modTier f.tier F).told rs)
    (hF : (F ((x.tier f.tier).located f)).state = .faulted) :
    exec (.feedbackRecord f.bytes) s =
      .next (((x.modTier f.tier fun r => F (r.located f)).modLink f.tier fun l => l.handled f).reported rs) := by
  simp only [List.mem_cons, List.not_mem_nil, or_false, not_or] at hst
  obtain ⟨hsynced, htesting⟩ := hst
  have htake : (s.modLink f.tier fun l => l.accept f).takePosition f = s.received f :=
    takePosition_of_not_testing (by exact htesting)
  have hlast : ((((x.noted f).modTier f.tier F).told rs).tier f.tier).state = .faulted := by
    rw [told_tier, modTier_tier, noted_tier]
    exact hF
  refine feedbackRecord_noted h ?_
  rw [State.acceptFeedback, htake]
  refine (if_neg (by rw [received_tier]; exact hsynced)).trans ?_
  rw [State.handOn, hs, brakeStep_faulted hlast]

end Steps

/-! ### The faults of each state (R42, R159, R160) -/

section Faults

variable {s : State} {f : Feedback}

section Moving

variable {y : SentRecord} {m : MoveRec} {z : Pos} (hr : s.Room 3) (hy : (s.link f.tier).latestRec = some y)
  (hbeyond : f.beyond (s.prof f.tier) y = true) (hf : f.faults = 0) (hz : (s.tier f.tier).cmd = some z)
  (hm : s.Single f.tier m) (ho : m.origin = .link) (hst : (s.tier f.tier).state = .moving)
  (hstop : (s.tier f.tier).stop ≠ .quick) (h0 : (s.tier f.tier).fault.latched = 0) (hent : s.entryOf f.tier = none)
  (hg : s.aa.grants.any (fun g => g.names f.tier) = true)

include hr hy hbeyond hf hz hm ho hst hstop h0 hent hg

/-- A following error of a moving tier of its own (R88, R159). -/
theorem followError_moving :
    ((s.received f).followCheck f).driveFaults f =
      (((s.ungrant f.tier).noted f).modTier f.tier fun r =>
        { r.faulted .followError z with move := some m.stopGenerators }).told
        [.faultRaised f.tier .followError .moving z, .moveEnd f.tier none .fault z, .tierState f.tier .faulted] := by
  have hreceived := received_tier s f
  have hcmd : s.cmdPos f.tier = z := by simp [State.cmdPos, hz]
  have hfollowed : ((s.received f).tier f.tier).followed = true := by
    rw [hreceived]
    simp [TierRec.located, TierRec.followed, hst, hstop]
  have hraise := raiseFault_moving (s := s.received f) (t := f.tier) (by exact hr) ⟨by rw [hreceived]; exact hm.1, hm.2⟩ ho
    (by rw [hreceived]; exact hst) (by rw [hreceived]; exact hstop) (by rw [hreceived]; exact h0) (by exact hent)
    (by exact hg) .followError
  have hnoted := received_reported (s.ungrant f.tier) f fun r =>
    { r.faulted .followError z with move := some m.stopGenerators }
  rw [followCheck_beyond (by rw [received_link]; exact hy) hfollowed (by exact hbeyond), hraise, received_cmdPos, hcmd,
    hreceived, driveFaults_of_none (by simp [hf]), told_modLink, ← hnoted, ← hst]
  rfl

/-- The trailing release comes before it (R53, R156). -/
theorem steps_followError_moving {k : ClaimRec} (hk : s.claim f.tier = some k) :
    (((s.received f).trailingRelease f).followCheck f).driveFaults f =
      ((((s.trailed f.tier k (m.reached k z.slew f.slew)).ungrant f.tier).noted f).modTier f.tier fun r =>
        { r.faulted .followError z with move := some m.stopGenerators }).told
        [.faultRaised f.tier .followError .moving z, .moveEnd f.tier none .fault z, .tierState f.tier .faulted] := by
  have hreceived := received_tier s f
  have htrail : (s.received f).trailingRelease f = (s.trailed f.tier k (m.reached k z.slew f.slew)).received f :=
    trailingRelease_single ⟨by rw [hreceived]; exact hm.1, hm.2⟩ (by rw [hreceived]; exact hst) (by exact hk)
      (by rw [hreceived]; exact hz)
  rw [htrail]
  exact followError_moving (s := s.trailed f.tier k (m.reached k z.slew f.slew)) hr hy hbeyond hf hz hm ho hst hstop h0 hent hg

end Moving

/-- A following error of a settling tier (R159). -/
theorem steps_followError_settling {y : SentRecord} (hr : s.Room 2) (hy : (s.link f.tier).latestRec = some y)
    (hbeyond : f.beyond (s.prof f.tier) y = true) (hf : f.faults = 0) (hmove : (s.tier f.tier).move = none)
    (hst : (s.tier f.tier).state = .settling) (h0 : (s.tier f.tier).fault.latched = 0) (hn : s.Unnamed f.tier) :
    (((s.received f).trailingRelease f).followCheck f).driveFaults f =
      ((s.noted f).modTier f.tier fun r => r.faulted .followError (s.cmdPos f.tier)).told
        [.faultRaised f.tier .followError .settling (s.cmdPos f.tier), .tierState f.tier .faulted] := by
  have hreceived := received_tier s f
  rw [trailingRelease_of_not_moving (by rw [hreceived]; simp [TierRec.located, hst]),
    followCheck_beyond (by rw [received_link]; exact hy) (by rw [hreceived]; simp [TierRec.located, TierRec.followed, hst])
      (by exact hbeyond), received_raises hr hn h0 hmove (by simp [hst]), driveFaults_of_none (by simp [hf]), told_modLink,
    received_reported, hst]

/-- A drive fault of a standing tier that was not reported before (R160). -/
theorem steps_driveFault {k : FaultKind} (hr : s.Room 2) (hk : k ∈ driveKinds)
    (hnew : f.faults &&& ~~~(s.link f.tier).reported = 1#4 <<< k.bit) (hfollow : s.Follows f)
    (hst : (s.tier f.tier).state ∈ [.secured, .releasing, .ready, .settling, .securing])
    (hmove : (s.tier f.tier).move = none) (h0 : (s.tier f.tier).fault.latched = 0) (hn : s.Unnamed f.tier) :
    (((s.received f).trailingRelease f).followCheck f).driveFaults f =
      ((s.noted f).modTier f.tier fun r => r.faulted k (s.cmdPos f.tier)).told
        [.faultRaised f.tier k (s.tier f.tier).state (s.cmdPos f.tier), .tierState f.tier .faulted] := by
  have hstill : (s.tier f.tier).state ≠ .moving := List.ne_of_not_mem_cons (standing_not_running hst)
  rw [trailingRelease_of_not_moving (by rw [received_tier]; exact hstill), received_followed (.inr hfollow),
    driveFaults_of_one hk (by rw [received_link]; exact hnew), received_raises hr hn h0 hmove hst, told_modLink,
    received_reported]

/-- The drive faults not reported before, on a tier that is FAULTED already (R160, R163). -/
theorem steps_further {y : FirstFault} (hr : s.Room 4) (hst : (s.tier f.tier).state = .faulted)
    (hy : (s.tier f.tier).fault.first = some y) (h0 : (s.tier f.tier).fault.latched ≠ 0)
    (hapart : (s.tier f.tier).fault.latched &&& f.faults.zeroExtend 12 = 0) :
    (((s.received f).trailingRelease f).followCheck f).driveFaults f =
      ((s.noted f).modTier f.tier fun r => { r with
        fault := ⟨r.fault.latched ||| (f.faults &&& ~~~(s.link f.tier).reported).zeroExtend 12, some y⟩ }).told
        ((driveKinds.filter fun d => (f.faults &&& ~~~(s.link f.tier).reported).getLsbD d.bit).map fun d =>
          .faultRaised f.tier d y.met y.pos) := by
  have hreceived := received_tier s f
  have hrep : ((s.received f).link f.tier).reported = (s.link f.tier).reported := by rw [received_link]; rfl
  have hfew : (driveKinds.filter fun d => (f.faults &&& ~~~(s.link f.tier).reported).getLsbD d.bit).length ≤ 4 :=
    List.length_filter_le _ driveKinds
  have hunlatched : ∀ k ∈ driveKinds.filter fun d => (f.faults &&& ~~~(s.link f.tier).reported).getLsbD d.bit,
      (s.tier f.tier).fault.latched.getLsbD k.bit = false := fun k hk => not_latched_of_apart hapart (List.mem_filter.mp hk).2
  rw [trailingRelease_of_not_moving (by rw [hreceived]; simp [TierRec.located, hst]),
    received_followed (.inl (by simp [TierRec.followed, hst])), State.driveFaults, hrep]
  rw [← List.foldl_filter, raiseFaults_again _ (by exact room_mono hr hfew) (by rw [hreceived]; exact hst)
    (by rw [hreceived]; exact hy) (by rw [hreceived]; exact h0) ((by decide : driveKinds.Nodup).filter _)
    (by rw [hreceived]; exact hunlatched), kindSet_driveKinds, told_modLink, received_reported]

end Faults

/-- Settles O46: the fault that the steps of the feedback raise in each of the four cases, with the positions and the link
record that every accepted feedback leaves. -/
theorem feedbackFaults : Obligations.FeedbackFaults := by
  unfold Obligations.FeedbackFaults
  rintro f t l p s x hacc hroom rfl rfl rfl rfl
  refine ⟨fun y m k z i hy hbeyond hf hk hz hi hm ho hst hstop h0 hent hg => ?moving,
    fun y hy hbeyond hf hmove hst h0 hn => ?settling, fun k hk hnew hfollow hst hmove h0 hn => ?drive,
    fun y hst hy h0 hapart => ?further⟩
  case moving =>
    subst hi
    exact feedbackRecord_faulted hacc (by simp [hst])
      (steps_followError_moving (room_mono hroom (by decide)) hy hbeyond hf hz hm ho hst hstop h0 hent hg hk) rfl
  case settling =>
    exact feedbackRecord_faulted hacc (by simp [hst])
      (steps_followError_settling (room_mono hroom (by decide)) hy hbeyond hf hmove hst h0 hn) rfl
  case drive =>
    exact feedbackRecord_faulted hacc (standing_synced hst)
      (steps_driveFault (room_mono hroom (by decide)) hk hnew hfollow hst hmove h0 hn) rfl
  case further =>
    exact feedbackRecord_faulted hacc (by simp [hst]) (steps_further (room_mono hroom (by decide)) hst hy h0 hapart) hst

end Sys2Proof.Machine
end

section
/-! PROOFS. The locks between two resets (R175, R176, R190): the show-lock set, the group locks and the protection boundary are
parts of `State.rest`, which the operations of the hall leave alone. A request that writes one of them releases it only with
the key, and the boundary only rises. -/

namespace Sys2Proof.Machine

/-! ### Locks kept from one state to another -/

/-- The locks, with the KEY level that they are released by. -/
structure Locks where
  boundary : Nat
  showLock : TierSet
  profiles : Bool
  zones : Bool
  layouts : Bool
  key : Bool

/-- The locks of a state, as the operations of the hall leave them alone. -/
def State.locks (s : State) : Locks :=
  let r := s.rest
  ⟨r.nvs.boundary, r.showLock, r.profilesLocked, r.zonesLocked, r.layoutsLocked, r.key⟩

theorem locks_of_rest {s s' : State} (h : s'.rest = s.rest) : s'.locks = s.locks := by
  simp only [State.locks, h]

/-- What is kept from one state of the locks to a later one: the protection boundary does not fall, and without the key no tier
leaves the show-lock set and no group is unlocked (R175, R176, R190). -/
structure Locks.Held (x y : Locks) : Prop where
  boundary : x.boundary ≤ y.boundary
  showLock : x.key = false → ∀ t : Tier, x.showLock.getLsbD t = true → y.showLock.getLsbD t = true
  profiles : x.key = false → x.profiles = true → y.profiles = true
  zones : x.key = false → x.zones = true → y.zones = true
  layouts : x.key = false → x.layouts = true → y.layouts = true

theorem Locks.Held.refl (x : Locks) : x.Held x where
  boundary := Nat.le_refl _
  showLock _ _ := id
  profiles _ := id
  zones _ := id
  layouts _ := id

/-- With the key every lock may change, but for the boundary (R175, R176). -/
theorem Locks.Held.of_key {x y : Locks} (hk : x.key = true) (hb : x.boundary ≤ y.boundary) : x.Held y where
  boundary := hb
  showLock h := by simp [hk] at h
  profiles h := by simp [hk] at h
  zones h := by simp [hk] at h
  layouts h := by simp [hk] at h

/-- The locks are kept, at an unchanged KEY level. -/
structure Locks.Guards (x y : Locks) : Prop where
  held : x.Held y
  key : y.key = x.key

theorem Locks.Guards.of_eq {x y : Locks} (h : y = x) : x.Guards y := h ▸ ⟨.refl _, rfl⟩

theorem Locks.Guards.trans {x y z : Locks} (h : x.Guards y) (h' : y.Guards z) : x.Guards z where
  held :=
    { boundary := h.held.boundary.trans h'.held.boundary
      showLock := fun hk t ht => h'.held.showLock (h.key.trans hk) t (h.held.showLock hk t ht)
      profiles := fun hk hl => h'.held.profiles (h.key.trans hk) (h.held.profiles hk hl)
      zones := fun hk hl => h'.held.zones (h.key.trans hk) (h.held.zones hk hl)
      layouts := fun hk hl => h'.held.layouts (h.key.trans hk) (h.held.layouts hk hl) }
  key := h'.key.trans h.key

/-- From a state to a later one the locks are kept, at an unchanged KEY level. -/
abbrev State.Guards (s s' : State) : Prop := s.locks.Guards s'.locks

theorem guards_of_rest {s s' : State} (h : s'.rest = s.rest) : s.Guards s' := .of_eq (locks_of_rest h)

/-! ### Requests (R11, R16, R75, R174 to R176, R184 to R192) -/

/-- SHOW-LOCK adds to the set (R174). -/
theorem addShow_guards (s : State) (x : TierSet) : s.Guards (s.addShow x) := by
  have hlocks : (s.addShow x).locks = { s.locks with showLock := s.fsu.showLock ||| x } := by
    simp only [State.locks, addShow_rest]
  have hshow (t : Tier) (ht : s.fsu.showLock.getLsbD t = true) : (s.fsu.showLock ||| x).getLsbD t = true := by
    rw [BitVec.getLsbD_or, ht, Bool.true_or]
  rw [State.Guards, hlocks]
  exact ⟨{ Locks.Held.refl s.locks with showLock := fun _ => hshow }, rfl⟩

theorem takeSite_locks (s : State) (x : Site) : (s.takeSite x).locks = s.locks := by
  simp only [State.locks, takeSite_rest]

theorem takeProfile_locks (s : State) (t : Tier) (p : ProfileData) : (s.takeProfile t p).locks = s.locks := by
  simp only [State.locks, takeProfile_rest]

theorem takeZone_locks (s : State) (n : Fin 6) (z : ZoneRec) : (s.takeZone n z).locks = s.locks := by
  simp only [State.locks, takeZone_rest]

theorem serveSite_locks (s : State) (m : SiteMsg) : (s.serveSite m).1.locks = s.locks := by
  unfold State.serveSite
  split
  · rfl
  · split
    · rfl
    · split
      · exact takeSite_locks s _
      · rfl

/-- A record refused changes nothing; one taken keeps the locks, also behind a re-mark of the map (R59). -/
theorem servePutProfile_locks (s : State) (b : Byte) (p : ProfileData) : (s.servePutProfile b p).1.locks = s.locks := by
  have hrefuse (c : Code) : (s.refuse c).1.locks = s.locks := rfl
  simp only [State.servePutProfile, State.withTier, State.putProfile]
  (repeat' split) <;> simp only [accept_fst, takeProfile_locks, hrefuse]
  case h_1 x hx => exact locks_of_rest (remark_rest hx)

theorem servePutZone_locks (s : State) (b : Byte) (z : ZoneMsg) : (s.servePutZone b z).1.locks = s.locks := by
  have hrefuse (c : Code) : (s.refuse c).1.locks = s.locks := rfl
  unfold State.servePutZone
  (repeat' split) <;> simp only [accept_fst, takeZone_locks, hrefuse]

theorem serveShowLock_guards (s : State) (x : BitVec 16) : s.Guards (s.serveShowLock x).1 := by
  unfold State.serveShowLock
  split
  · exact .of_eq rfl
  · exact addShow_guards s _

/-- RELEASE-SHOW takes tiers out of the set with the key alone (R175). -/
theorem serveReleaseShow_guards (s : State) (x : BitVec 16) : s.Guards (s.serveReleaseShow x).1 := by
  unfold State.serveReleaseShow
  split
  · exact .of_eq rfl
  · split
    · exact .of_eq rfl
    · split
      case isTrue hkey => exact ⟨.of_key hkey (Nat.le_refl _), rfl⟩
      case isFalse => exact .of_eq rfl

theorem setLock_key (x : Supervisor) (g : Byte) (b : Bool) : (x.setLock g b).key = x.key := by
  unfold Supervisor.setLock
  (repeat' split) <;> rfl

/-- LOCK locks (R176). -/
theorem serveLock_guards (s : State) (g : Byte) : s.Guards (s.serveLock g).1 := by
  unfold State.serveLock
  split
  · exact .of_eq rfl
  · simp only [accept_fst, Supervisor.setLock]
    split
    · exact ⟨{ Locks.Held.refl s.locks with profiles := fun _ _ => rfl }, rfl⟩
    · split
      · exact ⟨{ Locks.Held.refl s.locks with zones := fun _ _ => rfl }, rfl⟩
      · exact ⟨{ Locks.Held.refl s.locks with layouts := fun _ _ => rfl }, rfl⟩

/-- UNLOCK unlocks with the key alone (R176). -/
theorem serveUnlock_guards (s : State) (g : Byte) : s.Guards (s.serveUnlock g).1 := by
  unfold State.serveUnlock
  split
  · exact .of_eq rfl
  · split
    case isTrue hkey => exact ⟨.of_key hkey (Nat.le_refl _), setLock_key _ _ _⟩
    case isFalse => exact .of_eq rfl

/-- PROTECT-LAYOUTS never takes a lower boundary (R190). -/
theorem serveProtect_guards (s : State) (n : Byte) : s.Guards (s.serveProtect n).1 := by
  unfold State.serveProtect
  split
  · exact .of_eq rfl
  · split
    · exact .of_eq rfl
    · split
      case isTrue => exact .of_eq rfl
      case isFalse hle => exact ⟨{ Locks.Held.refl s.locks with boundary := Nat.not_lt.mp hle }, rfl⟩

/-- Every request keeps the locks: the hall's leave `rest` alone, the others are named. -/
theorem serve_guards (s : State) (r : Request) : s.Guards (s.serve r).1 := by
  cases r with
  | showLock x => exact serveShowLock_guards s x
  | releaseShow x => exact serveReleaseShow_guards s x
  | lock g => exact serveLock_guards s g
  | unlock g => exact serveUnlock_guards s g
  | protectLayouts n => exact serveProtect_guards s n
  | siteSet m => exact .of_eq (serveSite_locks s m)
  | profilePut b p => exact .of_eq (servePutProfile_locks s b p)
  | zonePut b z => exact .of_eq (servePutZone_locks s b z)
  | saveSettings => simp only [State.serve, State.serveSave]; (repeat' split) <;> exact .of_eq rfl
  | layoutErase b => simp only [State.serve, State.serveErase]; (repeat' split) <;> exact .of_eq rfl
  | layoutWrite b l => simp only [State.serve, State.serveWrite]; (repeat' split) <;> exact .of_eq rfl
  | restart => simp only [State.serve, State.serveRestart]; split <;> exact .of_eq rfl
  | profileGet b =>
    obtain ⟨-, -, -, -, hget, -, -⟩ := query_fst s b 0 0
    exact .of_eq (congrArg State.locks hget)
  | zoneGet b =>
    obtain ⟨-, -, -, -, -, hget, -⟩ := query_fst s b 0 0
    exact .of_eq (congrArg State.locks hget)
  | layoutRead b =>
    obtain ⟨-, -, -, -, -, -, hget⟩ := query_fst s b 0 0
    exact .of_eq (congrArg State.locks hget)
  | queryTier b =>
    obtain ⟨hget, -, -, -, -, -, -⟩ := query_fst s b 0 0
    exact .of_eq (congrArg State.locks hget)
  | queryMap f c =>
    obtain ⟨-, hget, -, -, -, -, -⟩ := query_fst s 0 f c
    exact .of_eq (congrArg State.locks hget)
  | queryStatus | queryQueue | queryGrants => exact .of_eq rfl
  | _ => exact guards_of_rest (by simp [State.serve])

/-! ### Frames (R169, R177 to R182) -/

theorem answer_guards (s : State) (tag kind : Byte) (r : Request) : s.Guards (s.answer tag kind r) :=
  serve_guards s r

theorem handle_guards (s : State) (f : Frame) : s.Guards (s.handle f) := by
  unfold State.handle
  split
  · exact .of_eq rfl
  · exact answer_guards s _ _ _

theorem request_guards (s : State) (tag : Byte) (r : Request) : s.Guards (s.request tag r) := by
  unfold State.request
  split
  · exact .of_eq rfl
  · split
    · exact answer_guards s _ _ _
    · split <;> exact .of_eq rfl

theorem kickWatchdog_locks (s : State) : s.kickWatchdog.locks = s.locks := by
  unfold State.kickWatchdog
  split
  · rfl
  · rfl
  · exact locks_of_rest (enterFailsafe_rest s _)

theorem completeFrame_guards (s : State) (f : Frame) : s.Guards (s.completeFrame f) := by
  unfold State.completeFrame
  split
  · exact .of_eq rfl
  · split
    · exact .trans (.of_eq (kickWatchdog_locks s)) (handle_guards _ f)
    · split
      · exact .of_eq (kickWatchdog_locks s)
      · exact .of_eq rfl

theorem linkByte_guards (s : State) (b : Byte) : s.Guards (s.linkByte b) := by
  unfold State.linkByte
  split
  case h_7 =>
    dsimp only
    split
    · exact completeFrame_guards (s.setFramer .hunt) _
    · exact .of_eq rfl
  case h_1 => split <;> exact .of_eq rfl
  all_goals exact .of_eq rfl

theorem linkBytesIn_guards (s : State) (bs : List Byte) : s.Guards (s.linkBytesIn bs) := by
  unfold State.linkBytesIn
  induction bs generalizing s with
  | nil => exact .of_eq rfl
  | cons b bs ih => exact (linkByte_guards s b).trans (ih (s.linkByte b))

theorem takeHeld_guards (s : State) : s.Guards s.takeHeld := by
  unfold State.takeHeld
  split
  · exact .of_eq rfl
  · rename_i f rest _
    split
    · exact handle_guards (s.modPort fun p => { p with hold := rest }) f
    · exact .of_eq rfl

theorem replySent_guards (s : State) : s.Guards s.replySent := by
  unfold State.replySent
  split
  · rename_i rest _ _
    dsimp only
    split
    · exact .of_eq rfl
    · exact takeHeld_guards (s.modPort fun p => { p with replies := rest, tx := .idle })
  · exact .of_eq rfl

/-! ### Events (R70 to R72, R149, R169, R186) -/

theorem tripRises_locks (s : State) (i : Input) : (s.tripRises i).locks = s.locks := by
  unfold State.tripRises
  split <;> rfl

theorem tripFalls_locks (s : State) (i : Input) : (s.tripFalls i).locks = s.locks := by
  unfold State.tripFalls
  split
  · dsimp only
    split
    · rfl
    · exact locks_of_rest (s := (s.setLevel i false).trigger) (report_rest _ _)
  · rfl

theorem tripApply_locks (s : State) (i : Input) : (s.tripApply i).locks = s.locks := by
  unfold State.tripApply
  split
  · rfl
  · rename_i x _
    exact locks_of_rest (s := { s with zu := { s.zu with due := x.1 } })
      ((reportAll_rest _ _).trans (tripStop_rest _ i))

theorem expireWatchdog_locks (s : State) : s.expireWatchdog.locks = s.locks := by
  unfold State.expireWatchdog
  split
  · exact locks_of_rest (s := { s with fsu := { s.fsu with watchdog := .expired } }) (enterFailsafe_rest _ _)
  · rfl

theorem storeDone_locks (s : State) (k : StoreKind) (b : Bool) (n : BitVec 3) : (s.storeDone k b n).locks = s.locks := by
  refine locks_of_rest ?_
  simp only [State.storeDone]
  split <;> simp

theorem modStore_locks (s : State) (f : Store → Store) : (s.modStore f).locks = s.locks := rfl

theorem useFree_locks (s : State) : s.useFree.locks = s.locks := rfl

theorem completeStore_locks (s : State) (failed : BitVec 3) : (s.completeStore failed).locks = s.locks := by
  have hidle : ({ s with nvs := { s.nvs with op := none } } : State).locks = s.locks := rfl
  unfold State.completeStore
  dsimp only
  split
  · rfl
  all_goals
    simp only [storeDone_locks, State.saveSections, State.setSlot, useFree_locks, modStore_locks, hidle]

/-- The end of a brake test writes the restriction of its tier and no lock (R147). -/
theorem testExpire_locks (s : State) (t : Tier) : (s.testExpire t).locks = s.locks := by
  unfold State.testExpire
  split
  · exact (locks_of_rest ((enterSecured_rest _ t).trans ((freeGrant_rest _ t).trans (report_rest _ _)))).trans rfl
  · rfl

/-! ### Every command -/

section Commands

variable {s s' : State}

theorem during_guards {f : State → State} (hf : s.Guards (f s)) (e : s.during f = .next s') : s.Guards s' := by
  unfold State.during at e
  cases e
  split
  · exact hf
  · exact .of_eq rfl

theorem during_guards_of_rest {f : State → State} (hf : (f s).rest = s.rest) (e : s.during f = .next s') :
    s.Guards s' :=
  during_guards (guards_of_rest hf) e

theorem duringDrive_guards {f : State → State} (hf : (f s).rest = s.rest) (e : s.duringDrive f = .next s') :
    s.Guards s' := by
  unfold State.duringDrive at e
  split at e
  · cases e
    exact guards_of_rest hf
  · exact during_guards_of_rest hf e

/-- On a running part an event of a TRIP input moves its pin and then acts as every other event (R70). -/
theorem tripEdge_guards {i : Input} {b : Bool} {y : State} {f : State → State} (hrun : s.phase = .running)
    (hf : (f (s.setTripPin i b)).locks = s.locks)
    (e : (if (s.setTripPin i b).phase = .startUp then .next y else (s.setTripPin i b).during f) = .next s') :
    s.Guards s' := by
  rw [if_neg (by simp [hrun])] at e
  exact during_guards (s := s.setTripPin i b) (.of_eq hf) e

/-- The boundary and the locks of a running part are kept by every command that is no reset, and the KEY level by all but its own
change. -/
theorem exec_guards {i : Instr} (hrun : s.phase = .running) (hi : Resets i = false) (hkey : ∀ b, i ≠ .keyChange b)
    (e : exec i s = .next s') : s.Guards s' := by
  cases hc : i.carried with
  | some x =>
    obtain ⟨q, hq⟩ := exec_of_carried (tag := x.1) (r := x.2) hc s
    exact during_guards (request_guards s x.1 q) (hq ▸ e)
  | none =>
    cases i
    case powerOn | resetLineLow | restartStartup | lossOfPower => cases hi
    case keyChange b => exact absurd rfl (hkey b)
    case resetLineRisingEdge =>
      cases e
      have hheld : ¬ s.phase = .held := by simp [hrun]
      simp only [State.resetRises, if_neg hheld]
      exact .of_eq rfl
    case startupComplete =>
      cases e
      rw [completeStartUp_of_running hrun]
      unfold State.kickIfRunning
      split <;> exact .of_eq rfl
    case validFrame bs => exact during_guards (f := fun x => x.linkBytesIn bs) (linkBytesIn_guards s bs) e
    case commandLinkGapTimeout | commandLinkStopBitError => exact during_guards (f := State.dropFrame) (.of_eq rfl) e
    case lengthByteAbove248 =>
      exact during_guards (f := State.badLength) (by unfold State.badLength; split <;> exact .of_eq rfl) e
    case replySent => exact during_guards (f := State.replySent) (replySent_guards s) e
    case reportSent =>
      exact during_guards (f := State.reportSent) (by unfold State.reportSent; split <;> exact .of_eq rfl) e
    case setpointInterval t =>
      exact during_guards_of_rest (f := fun x => if x.installed t then x.interval t else x) (by split <;> simp) e
    case setpointRecordSent => exact during_guards_of_rest (f := State.recordSent) (recordSent_rest s) e
    case feedbackRecord bs => exact duringDrive_guards (f := fun x => x.driveBytes bs) (driveBytes_rest s bs) e
    case feedbackGapTimeout | driveLinkStopBitError =>
      exact duringDrive_guards (f := fun x => x.setDriveFramer .hunting) rfl e
    case feedbackTimerExpiry t => exact during_guards_of_rest (f := fun x => x.feedbackExpire t) (feedbackExpire_rest s t) e
    case releaseWaitExpiry t =>
      exact during_guards_of_rest (f := fun x => x.releaseWaitExpire t) (releaseWaitExpire_rest s t) e
    case secureWaitExpiry t =>
      exact during_guards_of_rest (f := fun x => x.secureWaitExpire t) (secureWaitExpire_rest s t) e
    case watchExpiry t => exact during_guards_of_rest (f := fun x => x.watchExpire t) (watchExpire_rest s t) e
    case settleTimerExpiry t => exact during_guards_of_rest (f := fun x => x.settleTimeout t) (settleTimeout_rest s t) e
    case testTimerExpiry t => exact during_guards (f := fun x => x.testExpire t) (.of_eq (testExpire_locks s t)) e
    case tripActiveEdge i =>
      exact tripEdge_guards (f := fun x => x.tripRises i) hrun (tripRises_locks (s.setTripPin i true) i) e
    case tripInactiveEdge i =>
      exact tripEdge_guards (f := fun x => x.tripFalls i) hrun (tripFalls_locks (s.setTripPin i false) i) e
    case tripApplication i => exact during_guards (f := fun x => x.tripApply i) (.of_eq (tripApply_locks s i)) e
    case admissionScan => exact during_guards_of_rest (f := State.dueScan) (dueScan_rest s) e
    case loadConversionComplete n =>
      exact during_guards_of_rest (f := fun x => x.completeConversion n.toNat) (completeConversion_rest s _) e
    case freshnessTimerExpiry t =>
      exact during_guards_of_rest (f := fun x => x.expireFreshness t) (expireFreshness_rest s t) e
    case storeOperationComplete failed =>
      exact during_guards (f := fun x => x.completeStore failed) (.of_eq (completeStore_locks s failed)) e
    case watchdogExpiry => exact during_guards (f := State.expireWatchdog) (.of_eq (expireWatchdog_locks s)) e
    all_goals cases hc

/-- A change of the KEY input changes no lock (R176). -/
theorem keyChange_held {b : Bool} (hrun : s.phase = .running) (e : exec (.keyChange b) s = .next s') :
    s.locks.Held s'.locks := by
  have hnext : exec (.keyChange b) s = .next ((s.setKeyPin b).setKey b).kick := by
    show execKeyChange b s = _
    simp only [execKeyChange, if_neg (show ¬ (s.setKeyPin b).phase = .startUp by simp [hrun])]
    exact during_next (s := s.setKeyPin b) hrun _
  rw [hnext] at e
  cases e
  exact { Locks.Held.refl s.locks with }

theorem exec_held {i : Instr} (hrun : s.phase = .running) (hi : Resets i = false) (e : exec i s = .next s') :
    s.locks.Held s'.locks := by
  by_cases hkey : ∃ b, i = .keyChange b
  · obtain ⟨b, rfl⟩ := hkey
    exact keyChange_held hrun e
  · exact (exec_guards hrun hi (fun b hb => hkey ⟨b, hb⟩) e).held

end Commands

/-- Settles O10: what every command leaves of the locks, read at a tier of the show-lock set, at the boundary and at each group. -/
theorem locksKept : Obligations.LocksKept := by
  refine ⟨fun i s s' t hrun hk hi e => (exec_held hrun hi e).showLock hk t, fun i s s' hrun hi e => ?_⟩
  have h := exec_held hrun hi e
  exact ⟨h.boundary, fun hk => ⟨h.profiles hk, h.zones hk, h.layouts hk⟩⟩

end Sys2Proof.Machine
end

section
/-! PROOFS. RELEASE-SHOW, LOCK and UNLOCK by the KEY level (R175, R176). -/

namespace Sys2Proof.Machine

section Serve

variable {s : State} {x : BitVec 16} {g : Byte}

/-- A tier set of more than twelve bits names a tier above 11 (R174, R175). -/
theorem aboveTiers_of_le (h : 4096 ≤ x.toNat) : aboveTiers x = true := by
  have hne : x.extractLsb' 12 4 ≠ 0 := by
    intro hzero
    have hhigh := congrArg BitVec.toNat hzero
    have hlt := x.isLt
    simp [Nat.shiftRight_eq_div_pow] at hhigh
    omega
  exact decide_eq_true hne

theorem serveReleaseShow_range (h : 4096 ≤ x.toNat) : s.serveReleaseShow x = s.refuse .range := by
  simp [State.serveReleaseShow, aboveTiers_of_le h]

theorem serveReleaseShow_none : s.serveReleaseShow 0 = s.accept := by
  have hfit : ¬ aboveTiers 0 = true := by decide
  rw [State.serveReleaseShow, if_neg hfit, if_pos rfl]

/-- RELEASE-SHOW of some tiers takes them out of the set with the key, and is refused without (R175). -/
theorem serveReleaseShow_some (h0 : 0 < x.toNat) (h : x.toNat < 4096) :
    s.serveReleaseShow x =
      if s.fsu.key then State.accept { s with fsu := { s.fsu with showLock := s.fsu.showLock &&& ~~~(lowTiers x) } }
      else s.refuse .key := by
  have hne : x ≠ 0 := fun hx => by simp [hx] at h0
  rw [State.serveReleaseShow, if_neg (by simp [not_aboveTiers h]), if_neg hne]

theorem serveLock_range (h : 2 < g.toNat) : s.serveLock g = s.refuse .range := if_pos h

theorem serveUnlock_range (h : 2 < g.toNat) : s.serveUnlock g = s.refuse .range := if_pos h

/-- The three groups are those of the codes 0 to 2 (R176). -/
theorem group_cases (h : g.toNat ≤ 2) : g = 0 ∨ g = 1 ∨ g = 2 := by
  have hval : g.toNat = 0 ∨ g.toNat = 1 ∨ g.toNat = 2 := by omega
  rcases hval with hg | hg | hg
  · exact .inl (BitVec.eq_of_toNat_eq hg)
  · exact .inr (.inl (BitVec.eq_of_toNat_eq hg))
  · exact .inr (.inr (BitVec.eq_of_toNat_eq hg))

theorem setLock_true (y : Supervisor) (h : g.toNat ≤ 2) :
    y.setLock g true =
      { y with
        profilesLocked := y.profilesLocked || decide (g = 0)
        zonesLocked := y.zonesLocked || decide (g = 1)
        layoutsLocked := y.layoutsLocked || decide (g = 2) } := by
  obtain rfl | rfl | rfl := group_cases h <;> simp [Supervisor.setLock]

theorem setLock_false (y : Supervisor) (h : g.toNat ≤ 2) :
    y.setLock g false =
      { y with
        profilesLocked := y.profilesLocked && !decide (g = 0)
        zonesLocked := y.zonesLocked && !decide (g = 1)
        layoutsLocked := y.layoutsLocked && !decide (g = 2) } := by
  obtain rfl | rfl | rfl := group_cases h <;> simp [Supervisor.setLock]

/-- LOCK of a group is taken at any KEY level (R176). -/
theorem serveLock_taken (h : g.toNat ≤ 2) : s.serveLock g = State.accept { s with fsu := s.fsu.setLock g true } :=
  if_neg (Nat.not_lt.mpr h)

theorem serveUnlock_taken (h : g.toNat ≤ 2) (hk : s.fsu.key = true) :
    s.serveUnlock g = State.accept { s with fsu := s.fsu.setLock g false } := by
  simp [State.serveUnlock, Nat.not_lt.mpr h, hk]

theorem serveUnlock_key (h : g.toNat ≤ 2) (hk : s.fsu.key = false) : s.serveUnlock g = s.refuse .key := by
  simp [State.serveUnlock, Nat.not_lt.mpr h, hk]

end Serve

/-- A request taken whose effect queues no report. -/
theorem request_accepted {s s' : State} {tag : Byte} {r : Request} (h : s.Handles) (hs : s.serve r = s'.accept)
    (hp : s'.clp = s.clp) :
    s.during (fun x => x.request tag r) = .next (s'.replied tag ((requestBytes r).1 + 0x80) .ok [] []) :=
  request_next h (by rw [hs, told_nil]; rfl) (by decide) hp

/-- Settles O31: each request by the outcome of its block. -/
theorem keyedRequests : Obligations.KeyedRequests := by
  refine ⟨fun tag x s h => ⟨fun hx => ?range, ?none, fun h0 hx hk => ?taken, fun h0 hx hk => ?key⟩,
    fun tag s h => ⟨fun g hg => ⟨?lockRange, ?unlockRange⟩, fun g hg hk => ?unlock, fun g hg hk => ?unlockKey,
      fun g hg => ?lock⟩⟩
  case range => exact request_same h (serveReleaseShow_range hx) (by decide)
  case none => rintro rfl; exact request_same h serveReleaseShow_none (by decide)
  case taken => exact request_accepted h ((serveReleaseShow_some h0 hx).trans (if_pos hk)) rfl
  case key => exact request_same h ((serveReleaseShow_some h0 hx).trans (if_neg (by simp [hk]))) (by decide)
  case lockRange => exact request_same h (serveLock_range hg) (by decide)
  case unlockRange => exact request_same h (serveUnlock_range hg) (by decide)
  case unlock => rw [← setLock_false s.fsu hg]; exact request_accepted h (serveUnlock_taken hg hk) rfl
  case unlockKey => exact request_same h (serveUnlock_key hg hk) (by decide)
  case lock => rw [← setLock_true s.fsu hg]; exact request_accepted h (serveLock_taken hg) rfl

end Sys2Proof.Machine
end

section
/-! PROOFS. Fail-safe and show lock on tiers without a move (R171, R174): the stop of one standing tier, of all of a list in turn,
and the requests and the timer that send it. -/

namespace Sys2Proof.Machine

/-! ### The stop of a standing tier, and of each tier of a list (R171, R174) -/

section Standing

variable {s : State} {ts : List Tier} {u : Tier}

/-- A list taken item by item: `g` says what stands after each beginning of it. -/
theorem foldl_of_beginnings {α β : Type} {f : β → α → β} (g : List α → β) (l : List α)
    (hstep : ∀ pre a post, l = pre ++ a :: post → f (g pre) a = g (pre ++ [a])) : l.foldl f (g []) = g l := by
  have hfold : ∀ post pre, l = pre ++ post → post.foldl f (g pre) = g l := by
    intro post
    induction post with
    | nil => intro pre hl; simp [hl]
    | cons a post ih =>
      intro pre hl
      rw [List.foldl_cons, hstep pre a post hl]
      exact ih (pre ++ [a]) (by simp [hl])
  exact hfold l [] rfl

/-- The reports of the stops of the released tiers of a list (R20, R171, R174). -/
def stopReports (s : State) (ts : List Tier) : List Report := (ts.filter (released s)).map fun t => .tierState t .securing

/-- The state in which each tier of a list has been stopped, with the reports of the stops. -/
def State.stopped (s : State) (ts : List Tier) : State :=
  (s.withRecords ts (stoppedStanding s)).told (stopReports s ts)

@[simp] theorem stopped_nil (s : State) : s.stopped [] = s := by simp [State.stopped, stopReports]

theorem stopReports_length (s : State) (ts : List Tier) : (stopReports s ts).length ≤ ts.length := by
  rw [stopReports, List.length_map]
  exact List.length_filter_le _ _

/-- A tier is not one that the stops of R171 and R174 meet in motion or, where they abort it, in a test. -/
def State.Stands (s : State) (test : Bool) (u : Tier) : Prop :=
  (s.tier u).state ≠ .moving ∧ (s.tier u).state ≠ .paused ∧ (test = true → (s.tier u).state ≠ .testing)

theorem stopReports_released (h : released s u = true) : stopReports s [u] = [.tierState u .securing] := by
  simp [stopReports, h]

theorem stopReports_kept (h : released s u = false) : stopReports s [u] = [] := by
  simp [stopReports, h]

/-- The stop of a standing tier: a released one is secured, with its report, and a settling one will be (R171, R174). -/
theorem safetyStop_standing {test : Bool} (hr : s.Room 1) (h : s.Stands test u) (reason : MoveReason) :
    s.safetyStop reason test u = (s.modTier u fun _ => stoppedStanding s u).told (stopReports s [u]) := by
  obtain ⟨hmoving, hpaused, htesting⟩ := h
  have hkept (hsame : stoppedStanding s u = s.tier u) (hrel : released s u = false)
      (hstop : s.safetyStop reason test u = s) :
      s.safetyStop reason test u = (s.modTier u fun _ => stoppedStanding s u).told (stopReports s [u]) := by
    rw [hstop, hsame, modTier_self rfl, stopReports_kept hrel, told_nil]
  cases hst : (s.tier u).state
  case releasing | ready =>
    have hstop : s.safetyStop reason test u = s.enterSecuring u := by simp [State.safetyStop, hst]
    have hrec : stoppedStanding s u = (s.tier u).secured (s.prof u) := by rw [stoppedStanding, hst]; rfl
    rw [hstop, enterSecuring_eq hr, stopReports_released (by simp [released, hst]), hrec]
    rfl
  case settling =>
    have hstop : s.safetyStop reason test u = s.setSecurePending u := by simp [State.safetyStop, hst]
    have hrec : stoppedStanding s u = { s.tier u with securePending := true } := by rw [stoppedStanding, hst]
    rw [hstop, stopReports_kept (by simp [released, hst]), told_nil, hrec]
    rfl
  case moving => exact absurd hst hmoving
  case paused => exact absurd hst hpaused
  case testing =>
    cases test
    · exact hkept (by rw [stoppedStanding, hst]) (by simp [released, hst]) (by simp [State.safetyStop, hst])
    · exact absurd hst (htesting rfl)
  all_goals
    exact hkept (by rw [stoppedStanding, hst]) (by simp [released, hst]) (by simp [State.safetyStop, hst])

theorem stopped_tier (hu : u ∉ ts) : (s.stopped ts).tier u = s.tier u := by
  rw [State.stopped, told_tier, withRecords_tier, if_neg hu]

/-- A further tier's stop, after those of a list (R171, R174). -/
theorem stopped_safetyStop {test : Bool} (hu : u ∉ ts) (hr : s.Room (ts.length + 1)) (h : s.Stands test u)
    (reason : MoveReason) : (s.stopped ts).safetyStop reason test u = s.stopped (ts ++ [u]) := by
  have hrec : stoppedStanding (s.stopped ts) u = stoppedStanding s u := by
    simp only [stoppedStanding, stopped_tier hu]
    rfl
  have hrep : stopReports (s.stopped ts) [u] = stopReports s [u] := by
    have hrel : released (s.stopped ts) u = released s u := by simp only [released, stopped_tier hu]
    simp only [stopReports, List.filter_cons, List.filter_nil, hrel]
  have hroom : (s.stopped ts).Room 1 :=
    (told_room _ _ _).mpr (room_mono hr (Nat.add_le_add_right (stopReports_length s ts) 1))
  have hstands : (s.stopped ts).Stands test u := by simpa only [State.Stands, stopped_tier hu] using h
  rw [safetyStop_standing hroom hstands reason, hrec, hrep, State.stopped, told_modTier, withRecords_modTier hu rfl, told_told]
  simp only [State.stopped, stopReports, List.filter_append, List.map_append]

/-- No tier stands twice in a list without doubles. -/
theorem not_mem_beginning {α : Type} {l pre post : List α} {a : α} (hnd : l.Nodup) (hl : l = pre ++ a :: post) :
    a ∉ pre := by
  rw [hl, List.nodup_append] at hnd
  exact fun hmem => hnd.2.2 a hmem a List.mem_cons_self rfl

end Standing

/-! ### Show lock (R174) -/

section ShowLock

variable {s : State} {x : BitVec 16}

/-- The low bits of a tier set name the same tiers. -/
theorem lowTiers_getLsbD (x : BitVec 16) (t : Tier) : (lowTiers x).getLsbD t = x.getLsbD t := by
  rw [lowTiers, BitVec.getLsbD_extractLsb', decide_eq_true t.isLt, Bool.true_and, Nat.zero_add]

/-- The installed tiers that a tier set locks newly (R174). -/
def State.newlyLocked (s : State) (x : BitVec 16) : List Tier :=
  s.installedTiers.filter fun (t : Tier) => x.getLsbD t && !s.fsu.showLock.getLsbD t

theorem mem_newlyLocked {t : Tier} :
    t ∈ s.newlyLocked x ↔ s.installed t = true ∧ x.getLsbD t = true ∧ s.fsu.showLock.getLsbD t = false := by
  simp [State.newlyLocked, mem_installedTiers]

theorem newlyLocked_length (s : State) (x : BitVec 16) : (s.newlyLocked x).length ≤ 12 :=
  (List.length_filter_le _ _).trans (installedTiers_length s)

/-- The show stop of a further tier that no entry names (R174). -/
theorem stopped_showStop {ts : List Tier} {u : Tier} (hu : u ∉ ts) (hr : s.Room (ts.length + 1)) (h : s.Stands false u)
    (hq : s.aa.queue = []) : (s.stopped ts).showStop u = s.stopped (ts ++ [u]) := by
  have hent : (s.stopped (ts ++ [u])).entryOf u = none := by
    show s.aa.queue.find? _ = none
    rw [hq]
    rfl
  rw [State.showStop, stopped_safetyStop hu hr h, removeEntryOf_of_none hent]

/-- SHOW-LOCK of standing tiers stops each newly locked one, in ascending order (R174). -/
theorem addShow_standing (hr : s.Room 12) (hq : s.aa.queue = []) (h : ∀ t, s.installed t = true → s.Stands false t) :
    s.addShow (lowTiers x) = (s.showLocked (lowTiers x)).stopped (s.newlyLocked x) := by
  have hlen := newlyLocked_length s x
  have hfold : (s.newlyLocked x).foldl State.showStop ((s.showLocked (lowTiers x)).stopped []) =
      (s.showLocked (lowTiers x)).stopped (s.newlyLocked x) := by
    refine foldl_of_beginnings (State.stopped _) _ fun pre u post hl => ?_
    have hmem : u ∈ s.newlyLocked x := by simp [hl]
    have hpre : pre.length + 1 ≤ 12 := by
      rw [hl, List.length_append, List.length_cons] at hlen
      omega
    exact stopped_showStop (not_mem_beginning ((installedTiers_nodup s).filter _) hl) (room_mono hr hpre)
      (h u (mem_newlyLocked.mp hmem).1) hq
  rw [← hfold, stopped_nil]
  simp only [State.addShow, lowTiers_getLsbD]
  rfl

end ShowLock

/-- Settles O29: the refusal, and the show stops of the newly locked tiers in turn. -/
theorem showLockStops : Obligations.ShowLockStops := by
  refine fun tag x s h => ⟨fun hx => ?range, fun hx hr hq hst => ?taken⟩
  case range =>
    have hserve : s.serveShowLock x = s.refuse .range := if_pos (aboveTiers_of_le hx)
    exact request_same h hserve (by decide)
  case taken =>
    have hserve : s.serveShowLock x = State.accept ((s.showLocked (lowTiers x)).stopped (s.newlyLocked x)) := by
      rw [State.serveShowLock, if_neg (by simp [not_aboveTiers hx]),
        addShow_standing hr hq fun t hi => ⟨(hst t hi).1, (hst t hi).2, by simp⟩]
    have hreports : stopReports (s.showLocked (lowTiers x)) (s.newlyLocked x) =
        (s.installedTiers.filter fun (t : Tier) =>
          x.getLsbD t && !s.fsu.showLock.getLsbD t && released s t).map fun t => .tierState t .securing := by
      rw [stopReports, State.newlyLocked, List.filter_filter]
      refine congrArg (List.map _) (List.filter_congr fun t _ => ?_)
      exact Bool.and_comm _ _
    refine ⟨(s.withRecords (s.newlyLocked x) (stoppedStanding s)).tiers, fun t => ?_, ?_⟩
    · have htier := withRecords_tier s (s.newlyLocked x) (stoppedStanding s) t
      simp only [mem_newlyLocked] at htier
      exact htier
    · rw [← hreports]
      exact request_next h hserve (by decide) rfl

/-! ### Fail-safe (R171, R173) -/

section Failsafe

variable {s : State} {c : Cause}

/-- A standing tier moves with no other (R40). -/
theorem gangOf_stopped {ts : List Tier} {u : Tier} (hu : u ∉ ts) (h : (s.tier u).move = none) :
    (s.stopped ts).gangOf u = [u] :=
  gangOf_of_no_move (by rw [stopped_tier hu, h])

/-- The stops of fail-safe in a hall of standing tiers without moves, in ascending order (R171). -/
theorem failsafeStops_standing (hr : s.Room 12)
    (h : ∀ t, s.installed t = true → s.Stands true t ∧ (s.tier t).move = none) :
    s.failsafeStops = s.stopped s.installedTiers := by
  refine eachGang_of_prefixes s.stopped (stopped_nil s) (installedTiers_nodup s) fun pre u post hts => ?_
  have hnew := not_mem_beginning (installedTiers_nodup s) hts
  have hlen := installedTiers_length s
  have hpre : pre.length + 1 ≤ 12 := by
    rw [hts, List.length_append, List.length_cons] at hlen
    omega
  obtain ⟨hstands, hmove⟩ := h u (mem_installedTiers.mp (by simp [hts]))
  exact ⟨gangOf_stopped hnew hmove, stopped_safetyStop hnew (room_mono hr hpre) hstands _⟩

/-- Fail-safe in a hall of standing tiers without moves or entries: the stops and the FAILSAFE report (R171). -/
theorem enterFailsafe_standing (hf : s.fsu.failsafe = none) (hq : s.aa.queue = []) (hr : s.Room 13)
    (hc : s.convActive = false) (h : ∀ t, s.installed t = true → s.Stands true t ∧ (s.tier t).move = none) :
    s.enterFailsafe c = (((s.failsafed c).useFree).withRecords s.installedTiers (stoppedStanding s)).told
      (stopReports s s.installedTiers ++ [.failsafe true c]) := by
  have hstops := failsafeStops_standing (s := s.failsafed c) (room_mono hr (by decide)) h
  have hlen := (stopReports_length s s.installedTiers).trans (installedTiers_length s)
  have hqueue : ((s.failsafed c).withRecords s.installedTiers (stoppedStanding s)).aa.queue = [] := hq
  have henter := enterFailsafe_eq (y := (s.failsafed c).withRecords s.installedTiers (stoppedStanding s)) hf hstops hc
    (by simp [hqueue]) (by rw [hqueue]; exact room_mono hr (Nat.add_le_add_right hlen 1))
  rw [henter, flushed_of_empty (by exact hqueue), hqueue]
  rfl

/-- The running watchdog timer runs out (R169). -/
theorem expireWatchdog_running {ms : Nat} (h : s.fsu.watchdog = .running ms) :
    s.expireWatchdog = ({ s with fsu := { s.fsu with watchdog := .expired } } : State).enterFailsafe .watchdog := by
  rw [State.expireWatchdog, h]

end Failsafe

/-- Settles O27: the stops of fail-safe in turn, from the request and from the timer, and the end of fail-safe. -/
theorem failsafeStops : Obligations.FailsafeStops := by
  have hstands {s : State} (hst : ∀ t, s.installed t = true →
      (s.tier t).state ∉ [.moving, .paused, .testing] ∧ (s.tier t).move = none) (t : Tier) (hi : s.installed t = true) :
      s.Stands true t ∧ (s.tier t).move = none := by
    simpa [State.Stands, and_assoc] using hst t hi
  refine ⟨fun tag s hf hq hroom hc hst => ⟨(s.withRecords s.installedTiers (stoppedStanding s)).tiers, fun t => ?tier,
    fun h => ?forced, fun ms hrun hw => ?expiry⟩, fun tag s h hroom => ⟨fun c hc => ⟨?cleared, ?again⟩, fun hf => ?inactive⟩⟩
  case tier =>
    have htier := withRecords_tier s s.installedTiers (stoppedStanding s) t
    simp only [mem_installedTiers] at htier
    exact htier
  case forced =>
    have henter := enterFailsafe_standing (c := .forced) hf hq hroom hc (hstands hst)
    exact request_next h (congrArg State.accept henter) (by decide) rfl
  case expiry =>
    have henter := enterFailsafe_standing (s := { s with fsu := { s.fsu with watchdog := .expired } }) (c := .watchdog)
      hf hq hroom hc (hstands hst)
    exact during_reported hrun ((expireWatchdog_running hw).trans henter)
  case cleared =>
    have hserve : s.serveClearFailsafe = State.accept ((({ s with
        fsu := { s.fsu with failsafe := none } } : State).trigger).told [.failsafe false c]) := by
      rw [State.serveClearFailsafe, hc]
      exact congrArg (fun y : State => y.trigger.accept)
        (report_eq_told (s := { s with fsu := { s.fsu with failsafe := none } }) hroom)
    exact request_next h hserve (by decide) rfl
  case again =>
    have hserve : s.serveForce = s.accept := by simp [State.serveForce, State.enterFailsafe, hc]
    exact request_same h hserve (by decide)
  case inactive =>
    have hserve : s.serveClearFailsafe = s.accept := by rw [State.serveClearFailsafe, hf]
    exact request_same h hserve (by decide)

end Sys2Proof.Machine
end

section
/-! PROOFS. SITE-SET (R16, R170, R184, R185): the site record it carries, its refusals, tiers that join an empty hall, and the one
tier of a hall that leaves it. -/

namespace Sys2Proof.Machine

/-! ### The site record and the refusals (R16, R184, R185) -/

section Record

variable {s : State} {m : SiteMsg}

theorem watchdogOfCode_none {b : Byte} (h : 8 < b.toNat) : watchdogOfCode b = none := by
  unfold watchdogOfCode
  split
  case h_10 => rfl
  all_goals omega

/-- A site record with a field out of its range (R184). -/
theorem siteOf_none (h : 4096 ≤ m.installed.toNat ∨ 4096 ≤ m.showLock.toNat ∨ 4096 ≤ m.masks.toNat ∨ m.creep = 0 ∨
    16 < m.boundary.toNat ∨ 8 < m.watchdog.toNat) : siteOf m = none := by
  unfold siteOf
  split
  case h_1 => rfl
  case h_2 w hw =>
    refine if_pos ?_
    rcases h with h | h | h | h | h | h
    · simp [aboveTiers_of_le h]
    · simp [aboveTiers_of_le h]
    · simp [aboveTiers_of_le h]
    · simp [h]
    · simp [h]
    · rw [watchdogOfCode_none h] at hw
      cases hw

/-- The site record of a SITE-SET whose fields lie in their ranges (R184). -/
def siteRecord (m : SiteMsg) (w : WatchdogSetting) : Site where
  installed := lowTiers m.installed
  watchdog := w
  creep := m.creep.toNat
  budget := min 1023 m.budget
  showLock := lowTiers m.showLock
  boundary := m.boundary.toNat
  masks := lowTiers m.masks

theorem siteOf_some {w : WatchdogSetting} (hi : m.installed.toNat < 4096) (hl : m.showLock.toNat < 4096)
    (hm : m.masks.toNat < 4096) (hc : m.creep ≠ 0) (hb : m.boundary.toNat ≤ 16) (hw : watchdogOfCode m.watchdog = some w) :
    siteOf m = some (siteRecord m w) := by
  simp only [siteOf, hw, not_aboveTiers hi, not_aboveTiers hl, not_aboveTiers hm, hc, Nat.not_lt.mpr hb, decide_false,
    Bool.or_false, Bool.false_eq_true, if_false]
  rfl

theorem serveSite_once (h : s.siteSetTaken = true) : s.serveSite m = s.refuse .once := if_pos h

theorem serveSite_range (h : s.siteSetTaken = false) (hm : siteOf m = none) : s.serveSite m = s.refuse .range := by
  rw [State.serveSite, if_neg (by simp [h]), hm]

/-- The first SITE-SET whose record is legal is refused BUSY in a hall that is not at rest (R16, R185). -/
theorem serveSite_first {x : Site} (h : s.siteSetTaken = false) (hm : siteOf m = some x) :
    s.serveSite m = if s.installedTiers.all s.atRest then (s.takeSite x).accept else s.refuse .busy := by
  rw [State.serveSite, if_neg (by simp [h]), hm]

theorem not_all_atRest {t : Tier} (hi : s.installed t = true) (hst : (s.tier t).state ∉ [.secured, .unsynced]) :
    s.installedTiers.all s.atRest = false := by
  rw [List.all_eq_false]
  exact ⟨t, mem_installedTiers.mpr hi, fun h => hst (atRest_iff.mp h)⟩

end Record

/-! ### Tiers that join (R16, R20, R154) -/

section Join

variable {s : State} {ts : List Tier} {u : Tier}

/-- The state in which the link record of each tier of a list starts anew (R154). -/
def State.withFreshLinks (s : State) (ts : List Tier) : State :=
  { s with dlp := { s.dlp with links := Vector.ofFn fun u => if u ∈ ts then LinkRec.reset else s.link u } }

theorem withFreshLinks_link (s : State) (ts : List Tier) (u : Tier) :
    (s.withFreshLinks ts).link u = if u ∈ ts then LinkRec.reset else s.link u := by
  simp [State.withFreshLinks, State.link, Vector.get_eq_getElem]

theorem withFreshLinks_nil (s : State) : s.withFreshLinks [] = s := by
  have hlinks : (Vector.ofFn fun u => s.link u) = s.dlp.links := by
    ext1 i hi
    simp [State.link, Vector.get_eq_getElem]
  simp [State.withFreshLinks, hlinks]

theorem withFreshLinks_modLink :
    (s.withFreshLinks ts).modLink u (fun _ => LinkRec.reset) = s.withFreshLinks (ts ++ [u]) := by
  have hlinks : (s.withFreshLinks ts).dlp.links.set u LinkRec.reset = (s.withFreshLinks (ts ++ [u])).dlp.links := by
    ext1 i hi
    by_cases h : u.val = i
    · subst h; simp [State.withFreshLinks]
    · have hne : (⟨i, hi⟩ : Tier) ≠ u := fun e => h (congrArg Fin.val e).symm
      simp [State.withFreshLinks, Vector.getElem_set_ne, h, hne]
  exact congrArg (fun v => { s with dlp := { s.dlp with links := v } }) hlinks

/-- The record of a tier that joins or leaves the installed set (R16). -/
def State.freshRecord (s : State) (t : Tier) : TierRec := TierRec.reset (s.tier t).brakeWeak

/-- The state in which each tier of a list has joined the installed set, with the reports (R16). -/
def State.joined (s : State) (ts : List Tier) : State :=
  ((s.withRecords ts s.freshRecord).withFreshLinks ts).told (ts.map fun t => .tierState t .unsynced)

theorem joined_nil (s : State) : s.joined [] = s := by
  rw [State.joined, withRecords_nil, withFreshLinks_nil]
  exact told_nil s

/-- A further tier joins (R16, R20, R154). -/
theorem joined_addTier (hu : u ∉ ts) (hr : s.Room (ts.length + 1)) : (s.joined ts).addTier u = s.joined (ts ++ [u]) := by
  have hroom : (s.joined ts).Room 1 := (told_room _ _ _).mpr (by rw [List.length_map]; exact hr)
  have hrecord : (s.withRecords ts s.freshRecord).modTier u (fun r => TierRec.reset r.brakeWeak) =
      s.withRecords (ts ++ [u]) s.freshRecord := withRecords_modTier hu rfl
  have hadd : (s.joined ts).addTier u = (((s.joined ts).modTier u fun r => TierRec.reset r.brakeWeak).modLink u
      fun _ => LinkRec.reset).told [.tierState u .unsynced] := report_eq_told hroom
  have hmod : ((s.withRecords ts s.freshRecord).withFreshLinks ts).modTier u (fun r => TierRec.reset r.brakeWeak) =
      (s.withRecords (ts ++ [u]) s.freshRecord).withFreshLinks ts := congrArg (fun y => y.withFreshLinks ts) hrecord
  rw [hadd, State.joined, told_modTier, hmod, told_modLink, withFreshLinks_modLink, told_told, State.joined,
    List.map_append]
  rfl

/-- The tiers of a list join one after another (R16). -/
theorem foldl_addTier (hnd : ts.Nodup) (hr : s.Room ts.length) : ts.foldl State.addTier s = s.joined ts := by
  have hfold := foldl_of_beginnings (f := State.addTier) s.joined ts fun pre u post hl =>
    joined_addTier (not_mem_beginning hnd hl) (room_mono hr (by simp [hl]))
  rwa [joined_nil] at hfold

end Join

/-! ### A SITE-SET taken (R16, R59, R170) -/

section Taken

variable {s : State} {x : Site} {t : Tier}

/-- The state with a new running site record, and the watchdog timer as its setting has it (R170, R184). -/
def State.sited (s : State) (x : Site) : State :=
  { s with site := x, siteSetTaken := true, fsu := { s.fsu with watchdog := s.fsu.watchdog.resetFor x.watchdog } }

/-- A hall without installed tiers has none at work. -/
theorem installedTiers_of_none (h : s.site.installed = 0) : s.installedTiers = [] := by
  simp [State.installedTiers, State.installed, h]

/-- SITE-SET on a hall without installed tiers: its tiers join (R16). -/
theorem takeSite_empty (h : s.site.installed = 0) (hr : s.Room 12) :
    s.takeSite x = ((s.sited x).joined (allTiers.filter fun (t : Tier) => x.installed.getLsbD t)).trigger := by
  have hnone (t : Tier) : s.installed t = false := by simp [State.installed, h]
  have hjoin := foldl_addTier (s := s.sited x) (ts := allTiers.filter fun (t : Tier) => x.installed.getLsbD t)
    (allTiers_nodup.filter _) (room_mono hr (List.length_filter_le _ _))
  simp only [State.takeSite, installedTiers_of_none h, List.filter_nil, List.foldl_nil, hnone, Bool.not_false, Bool.and_true]
  rw [← hjoin]
  rfl

/-- The tiers that a SITE-SET names (R184). -/
def newcomers (m : SiteMsg) : List Tier := allTiers.filter fun (t : Tier) => m.installed.getLsbD t

theorem mem_newcomers {m : SiteMsg} : t ∈ newcomers m ↔ m.installed.getLsbD t = true := by
  simp [newcomers, mem_allTiers]

/-- What a SITE-SET on a hall without installed tiers leaves (R16, R154, R170). -/
theorem takeSite_joined {m : SiteMsg} {w : WatchdogSetting} (h : s.site.installed = 0) (hr : s.Room 12) :
    s.takeSite (siteRecord m w) = ({ s with
      site := siteRecord m w
      siteSetTaken := true
      tiers := (s.withRecords (newcomers m) s.freshRecord).tiers
      dlp := { s.dlp with links := (s.withFreshLinks (newcomers m)).dlp.links }
      fsu := { s.fsu with watchdog := s.fsu.watchdog.resetFor w }
      aa := { s.aa with scansDue := s.aa.scansDue + 1 } } : State).told
        ((newcomers m).map fun t => .tierState t .unsynced) := by
  have hnames (t : Tier) : (siteRecord m w).installed.getLsbD t = m.installed.getLsbD t := lowTiers_getLsbD _ t
  rw [takeSite_empty h hr]
  simp only [hnames, State.joined, State.withRecords, State.withFreshLinks, State.sited]
  rfl

theorem installedTiers_of_one (h : ∀ u, s.installed u = true ↔ u = t) : s.installedTiers = [t] := by
  have hone : allTiers.filter (fun u => decide (u = t)) = [t] := by fin_cases t <;> decide
  rw [State.installedTiers, ← hone]
  exact List.filter_congr fun u _ => by rw [Bool.eq_iff_iff, h, decide_eq_true_iff]

/-- SITE-SET that removes the one tier of a hall (R16). -/
theorem takeSite_removed (h : ∀ u, s.installed u = true ↔ u = t) (hx : x.installed = 0) :
    s.takeSite x = ((s.removeTier t).sited x).trigger := by
  have hgone : s.installedTiers.filter (fun (t : Tier) => !x.installed.getLsbD t) = [t] := by
    simp [installedTiers_of_one h, hx]
  simp only [State.takeSite, hgone, List.foldl_cons, List.foldl_nil]
  simp [hx]
  rfl

/-- A tier leaves: its cells become FREE, its records, its sample and its channel go (R16, R59, R139, R154). -/
def State.vacated (s : State) (t : Tier) : State :=
  ({ s with
    fm := s.fm.freeAll t
    lc := { s.lc with samples := s.lc.samples.set t .none, fifo := s.lc.fifo.filter fun c => decide (c.tier ≠ t) }
    dlp := { s.dlp with
      links := s.dlp.links.set t LinkRec.reset, txList := s.dlp.txList.filter fun r => decide (r.tier ≠ t) } } : State).modTier t
    fun r => TierRec.reset r.brakeWeak

/-- A tier that owns cells leaves the hall, while no conversion is followed, by what the removal of its entry leaves (R16, R98). -/
theorem removeTier_eq {y : State} {rs : List Report} (hentry : s.removeEntryOf t .noTier = y.told rs)
    (hc : y.convActive = false) (ho : y.fm.ownsAny t = true) : s.removeTier t = (y.vacated t).trigger.told rs := by
  have hconv : (y.told rs).convTierRemoved t = y.told rs := by
    have hidle : (y.told rs).convActive = false := hc
    simp [State.convTierRemoved, hidle]
  have howns : (y.told rs).fm.ownsAny t = true := ho
  simp only [State.removeTier, hentry, hconv, howns, if_true]
  rfl

/-- The queue whose one entry, if any, is a tier's own of LINK origin loses it, with its report (R98). -/
theorem removeEntryOf_only {q : List Entry} (hr : s.Room 1)
    (hq : s.aa.queue = [] ∧ q = [] ∨ ∃ e, s.aa.queue = [e] ∧ e.tier = t ∧ e.origin = .link ∧ q = [e]) (c : Code) :
    s.removeEntryOf t c = ({ s with
      aa := { s.aa with queue := [], scansDue := s.aa.scansDue + q.length } } : State).told
        (q.map fun e => .requestDropped e.tier e.members e.kind .link c) := by
  rcases hq with ⟨hempty, rfl⟩ | ⟨e, hone, ht, ho, rfl⟩
  · have hent : s.entryOf t = none := by rw [State.entryOf, hempty, List.find?_nil]
    have hsame : ({ s with aa := { s.aa with queue := [], scansDue := s.aa.scansDue + 0 } } : State) = s := by
      rw [← hempty]
      rfl
    rw [removeEntryOf_of_none hent, List.map_nil, told_nil]
    exact hsame.symm
  · have hnames : e.names t = true := by simp [Entry.names, Entry.tiers, ht]
    have hent : s.entryOf t = some e := by simp [State.entryOf, hone, hnames]
    rw [removeEntryOf_link hr hent ho, State.unqueue, hone, List.erase_cons_head]
    rfl

end Taken

/-- Settles O32: the refusals in their order, the tiers that join an empty hall, and the one tier that leaves. -/
theorem siteSetTaken : Obligations.SiteSetTaken := by
  refine fun tag m s h => ⟨fun honce => ?once, fun hfirst hbad => ?range,
    fun w x y hfirst hinst hshow hmasks hcreep hbound hw hx hy => ?legal⟩
  case once => exact request_same h (serveSite_once honce) (by decide)
  case range => exact request_same h (serveSite_range hfirst (siteOf_none hbad)) (by decide)
  case legal =>
    obtain rfl : x = siteRecord m w := hx
    obtain rfl : y = s.fsu.watchdog.resetFor w := by
      rw [hy]
      cases s.fsu.watchdog <;> cases w <;> rfl
    have hserve := serveSite_first hfirst (siteOf_some hinst hshow hmasks hcreep hbound hw)
    refine ⟨fun ⟨t, hi, hst⟩ => ?busy, fun hnone hroom => ?joins, fun t q hroom hone hzero hst hc ho hq => ?leaves⟩
    case busy => exact request_same h (hserve.trans (if_neg (by simp [not_all_atRest hi hst]))) (by decide)
    case joins =>
      have hrest : s.installedTiers.all s.atRest = true := by simp [installedTiers_of_none hnone]
      have hserved := (hserve.trans (if_pos hrest)).trans (congrArg State.accept (takeSite_joined hnone hroom))
      refine ⟨_, _, fun t => ?_, fun t => ?_, request_next h hserved (by decide) rfl⟩
      · have htier := withRecords_tier s (newcomers m) s.freshRecord t
        simp only [mem_newcomers] at htier
        exact htier
      · have hlink := withFreshLinks_link s (newcomers m) t
        simp only [mem_newcomers] at hlink
        exact hlink
    case leaves =>
      have hrest : s.installedTiers.all s.atRest = true := by
        simp [installedTiers_of_one hone, State.atRest, hst]
      have htake : s.takeSite (siteRecord m w) = _ := takeSite_removed hone (by simp [siteRecord, hzero, lowTiers])
      rw [removeTier_eq (removeEntryOf_only hroom hq .noTier) hc ho] at htake
      have hcount : s.aa.scansDue + 2 + q.length = s.aa.scansDue + q.length + 1 + 1 := by omega
      rw [hcount]
      exact request_next h ((hserve.trans (if_pos hrest)).trans (congrArg State.accept htake)) (by decide) rfl

end Sys2Proof.Machine
end

section
/-! PROOFS. The bytes of a frame at the command link's framer (R177, R178), and what a frame that is complete does: its action on
the watchdog, and its handling, holding or discarding (R169, R179, R180). -/

namespace Sys2Proof.Machine

/-! ### The framer (R177, R178) -/

section Framer

variable {s : State} {len tag kind hi lo : Byte} {body : List Byte}

/-- The framer set to what it is. -/
theorem setFramer_self {x : Framer} (h : s.clp.framer = x) : s.setFramer x = s := by
  rw [← h]
  rfl

/-- The framer takes the body bytes that are left one by one, and then awaits the check value (R177). -/
theorem linkBytesIn_body {bs got : List Byte} (hne : bs ≠ []) (hlen : got.length + bs.length = len.toNat) :
    (s.setFramer (.body len tag kind got)).linkBytesIn bs = s.setFramer (.checkHigh len tag kind (got ++ bs)) := by
  induction bs generalizing got with
  | nil => exact absurd rfl hne
  | cons b bs ih =>
    have hbyte : (s.setFramer (.body len tag kind got)).linkByte b =
        s.setFramer (if (got ++ [b]).length < len.toNat then .body len tag kind (got ++ [b])
          else .checkHigh len tag kind (got ++ [b])) := rfl
    rw [State.linkBytesIn, List.foldl_cons, hbyte]
    cases bs with
    | nil =>
      rw [if_neg (by simp at hlen ⊢; omega)]
      rfl
    | cons c cs =>
      rw [if_pos (by simp at hlen ⊢; omega)]
      have hrest := ih (got := got ++ [b]) (by simp) (by simp at hlen ⊢; omega)
      rw [List.append_assoc] at hrest
      exact hrest

/-- The bytes of a frame up to its check value (R177). -/
theorem linkBytesIn_start (hf : s.clp.framer = .hunt) (hlen : len.toNat = body.length) (hbody : body.length ≤ 248) :
    s.linkBytesIn (0xA5 :: len :: tag :: kind :: body) = s.setFramer (.checkHigh len tag kind body) := by
  have hstart : s.linkByte 0xA5 = s.setFramer .length := by simp [State.linkByte, hf]
  have hlength : (s.setFramer .length).linkByte len = s.setFramer (.tag len) := by
    have hle : len.toNat ≤ 248 := by omega
    show (s.setFramer .length).setFramer (if len.toNat ≤ 248 then .tag len else .hunt) = _
    rw [if_pos hle]
    rfl
  have hkind : (s.setFramer (.kind len tag)).linkByte kind =
      s.setFramer (if len = 0 then .checkHigh len tag kind [] else .body len tag kind []) := rfl
  have hhead : s.linkBytesIn (0xA5 :: len :: tag :: kind :: body) =
      ((s.setFramer (.kind len tag)).linkByte kind).linkBytesIn body := by
    show ((((s.linkByte 0xA5).linkByte len).linkByte tag).linkByte kind).linkBytesIn body = _
    rw [hstart, hlength]
    rfl
  rw [hhead, hkind]
  by_cases hempty : body = []
  · have hzero : len = 0 := BitVec.eq_of_toNat_eq (by simp [hlen, hempty])
    rw [if_pos hzero, hempty]
    rfl
  · have hpos : len ≠ 0 := by
      rintro rfl
      exact hempty (List.length_eq_zero_iff.mp hlen.symm)
    rw [if_neg hpos]
    exact linkBytesIn_body hempty (by simp [hlen])

/-- The bytes of a frame: with its check value it is complete, and otherwise it does nothing (R177, R178). -/
theorem linkBytesIn_frame (hf : s.clp.framer = .hunt) (hlen : len.toNat = body.length) (hbody : body.length ≤ 248) :
    s.linkBytesIn (0xA5 :: len :: tag :: kind :: (body ++ [hi, lo])) =
      if setBytes (crc (len :: tag :: kind :: body)) = [hi, lo] then (s.completeFrame ⟨tag, kind, body⟩).kick else s := by
  have hsplit : s.linkBytesIn (0xA5 :: len :: tag :: kind :: (body ++ [hi, lo])) =
      (s.linkBytesIn (0xA5 :: len :: tag :: kind :: body)).linkBytesIn [hi, lo] := by
    rw [State.linkBytesIn, State.linkBytesIn, State.linkBytesIn, ← List.foldl_append]
    rfl
  have hcheck : (s.setFramer (.checkHigh len tag kind body)).linkBytesIn [hi, lo] =
      if setBytes (crc (len :: tag :: kind :: body)) = [hi, lo] then
        ((s.setFramer .hunt).completeFrame ⟨tag, kind, body⟩).kick
      else s.setFramer .hunt := rfl
  rw [hsplit, linkBytesIn_start hf hlen hbody, hcheck, setFramer_self hf]

/-- The bytes of a frame as sent make it complete (R177, R178). -/
theorem linkBytesIn_frameBytes (hf : s.clp.framer = .hunt) (hbody : body.length ≤ 248) :
    s.linkBytesIn (frameBytes tag kind body) = (s.completeFrame ⟨tag, kind, body⟩).kick := by
  have hlen : (BitVec.ofNat 8 body.length).toNat = body.length := by
    rw [BitVec.toNat_ofNat]
    omega
  exact (linkBytesIn_frame hf hlen hbody).trans (if_pos rfl)

/-- VALID_FRAME with the bytes of a frame as sent. -/
theorem exec_frameBytes (hrun : s.phase = .running) (hf : s.clp.framer = .hunt) (hbody : body.length ≤ 248) :
    exec (.validFrame (frameBytes tag kind body)) s = .next (s.completeFrame ⟨tag, kind, body⟩).kick := by
  have hexec : exec (.validFrame (frameBytes tag kind body)) s =
      s.during fun x => x.linkBytesIn (frameBytes tag kind body) := rfl
  rw [hexec, during_next hrun, linkBytesIn_frameBytes hf hbody, State.kick_kick]

end Framer

/-! ### A complete frame (R169, R179, R180) -/

section Complete

variable {s : State} {f : Frame}

/-- The action of a valid frame on the watchdog (R169). -/
theorem kickWatchdog_eq_watched (s : State) : s.kickWatchdog = s.watched := by
  cases hw : s.site.watchdog with
  | off => simp [State.kickWatchdog, State.watched, hw]
  | timed ms => simp [State.kickWatchdog, State.watched, hw]
  | immediate =>
    cases hf : s.fsu.failsafe with
    | none => simp [State.kickWatchdog, State.watched, hw, hf]
    | some c => simp [State.kickWatchdog, State.watched, State.enterFailsafe, hw, hf]

theorem completeFrame_handled (hi : s.clp.restart = .none) (hr : s.clp.replies.length < 8) :
    s.completeFrame f = s.watched.handle f := by
  rw [State.completeFrame, if_neg (by simp [hi]), if_pos hr, kickWatchdog_eq_watched]

theorem completeFrame_held (hi : s.clp.restart = .none) (hr : 8 ≤ s.clp.replies.length) (hh : s.clp.hold.length < 4) :
    s.completeFrame f = s.watched.modPort fun p => p.keep f := by
  rw [State.completeFrame, if_neg (by simp [hi]), if_neg (Nat.not_lt.mpr hr), if_pos hh, kickWatchdog_eq_watched]

theorem completeFrame_overrun (hi : s.clp.restart = .none) (hr : 8 ≤ s.clp.replies.length) (hh : 4 ≤ s.clp.hold.length) :
    s.completeFrame f = s.modPort fun p => { p with rxOverrun := true } := by
  rw [State.completeFrame, if_neg (by simp [hi]), if_neg (Nat.not_lt.mpr hr), if_neg (Nat.not_lt.mpr hh)]

/-- A frame that asks nothing the catalogue has is answered with the status alone (R180). -/
theorem handle_error {c : Code} (h : parseFrame f = .error c) :
    (s.handle f).kick = s.replied f.tag (replyKind f.kind c) c [] [] := by
  simp [State.handle, h, State.kick, State.modPort, LinkPort.push, State.replied, LinkPort.after]

theorem parseFrame_unknown (h : catalogueLength f.kind = none) : parseFrame f = .error .unknown := by
  rw [parseFrame, h]

theorem parseFrame_length {n : Nat} (h : catalogueLength f.kind = some n) (hn : f.body.length ≠ n) :
    parseFrame f = .error .length := by
  simp [parseFrame, h, hn]

/-- An UNKNOWN reply takes KIND FFh where the request's KIND would give a report's (R180). -/
theorem replyKind_unknown (k : Byte) :
    replyKind k .unknown = if 0x40 ≤ k.toNat ∧ k.toNat ≤ 0x4C then 0xFF else k + 0x80 := by
  have hsum : (k + 0x80).toNat = (k.toNat + 128) % 256 := BitVec.toNat_add k 0x80
  have hk := k.isLt
  have hiff : (0xC0 ≤ (k + 0x80).toNat ∧ (k + 0x80).toNat ≤ 0xCC) ↔ 0x40 ≤ k.toNat ∧ k.toNat ≤ 0x4C := by omega
  simp only [replyKind, decide_true, Bool.true_and, decide_eq_true_iff, hiff]

end Complete

/-- Settles O4: a complete frame by the room that it finds, one with a wrong check value, and the events that send the framers
hunting. -/
theorem frameOutcomes : Obligations.FrameOutcomes := by
  refine ⟨fun tag kind body s hrun hi hf hbody => ⟨fun hr hk => ?unknown, fun n hr hk hn => ?length, fun hr hh => ?held,
      fun hr hh => ?overrun⟩, fun len tag kind hi lo body s hrun hf hlen hbody hbad => ?wrong,
    fun s hrun => ⟨during_next hrun _, during_next hrun _, fun hf => ?above, ?gap, ?stop⟩,
    fun s hstart => ⟨duringDrive_startUp hstart _, duringDrive_startUp hstart _⟩⟩
  case unknown =>
    rw [exec_frameBytes hrun hf hbody, completeFrame_handled hi hr, handle_error (parseFrame_unknown hk), replyKind_unknown]
  case length =>
    rw [exec_frameBytes hrun hf hbody, completeFrame_handled hi hr, handle_error (parseFrame_length hk hn),
      replyKind_of_ne (by decide)]
  case held =>
    rw [exec_frameBytes hrun hf hbody, completeFrame_held hi hr hh]
    rfl
  case overrun =>
    rw [exec_frameBytes hrun hf hbody, completeFrame_overrun hi hr hh]
    rfl
  case wrong =>
    refine (during_next (f := fun x => x.linkBytesIn _) hrun).trans ?_
    rw [linkBytesIn_frame hf hlen hbody, if_neg hbad]
    rfl
  case above =>
    have hbad : s.badLength = s.setFramer .hunt := if_pos hf
    refine (during_next (f := State.badLength) hrun).trans ?_
    rw [hbad]
    rfl
  case gap => exact (duringDrive_during (by simp [hrun]) _).trans (during_next hrun _)
  case stop => exact (duringDrive_during (by simp [hrun]) _).trans (during_next hrun _)

end Sys2Proof.Machine
end

section
/-! PROOFS. A well-formed request read back from the body of the frame that carries it (R180, the request catalogue). -/

namespace Sys2Proof.Machine

/-! ### Bytes, sets and flags -/

section Bytes

/-- A sixteen-bit set is read back from its two bytes. -/
theorem set16_setBytes (x : BitVec 16) : set16 (x.extractLsb' 8 8) (x.extractLsb' 0 8) = x := by
  apply BitVec.eq_of_getLsbD_eq
  intro i hi
  simp only [set16, BitVec.getLsbD_append, BitVec.getLsbD_extractLsb']
  split
  · simp_all
  · have h8 : i - 8 < 8 := by omega
    have hi8 : 8 + (i - 8) = i := by omega
    simp [h8, hi8]

/-- A number of one byte is read back. -/
theorem toNat_u8 {n : Nat} (h : n < 256) : (BitVec.ofNat 8 n).toNat = n := by
  rw [BitVec.toNat_ofNat]
  omega

/-- The flags of a byte with four of them are read back. -/
theorem bits_getLsbD (a b c d : Bool) :
    (bits [(0, a), (1, b), (2, c), (3, d)]).getLsbD 0 = a ∧ (bits [(0, a), (1, b), (2, c), (3, d)]).getLsbD 1 = b ∧
      (bits [(0, a), (1, b), (2, c), (3, d)]).getLsbD 2 = c ∧ (bits [(0, a), (1, b), (2, c), (3, d)]).getLsbD 3 = d := by
  revert a b c d
  decide

/-- The two flags of a ROUTE are read back. -/
theorem walkFlags_getLsbD (auto maint : Bool) :
    (bits [(2, auto), (3, maint)]).getLsbD 2 = auto ∧ (bits [(2, auto), (3, maint)]).getLsbD 3 = maint := by
  revert auto maint
  decide

/-- The presence flag and the direction of a flag byte are read back. -/
theorem flagDir_getLsbD (b : Bool) (d : BitVec 2) : (flagDir b d).getLsbD 0 = b ∧ dirBits (flagDir b d) = d := by
  revert b d
  decide

/-- The bytes before a place do not matter. -/
theorem byteAt_append (pre bs : List Byte) (i : Nat) : byteAt (pre ++ bs) (pre.length + i) = byteAt bs i := by
  simp [byteAt, List.getD_eq_getElem?_getD, List.getElem?_append_right]

theorem byteAt_append_left {pre : List Byte} (bs : List Byte) {i : Nat} (h : i < pre.length) :
    byteAt (pre ++ bs) i = byteAt pre i := by
  simp [byteAt, List.getD_eq_getElem?_getD, List.getElem?_append_left h]

end Bytes

/-! ### The bodies -/

section Bodies

/-- The fields of a MOVE or GANG-MOVE are read back. -/
theorem moveArgsOf_moveArgsBytes {a : MoveArgs} (h : a.wf = true) : moveArgsOf (moveArgsBytes a) 0 = a := by
  obtain ⟨slew, tilt, auto, maint, dir⟩ := a
  obtain ⟨h0, h1, h2, h3⟩ := bits_getLsbD slew.isSome tilt.isSome auto maint
  have hslew : (if slew.isSome = true then some (slewAt (moveArgsBytes ⟨slew, tilt, auto, maint, dir⟩) 2) else none) = slew := by
    cases slew with
    | none => rfl
    | some p => exact congrArg some (slewOf_u24 p)
  have htilt : (if tilt.isSome = true then some (num16 (moveArgsBytes ⟨slew, tilt, auto, maint, dir⟩) 5) else none) = tilt := by
    cases tilt with
    | none => rfl
    | some n => exact congrArg some (n16_u16 (of_decide_eq_true h))
  have hflags : byteAt (moveArgsBytes ⟨slew, tilt, auto, maint, dir⟩) 0 =
      bits [(0, slew.isSome), (1, tilt.isSome), (2, auto), (3, maint)] := rfl
  simp only [moveArgsOf, hflags, h0, h1, h2, h3, Nat.zero_add, hslew, htilt]
  rfl

/-- A site record is read back. -/
theorem siteMsgOf_siteMsgBytes {m : SiteMsg} (h : m.budget < 65536) : siteMsgOf (siteMsgBytes m) = m := by
  have hbudget : num16 (siteMsgBytes m) 4 = m.budget := n16_u16 h
  have hinst : set16 (byteAt (siteMsgBytes m) 0) (byteAt (siteMsgBytes m) 1) = m.installed := set16_setBytes _
  have hshow : set16 (byteAt (siteMsgBytes m) 6) (byteAt (siteMsgBytes m) 7) = m.showLock := set16_setBytes _
  have hmasks : set16 (byteAt (siteMsgBytes m) 9) (byteAt (siteMsgBytes m) 10) = m.masks := set16_setBytes _
  rw [siteMsgOf, hbudget, hinst, hshow, hmasks]
  rfl

/-- A zone record is read back. -/
theorem zoneMsgOf_zoneMsgBytes (z : ZoneMsg) : zoneMsgOf (zoneMsgBytes z) = z := by
  obtain ⟨enable, noStop, base, mask, classes, mode, trip⟩ := z
  have hflags : (bits [(0, enable), (1, noStop)]).getLsbD 0 = enable ∧ (bits [(0, enable), (1, noStop)]).getLsbD 1 = noStop := by
    revert enable noStop
    decide
  obtain ⟨h0, h1⟩ := hflags
  have hbyte : byteAt (zoneMsgBytes ⟨enable, noStop, base, mask, classes, mode, trip⟩) 0 =
      bits [(0, enable), (1, noStop)] := rfl
  simp only [zoneMsgOf, hbyte, h0, h1]
  rfl

/-- A set waypoint is read back. -/
theorem waypoint_back {w : WaypointMsg} (h : w.wf = true) (t n : Byte) :
    requestOfBody 0x0B (requestBytes (.routePut t n (some w))).2 = some (.routePut t n (some w)) := by
  obtain ⟨hflag, hdir⟩ := flagDir_getLsbD true w.dir
  have hslew : slewAt (requestBytes (.routePut t n (some w))).2 3 = w.slew := slewOf_u24 _
  have htilt : num16 (requestBytes (.routePut t n (some w))).2 6 = w.tilt := n16_u16 (of_decide_eq_true h)
  have hbyte : byteAt (requestBytes (.routePut t n (some w))).2 2 = flagDir true w.dir := rfl
  have hbody : requestOfBody 0x0B (requestBytes (.routePut t n (some w))).2 =
      some (.routePut t n (if (byteAt (requestBytes (.routePut t n (some w))).2 2).getLsbD 0 then
        some ⟨dirBits (byteAt (requestBytes (.routePut t n (some w))).2 2), slewAt (requestBytes (.routePut t n (some w))).2 3,
          num16 (requestBytes (.routePut t n (some w))).2 6⟩ else none)) := rfl
  rw [hbody, hbyte, hflag, hdir, hslew, htilt]
  rfl

/-- A set of four extents is read back from its bytes, one for each tilt band (R10). -/
theorem extents_back {v : Vector Nat 4} (h : v.toList.all (fun x => decide (x < 256)) = true) :
    #v[(BitVec.ofNat 8 (v.get 0)).toNat, (BitVec.ofNat 8 (v.get 1)).toNat, (BitVec.ofNat 8 (v.get 2)).toNat,
      (BitVec.ofNat 8 (v.get 3)).toNat] = v := by
  have hfit (k : Fin 4) : (BitVec.ofNat 8 (v.get k)).toNat = v.get k := by
    have hall := List.all_eq_true.mp h (v.get k) (by simp [Vector.get_eq_getElem])
    exact toNat_u8 (of_decide_eq_true hall)
  simp only [hfit]
  refine Vector.ext fun i hi => ?_
  interval_cases i <;> rfl

/-- The 32 bytes of a profile record in their order (R10). -/
theorem profileBytes_eq (p : ProfileData) : profileBytes p =
    [.ofNat 8 (p.tare / 256), .ofNat 8 p.tare, .ofNat 8 (p.vacancyLimit / 256), .ofNat 8 p.vacancyLimit,
      .ofNat 8 (p.extL.get 0), .ofNat 8 (p.extR.get 0), .ofNat 8 (p.extL.get 1), .ofNat 8 (p.extR.get 1),
      .ofNat 8 (p.extL.get 2), .ofNat 8 (p.extR.get 2), .ofNat 8 (p.extL.get 3), .ofNat 8 (p.extR.get 3),
      .ofNat 8 (p.slewMax / 256), .ofNat 8 p.slewMax, .ofNat 8 p.slewAcc, .ofNat 8 p.tiltSpeed, .ofNat 8 p.tiltAcc,
      .ofNat 8 (p.tiltMax / 256), .ofNat 8 p.tiltMax, .ofNat 8 p.hold, .ofNat 8 (p.slewFollow / 256),
      .ofNat 8 p.slewFollow, .ofNat 8 (p.tiltFollow / 256), .ofNat 8 p.tiltFollow, .ofNat 8 p.releaseTimeout,
      .ofNat 8 p.secureTimeout, .ofNat 8 p.settleTime, .ofNat 8 p.loadScale, .ofNat 8 p.testTorque,
      .ofNat 8 p.testDuration, .ofNat 8 (p.slipLimit / 256), .ofNat 8 p.slipLimit] := by
  simp only [profileBytes, u16, u8, List.cons_append, List.nil_append]

/-- A profile record is read back (R10). -/
theorem profileOf_profileBytes {p : ProfileData} (h : p.wf = true) : profileOf (profileBytes p) = p := by
  simp only [ProfileData.wf, Bool.and_eq_true, decide_eq_true_iff] at h
  obtain ⟨⟨⟨⟨⟨⟨⟨htare, hvac⟩, hextL⟩, hextR⟩, hmax, hacc, htspeed, htacc, htmax⟩, hhold, hsf, htf⟩, hrel, hsec, hset, hscale⟩,
    htorque, hdur, hslip⟩ := h
  rw [profileBytes_eq]
  simp only [profileOf, num16, num8, byteAt, List.getD_cons_zero, List.getD_cons_succ]
  simp only [extents_back hextL, extents_back hextR, n16_u16 htare, n16_u16 hvac, n16_u16 hmax, n16_u16 htmax, n16_u16 hsf,
    n16_u16 htf, n16_u16 hslip, toNat_u8 hacc, toNat_u8 htspeed, toNat_u8 htacc, toNat_u8 hhold, toNat_u8 hrel, toNat_u8 hsec,
    toNat_u8 hset, toNat_u8 hscale, toNat_u8 htorque, toNat_u8 hdur]

/-- A place in a body of parts of one length lies in its part. -/
theorem byteAt_flatten {n : Nat} {ls : List (List Byte)} (hlen : ∀ l ∈ ls, l.length = n) {t k : Nat} (ht : t < ls.length)
    (hk : k < n) : byteAt ls.flatten (n * t + k) = byteAt ls[t] k := by
  induction ls generalizing t with
  | nil => simp at ht
  | cons l ls ih =>
    have hl : l.length = n := hlen l List.mem_cons_self
    cases t with
    | zero => simpa using byteAt_append_left ls.flatten (hl ▸ hk)
    | succ t =>
      have hplace : n * (t + 1) + k = l.length + (n * t + k) := by rw [hl]; ring
      rw [List.flatten_cons, hplace, byteAt_append]
      exact ih (fun x hx => hlen x (List.mem_cons_of_mem _ hx)) (by simpa using ht)

section Layouts

variable {l : Layout}

theorem byteAt_name {i : Nat} (hi : i < 16) : byteAt (layoutBytes l) i = l.name[i] := by
  rw [layoutBytes, List.append_assoc, byteAt_append_left _ (by simpa using hi)]
  simp [byteAt, hi]

theorem byteAt_endSecure : byteAt (layoutBytes l) 16 = if l.endSecure then 1 else 0 := by
  have hlen : l.name.toList.length = 16 := by simp
  have hbyte := byteAt_append l.name.toList (flag l.endSecure ++ (l.entries.toList.map layoutEntryBytes).flatten) 0
  rw [hlen, ← List.append_assoc] at hbyte
  exact hbyte

/-- The seven bytes of one tier entry of a layout record. -/
theorem byteAt_entry (t : Tier) {k : Nat} (hk : k < 7) :
    byteAt (layoutBytes l) (17 + (7 * t.val + k)) = byteAt (layoutEntryBytes (l.entries.get t)) k := by
  have hplace : 17 = (l.name.toList ++ flag l.endSecure).length := by simp [flag]
  have hlen : ∀ x ∈ l.entries.toList.map layoutEntryBytes, x.length = 7 := by
    intro x hx
    obtain ⟨e, -, rfl⟩ := List.mem_map.mp hx
    rfl
  rw [layoutBytes, hplace, byteAt_append, byteAt_flatten hlen (by simp) hk, List.getElem_map]
  rfl

/-- A tier entry of a layout record is read back (R117). -/
theorem layoutEntryOf_layoutBytes (t : Tier) (h : (l.entries.get t).tilt < 65536) :
    layoutEntryOf (layoutBytes l) t = l.entries.get t := by
  obtain ⟨hflag, hdir⟩ := flagDir_getLsbD (l.entries.get t).present (l.entries.get t).dir
  have hplace (j k : Nat) (hj : j = 17 + k) (hk : k < 7) :
      byteAt (layoutBytes l) (j + 7 * t.val) = byteAt (layoutEntryBytes (l.entries.get t)) k := by
    rw [← byteAt_entry t hk]
    congr 1
    omega
  have hbyte : byteAt (layoutBytes l) (17 + 7 * t.val) = flagDir (l.entries.get t).present (l.entries.get t).dir :=
    hplace 17 0 rfl (by decide)
  have hslew : slewAt (layoutBytes l) (18 + 7 * t.val) = (l.entries.get t).slew := by
    rw [slewAt, hplace 18 1 rfl (by decide), Nat.add_right_comm 18, hplace 19 2 rfl (by decide), Nat.add_right_comm 18,
      hplace 20 3 rfl (by decide)]
    exact slewOf_u24 _
  have htilt : num16 (layoutBytes l) (21 + 7 * t.val) = (l.entries.get t).tilt := by
    rw [num16, hplace 21 4 rfl (by decide), Nat.add_right_comm 21, hplace 22 5 rfl (by decide)]
    exact n16_u16 h
  have hrank : byteAt (layoutBytes l) (23 + 7 * t.val) = (l.entries.get t).rank := hplace 23 6 rfl (by decide)
  rw [layoutEntryOf, hbyte, hflag, hdir, hslew, htilt, hrank]

/-- A layout record is read back (R117). -/
theorem layoutOf_layoutBytes (h : l.wf = true) : layoutOf (layoutBytes l) = l := by
  have htilt (t : Tier) : (l.entries.get t).tilt < 65536 :=
    of_decide_eq_true (List.all_eq_true.mp h (l.entries.get t) (by simp [Vector.get_eq_getElem]))
  have hname : (layoutOf (layoutBytes l)).name = l.name := by
    refine Vector.ext fun i hi => ?_
    have hbyte : l.name[i] = byteAt (layoutBytes l) i := (byteAt_name hi).symm
    rw [hbyte]
    interval_cases i <;> rfl
  have hend : (layoutOf (layoutBytes l)).endSecure = l.endSecure := by
    show (byteAt (layoutBytes l) 16).getLsbD 0 = _
    rw [byteAt_endSecure]
    cases l.endSecure <;> rfl
  have hentries : (layoutOf (layoutBytes l)).entries = l.entries := by
    refine Vector.ext fun i hi => ?_
    have hentry : l.entries[i] = layoutEntryOf (layoutBytes l) i := (layoutEntryOf_layoutBytes ⟨i, hi⟩ (htilt _)).symm
    rw [hentry]
    interval_cases i <;> rfl
  calc layoutOf (layoutBytes l)
    _ = ⟨(layoutOf (layoutBytes l)).name, (layoutOf (layoutBytes l)).endSecure, (layoutOf (layoutBytes l)).entries⟩ := rfl
    _ = l := by rw [hname, hend, hentries]

end Layouts

end Bodies

/-! ### The request of a body (R180) -/

section Requests

variable {r : Request}

/-- A request fills a body of the length that the catalogue gives its KIND. -/
theorem catalogueLength_requestBytes (r : Request) :
    catalogueLength (requestBytes r).1 = some (requestBytes r).2.length := by
  cases r with
  | routePut t w c => cases c <;> rfl
  | profilePut t p => simp [requestBytes, profileBytes_eq, catalogueLength]
  | layoutWrite n l => simp [requestBytes, Laws.layoutBytes_length, catalogueLength]
  | _ => rfl

/-- A well-formed request is the one that its KIND and body spell. -/
theorem requestOfBody_requestBytes (h : r.wf = true) : requestOfBody (requestBytes r).1 (requestBytes r).2 = some r := by
  cases r with
  | move t a => exact congrArg (fun x => some (Request.move t x)) (moveArgsOf_moveArgsBytes h)
  | gangMove n t0 t1 t2 t3 a => exact congrArg (fun x => some (Request.gangMove n t0 t1 t2 t3 x)) (moveArgsOf_moveArgsBytes h)
  | route t st run auto maint =>
    have hflags := walkFlags_getLsbD auto maint
    exact congrArg₂ (fun x y => some (Request.route t st run x y)) hflags.1 hflags.2
  | routePut t n c =>
    cases c with
    | none => exact congrArg (fun x => some (Request.routePut t n x)) (if_neg (c := (0 : Byte).getLsbD 0 = true) (by decide))
    | some w => exact waypoint_back h t n
  | setBudget b => exact congrArg (fun x => some (Request.setBudget x)) (n16_u16 (of_decide_eq_true h))
  | clearFaults t => exact congrArg some (if_neg (of_decide_eq_true h))
  | showLock x => exact congrArg (fun y => some (Request.showLock y)) (set16_setBytes x)
  | releaseShow x => exact congrArg (fun y => some (Request.releaseShow y)) (set16_setBytes x)
  | siteSet m => exact congrArg (fun x => some (Request.siteSet x)) (siteMsgOf_siteMsgBytes (of_decide_eq_true h))
  | profilePut t p => exact congrArg (fun x => some (Request.profilePut t x)) (profileOf_profileBytes h)
  | zonePut z x => exact congrArg (fun y => some (Request.zonePut z y)) (zoneMsgOf_zoneMsgBytes x)
  | layoutWrite n l => exact congrArg (fun x => some (Request.layoutWrite n x)) (layoutOf_layoutBytes h)
  | _ => rfl

/-- A well-formed request is read back from the frame that carries it (R180). -/
theorem parseFrame_requestFrame (tag : Byte) (h : r.wf = true) : parseFrame (requestFrame tag r) = .ok r := by
  simp only [parseFrame, requestFrame, catalogueLength_requestBytes, requestOfBody_requestBytes h, ne_eq, not_true_eq_false,
    if_false]

/-- No catalogue length is longer than a frame's body can be (R177). -/
theorem requestBytes_length (r : Request) : (requestBytes r).2.length ≤ 248 := by
  cases r with
  | routePut t w c => cases c <;> exact Nat.le_of_ble_eq_true rfl
  | profilePut t p => simp [requestBytes, profileBytes_eq]
  | layoutWrite n l => simp [requestBytes, Laws.layoutBytes_length]
  | _ => exact Nat.le_of_ble_eq_true rfl

end Requests

end Sys2Proof.Machine
end

section
/-! PROOFS. A frame whose bytes reach the framer acts as the request row it carries, after its action on the watchdog (R169,
R177 to R180). -/

namespace Sys2Proof.Machine

section Rows

variable {i : Instr} {tag : Byte} {r : Request} {s : State}

/-- A well-formed row is its request; a CLEAR-FAULTS of FFh, which is the one for all tiers, is not well formed. -/
theorem exec_of_carried_wf (hi : i.carried = some (tag, r)) (hw : i.wf = true) (s : State) :
    exec i s = s.during fun x => x.request tag r := by
  cases i
  case clearFaults tag' b =>
    cases hi
    have hone : (if b = 0xFF then Request.clearFaultsAll else .clearFaults b) = .clearFaults b :=
      if_neg (of_decide_eq_true hw)
    exact congrArg (fun q => s.during fun x => x.request tag q) hone
  all_goals cases hi <;> rfl

/-- A row is well formed when its request is. -/
theorem carried_wf (hi : i.carried = some (tag, r)) (hw : i.wf = true) : r.wf = true := by
  cases i
  case routePut tag' t n c => cases hi; cases c <;> exact hw
  all_goals cases hi <;> exact hw

/-- The action of a frame on the watchdog leaves the part running and the port's lists as they are. -/
theorem watched_port (s : State) : s.watched.phase = s.phase ∧ s.watched.clp.restart = s.clp.restart ∧
    s.watched.clp.replies = s.clp.replies ∧ s.watched.clp.hold = s.clp.hold := by
  rw [← kickWatchdog_eq_watched]
  unfold State.kickWatchdog
  split
  · exact ⟨rfl, rfl, rfl, rfl⟩
  · exact ⟨rfl, rfl, rfl, rfl⟩
  · have hrest := enterFailsafe_rest s .watchdog
    exact ⟨congrArg Rest.phase hrest, congrArg Rest.restart hrest, congrArg Rest.replies hrest, congrArg Rest.hold hrest⟩

/-- A frame that is handled or held is its request after its action on the watchdog (R169, R179). -/
theorem completeFrame_taken (hw : r.wf = true) (ht : s.TakesFrame) :
    s.completeFrame (requestFrame tag r) = s.watched.request tag r := by
  obtain ⟨-, hi, hroom⟩ := ht
  obtain ⟨-, hrestart, hreplies, hhold⟩ := watched_port s
  have hnone : ¬ s.watched.clp.restart ≠ .none := by simp [hrestart, hi]
  by_cases hr : s.clp.replies.length < 8
  · rw [completeFrame_handled hi hr, State.request, if_neg hnone, hreplies, if_pos hr, State.handle,
      parseFrame_requestFrame tag hw]
    rfl
  · have hh : s.clp.hold.length < 4 := hroom.resolve_left hr
    rw [completeFrame_held hi (Nat.not_lt.mp hr) hh, State.request, if_neg hnone, hreplies, if_neg hr, hhold, if_pos hh]

/-- A frame that is discarded does not act on the watchdog (R169, R179, R192). -/
theorem completeFrame_discarded (hrun : s.phase = .running) (ht : ¬ s.TakesFrame) :
    s.completeFrame (requestFrame tag r) = s.request tag r := by
  by_cases hi : s.clp.restart = .none
  · have hfull : ¬ (s.clp.replies.length < 8 ∨ s.clp.hold.length < 4) := fun h => ht ⟨hrun, hi, h⟩
    obtain ⟨hr, hh⟩ := not_or.mp hfull
    rw [completeFrame_overrun hi (Nat.not_lt.mp hr) (Nat.not_lt.mp hh), State.request, if_neg (by simp [hi]), if_neg hr,
      if_neg hh]
  · rw [State.completeFrame, if_pos hi, State.request, if_pos hi]

/-- The bytes of a frame that is handled or held do what its row does after the action on the watchdog (R169, R177, R179). -/
theorem frame_taken (hi : i.carried = some (tag, r)) (hw : i.wf = true) (hf : s.clp.framer = .hunt) (ht : s.TakesFrame) :
    exec (.validFrame (frameBytes tag (requestBytes r).1 (requestBytes r).2)) s = exec i s.watched := by
  have hframe : s.completeFrame ⟨tag, (requestBytes r).1, (requestBytes r).2⟩ = s.watched.request tag r :=
    completeFrame_taken (carried_wf hi hw) ht
  have hrun : s.watched.phase = .running := (watched_port s).1.trans ht.1
  rw [exec_frameBytes ht.1 hf (requestBytes_length r), hframe, exec_of_carried_wf hi hw, during_next hrun]

/-- The bytes of a frame that is discarded do what its row does (R177, R179, R192). -/
theorem frame_discarded (hi : i.carried = some (tag, r)) (hw : i.wf = true) (hf : s.clp.framer = .hunt)
    (ht : ¬ s.TakesFrame) :
    exec (.validFrame (frameBytes tag (requestBytes r).1 (requestBytes r).2)) s = exec i s := by
  rw [exec_of_carried_wf hi hw]
  by_cases hrun : s.phase = .running
  · have hframe : s.completeFrame ⟨tag, (requestBytes r).1, (requestBytes r).2⟩ = s.request tag r :=
      completeFrame_discarded hrun ht
    rw [exec_frameBytes hrun hf (requestBytes_length r), hframe, during_next hrun]
  · have hexec : exec (.validFrame (frameBytes tag (requestBytes r).1 (requestBytes r).2)) s =
        s.during fun x => x.linkBytesIn (frameBytes tag (requestBytes r).1 (requestBytes r).2) := rfl
    rw [hexec, during_idle hrun, during_idle hrun]

end Rows

/-- Settles O3: a frame that is taken by the watchdog setting it meets, and one that is discarded. -/
theorem frameActsAsRequest : Obligations.FrameActsAsRequest := by
  refine fun i tag r s hi hw hf => ⟨fun hoff => ?off, fun ms ht hms => ?timed, fun ht himm hnone => ?enters,
    fun ht himm hactive => ?active, fun ht => frame_discarded hi hw hf ht⟩
  case off =>
    by_cases ht : s.TakesFrame
    · have hwatched : s.watched = s := by simp [State.watched, hoff]
      rw [frame_taken hi hw hf ht, hwatched]
    · exact frame_discarded hi hw hf ht
  case timed =>
    have hwatched : s.watched = { s with fsu := { s.fsu with watchdog := .running ms } } := by simp [State.watched, hms]
    rw [frame_taken hi hw hf ht, hwatched]
  case enters =>
    have hwatched : s.watched = s.enterFailsafe .watchdog := by simp [State.watched, himm, hnone]
    rw [frame_taken hi hw hf ht, hwatched]
  case active =>
    have hwatched : s.watched = s := by
      obtain ⟨c, hc⟩ := Option.ne_none_iff_exists'.mp hactive
      simp [State.watched, himm, hc]
    rw [frame_taken hi hw hf ht, hwatched]

end Sys2Proof.Machine
end

section
/-! PROOFS. The bounds of the command-link port (R179, R181, R182, R192): the lists of the port are parts of `State.rest`, which
the operations of the hall leave alone. A request adds one reply, where there was room for it, and RESTART empties the hold list;
a reply that has been sent makes room for the oldest held frame. -/

namespace Sys2Proof.Machine

/-! ### The lists of the port -/

/-- What the bounds of the port speak of: its lists, whether the reports fit, and the course of a RESTART. -/
structure LinkLists where
  replies : List Reply
  hold : List Frame
  restart : Restart
  reportsFit : Bool

/-- The lists of the port, as the operations of the hall leave them alone. -/
def State.lists (s : State) : LinkLists :=
  let r := s.rest
  ⟨r.replies, r.hold, r.restart, r.reportsFit⟩

theorem lists_of_rest {s s' : State} (h : s'.rest = s.rest) : s'.lists = s.lists := by
  simp only [State.lists, h]

theorem lists_eq_iff {s s' : State} : s'.lists = s.lists ↔ s'.clp.replies = s.clp.replies ∧ s'.clp.hold = s.clp.hold ∧
    s'.clp.restart = s.clp.restart ∧ (s'.clp.reports.length ≤ 32 ↔ s.clp.reports.length ≤ 32) := by
  simp [State.lists, State.rest]

/-- The bounds of the port speak of its lists alone. -/
theorem linkBounds_of_lists {s s' : State} (h : s.LinkBounds) (hs : s'.lists = s.lists) : s'.LinkBounds := by
  obtain ⟨hrep, hhold, hrestart, hfit⟩ := lists_eq_iff.mp hs
  simpa only [State.LinkBounds, hrep, hhold, hrestart, hfit] using h

/-- The transmitter moves none of the lists when it goes on (R181). -/
theorem kick_lists (s : State) : s.kick.lists = s.lists := by
  refine lists_eq_iff.mpr ?_
  simp only [State.kick, modPort_clp, LinkPort.kick]
  (repeat' split) <;> simp

/-- The port has room for the reply of a frame: it is within its bounds but for one reply that is still to come. -/
structure State.Admits (s : State) : Prop where
  replies : s.clp.replies.length < 8
  reports : s.clp.reports.length ≤ 32
  hold : s.clp.hold.length ≤ 4
  full : s.clp.hold ≠ [] → s.clp.replies.length = 7
  restart : s.clp.restart ≠ .none → s.clp.hold = []

theorem State.Admits.of_lists {s s' : State} (h : s.Admits) (hs : s'.lists = s.lists) : s'.Admits := by
  obtain ⟨hrep, hhold, hrestart, hfit⟩ := lists_eq_iff.mp hs
  exact ⟨hrep ▸ h.replies, hfit.mpr h.reports, hhold ▸ h.hold, by rw [hhold, hrep]; exact h.full,
    by rw [hrestart, hhold]; exact h.restart⟩

/-- While the reply list has room no frame is held (R179). -/
theorem admits_of_room {s : State} (h : s.LinkBounds) (hroom : s.clp.replies.length < 8) : s.Admits := by
  obtain ⟨-, hreports, hhold, hfull, hrestart⟩ := h
  exact ⟨hroom, hreports, hhold, fun hne => absurd (hfull hne) (by omega), hrestart⟩

/-- The reply of a frame joins the list (R179, R181). -/
theorem State.Admits.push {s : State} (h : s.Admits) (tag kind : Byte) (a : Code × List Byte) :
    (s.modPort fun p => p.push tag kind a).LinkBounds := by
  have hlen : (s.modPort fun p => p.push tag kind a).clp.replies.length = s.clp.replies.length + 1 := by
    simp [LinkPort.push]
  have hroom := h.replies
  refine ⟨by omega, h.reports, h.hold, fun hne => ?_, h.restart⟩
  rw [hlen, h.full hne]

/-! ### Requests (R11, R16, R75, R174 to R176, R184 to R192) -/

theorem takeSite_lists (s : State) (x : Site) : (s.takeSite x).lists = s.lists := by
  simp only [State.lists, takeSite_rest]

theorem serveSite_lists (s : State) (m : SiteMsg) : (s.serveSite m).1.lists = s.lists := by
  unfold State.serveSite
  split
  · rfl
  · split
    · rfl
    · split
      · exact takeSite_lists s _
      · rfl

theorem serveShowLock_lists (s : State) (x : BitVec 16) : (s.serveShowLock x).1.lists = s.lists := by
  unfold State.serveShowLock
  split
  · rfl
  · simp only [accept_fst, State.lists, addShow_rest]

/-- A record refused changes nothing; one taken keeps the lists, also behind a re-mark of the map (R59). -/
theorem servePutProfile_lists (s : State) (b : Byte) (p : ProfileData) : (s.servePutProfile b p).1.lists = s.lists := by
  have hrefuse (c : Code) : (s.refuse c).1.lists = s.lists := rfl
  have htake (x : State) (t : Tier) (q : ProfileData) : (x.takeProfile t q).lists = x.lists := by
    simp only [State.lists, takeProfile_rest]
  simp only [State.servePutProfile, State.withTier, State.putProfile]
  (repeat' split) <;> simp only [accept_fst, htake, hrefuse]
  case h_1 x hx => exact lists_of_rest (remark_rest hx)

theorem servePutZone_lists (s : State) (b : Byte) (z : ZoneMsg) : (s.servePutZone b z).1.lists = s.lists := by
  have hrefuse (c : Code) : (s.refuse c).1.lists = s.lists := rfl
  have htake (n : Fin 6) (x : ZoneRec) : (s.takeZone n x).lists = s.lists := by
    simp only [State.lists, takeZone_rest]
  unfold State.servePutZone
  (repeat' split) <;> simp only [accept_fst, htake, hrefuse]

/-- No request but RESTART moves a list of the port: the hall's leave `rest` alone, the others are named. -/
theorem serve_lists (s : State) {r : Request} (hr : r ≠ .restart) : (s.serve r).1.lists = s.lists := by
  cases r with
  | restart => exact absurd rfl hr
  | showLock x => exact serveShowLock_lists s x
  | siteSet m => exact serveSite_lists s m
  | profilePut b p => exact servePutProfile_lists s b p
  | zonePut b z => exact servePutZone_lists s b z
  | releaseShow x => simp only [State.serve, State.serveReleaseShow]; (repeat' split) <;> rfl
  | lock g => simp only [State.serve, State.serveLock]; split <;> rfl
  | unlock g => simp only [State.serve, State.serveUnlock]; (repeat' split) <;> rfl
  | protectLayouts n => simp only [State.serve, State.serveProtect]; (repeat' split) <;> rfl
  | saveSettings => simp only [State.serve, State.serveSave]; (repeat' split) <;> rfl
  | layoutErase b => simp only [State.serve, State.serveErase]; (repeat' split) <;> rfl
  | layoutWrite b l => simp only [State.serve, State.serveWrite]; (repeat' split) <;> rfl
  | profileGet b =>
    obtain ⟨-, -, -, -, hget, -, -⟩ := query_fst s b 0 0
    exact congrArg State.lists hget
  | zoneGet b =>
    obtain ⟨-, -, -, -, -, hget, -⟩ := query_fst s b 0 0
    exact congrArg State.lists hget
  | layoutRead b =>
    obtain ⟨-, -, -, -, -, -, hget⟩ := query_fst s b 0 0
    exact congrArg State.lists hget
  | queryTier b =>
    obtain ⟨hget, -, -, -, -, -, -⟩ := query_fst s b 0 0
    exact congrArg State.lists hget
  | queryMap f c =>
    obtain ⟨-, hget, -, -, -, -, -⟩ := query_fst s 0 f c
    exact congrArg State.lists hget
  | queryStatus | queryQueue | queryGrants => rfl
  | _ => exact lists_of_rest (by simp [State.serve])

/-- Every request leaves the room that its reply needs; a RESTART taken discards the frames held (R192). -/
theorem State.Admits.serve {s : State} (h : s.Admits) (r : Request) : (s.serve r).1.Admits := by
  by_cases hr : r = .restart
  · subst hr
    show s.serveRestart.1.Admits
    unfold State.serveRestart
    split
    · exact h
    · exact ⟨h.replies, h.reports, Nat.zero_le 4, fun hne => absurd rfl hne, fun _ => rfl⟩
  · exact h.of_lists (serve_lists s hr)

/-! ### Frames (R169, R177 to R182) -/

theorem State.Admits.answer {s : State} (h : s.Admits) (tag kind : Byte) (r : Request) : (s.answer tag kind r).LinkBounds :=
  (h.serve r).push _ _ _

theorem State.Admits.handle {s : State} (h : s.Admits) (f : Frame) : (s.handle f).LinkBounds := by
  unfold State.handle
  split
  · exact h.push _ _ _
  · exact h.answer _ _ _

theorem kickWatchdog_lists (s : State) : s.kickWatchdog.lists = s.lists := by
  unfold State.kickWatchdog
  split
  · rfl
  · rfl
  · exact lists_of_rest (enterFailsafe_rest s _)

/-- A reply that has left the list has made the room for that of the oldest held frame (R179). -/
theorem State.Admits.takeHeld {s : State} (h : s.Admits) : s.takeHeld.LinkBounds := by
  have hroom := h.replies
  unfold State.takeHeld
  split
  case h_1 hnone => exact ⟨by omega, h.reports, h.hold, fun hne => absurd hnone hne, fun _ => hnone⟩
  case h_2 f more hheld =>
    have hne : s.clp.hold ≠ [] := by simp [hheld]
    have hlen := h.hold
    rw [hheld, List.length_cons] at hlen
    rw [if_pos hroom]
    have hrest : (s.modPort fun p => { p with hold := more }).Admits :=
      ⟨h.replies, h.reports, by show more.length ≤ 4; omega, fun _ => h.full hne, fun hi => absurd (h.restart hi) hne⟩
    exact hrest.handle f

section Frames

variable {s : State} (h : s.LinkBounds)

include h

/-- A frame is held only where the reply list is full and no RESTART waits (R179, R192). -/
theorem keep_linkBounds (hi : s.clp.restart = .none) (hr : ¬ s.clp.replies.length < 8) (hh : s.clp.hold.length < 4)
    (f : Frame) : (s.modPort fun p => p.keep f).LinkBounds := by
  obtain ⟨hreplies, hreports, -, -, -⟩ := h
  have hlen : (s.modPort fun p => p.keep f).clp.hold.length = s.clp.hold.length + 1 := by simp [LinkPort.keep]
  exact ⟨hreplies, hreports, by omega, fun _ => Nat.le_antisymm hreplies (Nat.not_lt.mp hr), fun hne => absurd hi hne⟩

theorem request_linkBounds (tag : Byte) (r : Request) : (s.request tag r).LinkBounds := by
  unfold State.request
  split
  case isTrue => exact h
  case isFalse hi =>
    split
    case isTrue hr => exact (admits_of_room h hr).answer _ _ _
    case isFalse hr =>
      split
      case isTrue hh => exact keep_linkBounds h (not_not.mp hi) hr hh _
      case isFalse => exact h

theorem completeFrame_linkBounds (f : Frame) : (s.completeFrame f).LinkBounds := by
  have hwatch := linkBounds_of_lists h (kickWatchdog_lists s)
  obtain ⟨hreplies, hhold, hrestart, -⟩ := lists_eq_iff.mp (kickWatchdog_lists s)
  unfold State.completeFrame
  split
  case isTrue => exact h
  case isFalse hi =>
    split
    case isTrue hr => exact (admits_of_room hwatch (hreplies ▸ hr)).handle f
    case isFalse hr =>
      split
      case isTrue hh => exact keep_linkBounds hwatch (hrestart.trans (not_not.mp hi)) (hreplies ▸ hr) (hhold ▸ hh) f
      case isFalse => exact h

theorem linkByte_linkBounds (b : Byte) : (s.linkByte b).LinkBounds := by
  have hhunt : (s.setFramer .hunt).LinkBounds := h
  unfold State.linkByte
  split
  case h_7 =>
    dsimp only
    split
    · exact linkBounds_of_lists (completeFrame_linkBounds hhunt _) (kick_lists _)
    · exact h
  case h_1 => split <;> exact h
  all_goals exact h

theorem linkBytesIn_linkBounds (bs : List Byte) : (s.linkBytesIn bs).LinkBounds := by
  unfold State.linkBytesIn
  induction bs generalizing s with
  | nil => exact h
  | cons b bs ih => exact ih (linkByte_linkBounds h b)

/-- Where frames are held the list was full, and a sent reply leaves it one short of that; behind the reply of a RESTART none is
held (R179, R192). -/
theorem replySent_linkBounds : s.replySent.LinkBounds := by
  obtain ⟨hreplies, hreports, hhold, hfull, hrestart⟩ := h
  unfold State.replySent
  split
  case h_1 r rest _ hr =>
    rw [hr, List.length_cons] at hreplies hfull
    dsimp only
    split
    case isTrue hlast =>
      obtain ⟨hwait, -⟩ := (Bool.and_eq_true _ _).mp hlast
      have hwaiting : s.clp.restart = .waiting := of_decide_eq_true hwait
      have hnone : s.clp.hold = [] := hrestart (by simp [hwaiting])
      exact ⟨by show rest.length ≤ 8; omega, hreports, hhold, fun hne => absurd hnone hne, fun _ => hnone⟩
    case isFalse =>
      have hadmits : (s.modPort fun p => { p with replies := rest, tx := .idle }).Admits :=
        ⟨by show rest.length < 8; omega, hreports, hhold, fun hne => Nat.succ.inj (hfull hne), hrestart⟩
      exact hadmits.takeHeld
  case h_2 => exact ⟨hreplies, hreports, hhold, hfull, hrestart⟩

theorem reportSent_linkBounds : s.reportSent.LinkBounds := by
  obtain ⟨hreplies, hreports, hhold, hfull, hrestart⟩ := h
  unfold State.reportSent
  split
  · have htail : s.clp.reports.tail.length ≤ 32 := by rw [List.length_tail]; omega
    exact ⟨hreplies, htail, hhold, hfull, hrestart⟩
  · exact ⟨hreplies, hreports, hhold, hfull, hrestart⟩

end Frames

/-! ### Events (R70 to R72, R149, R169, R186) -/

theorem tripRises_lists (s : State) (i : Input) : (s.tripRises i).lists = s.lists := by
  unfold State.tripRises
  split <;> rfl

theorem tripFalls_lists (s : State) (i : Input) : (s.tripFalls i).lists = s.lists := by
  unfold State.tripFalls
  split
  · dsimp only
    split
    · rfl
    · exact lists_of_rest (s := (s.setLevel i false).trigger) (report_rest _ _)
  · rfl

theorem tripApply_lists (s : State) (i : Input) : (s.tripApply i).lists = s.lists := by
  unfold State.tripApply
  split
  · rfl
  · rename_i x _
    exact lists_of_rest (s := { s with zu := { s.zu with due := x.1 } }) ((reportAll_rest _ _).trans (tripStop_rest _ i))

theorem expireWatchdog_lists (s : State) : s.expireWatchdog.lists = s.lists := by
  unfold State.expireWatchdog
  split
  · exact lists_of_rest (s := { s with fsu := { s.fsu with watchdog := .expired } }) (enterFailsafe_rest _ _)
  · rfl

theorem completeStore_lists (s : State) (failed : BitVec 3) : (s.completeStore failed).lists = s.lists := by
  have hdone (x : State) (k : StoreKind) (b : Bool) (n : BitVec 3) : (x.storeDone k b n).lists = x.lists := by
    refine lists_of_rest ?_
    simp only [State.storeDone]
    split <;> simp
  unfold State.completeStore
  dsimp only
  split
  · rfl
  all_goals exact hdone _ _ _ _

theorem testExpire_lists (s : State) (t : Tier) : (s.testExpire t).lists = s.lists := by
  unfold State.testExpire
  split
  · exact (lists_of_rest ((enterSecured_rest _ t).trans ((freeGrant_rest _ t).trans (report_rest _ _)))).trans rfl
  · rfl

theorem completeStartUp_lists (s : State) : s.completeStartUp.lists = s.lists := by
  unfold State.completeStartUp
  split
  · exact lists_of_rest (s := { s with phase := .running }) (reportAll_rest _ _)
  · rfl

/-! ### Every command -/

section Commands

variable {s s' : State}

/-- The port after a reset is within its bounds (R179 to R182, R191). -/
theorem linkBounds_of_reset (h : s.clp = LinkPort.reset) : s.LinkBounds := by
  simp [State.LinkBounds, h, LinkPort.reset]

variable (h : s.LinkBounds)

include h

theorem during_linkBounds {f : State → State} (hf : (f s).LinkBounds) (e : s.during f = .next s') : s'.LinkBounds := by
  unfold State.during at e
  cases e
  split
  · exact linkBounds_of_lists hf (kick_lists _)
  · exact h

/-- An event whose operation moves none of the lists. -/
theorem during_lists {f : State → State} (hf : (f s).lists = s.lists) (e : s.during f = .next s') : s'.LinkBounds :=
  during_linkBounds h (linkBounds_of_lists h hf) e

theorem duringDrive_lists {f : State → State} (hf : (f s).lists = s.lists) (e : s.duringDrive f = .next s') :
    s'.LinkBounds := by
  unfold State.duringDrive at e
  split at e
  · cases e
    exact linkBounds_of_lists h hf
  · exact during_lists h hf e

/-- An event of an input, which moves its pin and in start-up its level. -/
theorem pin_lists {p : Prop} [Decidable p] {x y : State} {f : State → State} (hx : x.lists = s.lists)
    (hy : y.lists = s.lists) (hf : (f x).lists = x.lists) (e : (if p then .next y else x.during f) = .next s') :
    s'.LinkBounds := by
  split at e
  · cases e
    exact linkBounds_of_lists h hy
  · exact during_lists (linkBounds_of_lists h hx) hf e

theorem exec_linkBounds (i : Instr) (e : exec i s = .next s') : s'.LinkBounds := by
  cases hc : i.carried with
  | some x =>
    obtain ⟨q, hq⟩ := exec_of_carried (tag := x.1) (r := x.2) hc s
    exact during_linkBounds h (request_linkBounds h x.1 q) (hq ▸ e)
  | none =>
    cases i
    case powerOn =>
      cases e
      simp only [State.powerOn]
      split <;> exact linkBounds_of_reset rfl
    case resetLineLow =>
      cases e
      simp only [State.resetFalls]
      split
      · exact h
      · exact linkBounds_of_reset rfl
    case resetLineRisingEdge =>
      cases e
      simp only [State.resetRises]
      split
      · exact linkBounds_of_reset rfl
      · exact h
    case startupComplete =>
      cases e
      have hdone := linkBounds_of_lists h (completeStartUp_lists s)
      unfold State.kickIfRunning
      split
      · exact linkBounds_of_lists hdone (kick_lists _)
      · exact hdone
    case restartStartup =>
      cases e
      split
      · exact linkBounds_of_reset rfl
      · exact h
    case lossOfPower =>
      cases e
      exact linkBounds_of_reset rfl
    case validFrame bs => exact during_linkBounds h (f := fun x => x.linkBytesIn bs) (linkBytesIn_linkBounds h bs) e
    case replySent => exact during_linkBounds h (f := State.replySent) (replySent_linkBounds h) e
    case reportSent => exact during_linkBounds h (f := State.reportSent) (reportSent_linkBounds h) e
    case commandLinkGapTimeout | commandLinkStopBitError => exact during_lists h (f := State.dropFrame) rfl e
    case lengthByteAbove248 =>
      exact during_lists h (f := State.badLength) (by unfold State.badLength; split <;> rfl) e
    case setpointInterval t =>
      exact during_lists h (f := fun x => if x.installed t then x.interval t else x) (lists_of_rest (by split <;> simp)) e
    case setpointRecordSent => exact during_lists h (f := State.recordSent) (lists_of_rest (recordSent_rest s)) e
    case feedbackRecord bs =>
      exact duringDrive_lists h (f := fun x => x.driveBytes bs) (lists_of_rest (driveBytes_rest s bs)) e
    case feedbackGapTimeout | driveLinkStopBitError =>
      exact duringDrive_lists h (f := fun x => x.setDriveFramer .hunting) rfl e
    case feedbackTimerExpiry t =>
      exact during_lists h (f := fun x => x.feedbackExpire t) (lists_of_rest (feedbackExpire_rest s t)) e
    case releaseWaitExpiry t =>
      exact during_lists h (f := fun x => x.releaseWaitExpire t) (lists_of_rest (releaseWaitExpire_rest s t)) e
    case secureWaitExpiry t =>
      exact during_lists h (f := fun x => x.secureWaitExpire t) (lists_of_rest (secureWaitExpire_rest s t)) e
    case watchExpiry t => exact during_lists h (f := fun x => x.watchExpire t) (lists_of_rest (watchExpire_rest s t)) e
    case settleTimerExpiry t =>
      exact during_lists h (f := fun x => x.settleTimeout t) (lists_of_rest (settleTimeout_rest s t)) e
    case testTimerExpiry t => exact during_lists h (f := fun x => x.testExpire t) (testExpire_lists s t) e
    case tripActiveEdge i =>
      exact pin_lists h (x := s.setTripPin i true) (y := (s.setTripPin i true).setLevel i true) (f := fun x => x.tripRises i)
        rfl rfl (tripRises_lists _ i) e
    case tripInactiveEdge i =>
      exact pin_lists h (x := s.setTripPin i false) (y := (s.setTripPin i false).setLevel i false)
        (f := fun x => x.tripFalls i) rfl rfl (tripFalls_lists _ i) e
    case keyChange b =>
      exact pin_lists h (x := s.setKeyPin b) (y := (s.setKeyPin b).setKey b) (f := fun x => x.setKey b) rfl rfl rfl e
    case tripApplication i => exact during_lists h (f := fun x => x.tripApply i) (tripApply_lists s i) e
    case admissionScan => exact during_lists h (f := State.dueScan) (lists_of_rest (dueScan_rest s)) e
    case loadConversionComplete n =>
      exact during_lists h (f := fun x => x.completeConversion n.toNat) (lists_of_rest (completeConversion_rest s _)) e
    case freshnessTimerExpiry t =>
      exact during_lists h (f := fun x => x.expireFreshness t) (lists_of_rest (expireFreshness_rest s t)) e
    case storeOperationComplete failed =>
      exact during_lists h (f := fun x => x.completeStore failed) (completeStore_lists s failed) e
    case watchdogExpiry => exact during_lists h (f := State.expireWatchdog) (expireWatchdog_lists s) e
    all_goals cases hc

end Commands

/-- Settles O6: the bounds hold after every command, so after every step, which is its front command or none. -/
theorem linkBoundsKept : Obligations.LinkBoundsKept := by
  intro s s' h e
  unfold step at e
  split at e
  · cases e
    exact h
  case h_2 c rest _ => exact exec_linkBounds (s := s.withPending rest) h c e

end Sys2Proof.Machine
end

section
/-! PROOFS. Requests and feedback records read back from their bytes (R153, R180, the request catalogue). -/

namespace Sys2Proof.Machine

/-- A feedback record with a bit in its drive-fault byte that names no fault is discarded (R153). -/
theorem feedbackOf_unnamed_fault {bs : List Byte} (h : 16 ≤ (bs.getD 7 0).toNat) : feedbackOf bs = none := by
  have hfit : ¬ (num16 bs 4 < 32768 ∧ (byteAt bs 7).toNat < 16) := fun hlt => Nat.not_lt.mpr h hlt.2
  simp only [feedbackOf, if_neg hfit]
  (repeat' split) <;> rfl

/-- Settles O2: a request by its KIND and body, a feedback record by its fields, or discarded for its drive faults. -/
theorem roundTrips : Obligations.RoundTrips :=
  ⟨fun tag _ hw => parseFrame_requestFrame tag hw, fun _ htilt hslip => feedbackOf_afterStart htilt hslip,
    fun _ h => feedbackOf_unnamed_fault h⟩

end Sys2Proof.Machine
end

section
/-! PROOFS. The transmitter of the command link after a sent reply or report (R179, R181, R182, R192). -/

namespace Sys2Proof.Machine

section Transmitter

variable {s : State} {r : Reply} {rest : List Reply}

/-- A sent reply that is not the last one before a RESTART leaves its list, and the oldest held frame is looked at (R179, R181). -/
theorem replySent_more (ht : s.clp.tx = .reply) (hr : s.clp.replies = r :: rest)
    (hlast : s.clp.restart = .waiting → rest ≠ []) :
    s.replySent = (s.modPort fun p => { p with replies := rest, tx := .idle }).takeHeld := by
  simp only [State.replySent, ht, hr]
  refine if_neg fun h => ?_
  obtain ⟨hi, hnone⟩ := (Bool.and_eq_true _ _).mp h
  exact hlast (of_decide_eq_true hi) (List.isEmpty_iff.mp hnone)

/-- The reply of a RESTART, sent last, makes its start-up due (R192). -/
theorem replySent_last (ht : s.clp.tx = .reply) (hr : s.clp.replies = [r]) (hi : s.clp.restart = .waiting) :
    s.replySent = s.modPort fun p => { p with replies := [], tx := .idle, restart := .due } := by
  simp [State.replySent, ht, hr, hi, State.modPort]

theorem takeHeld_none (h : s.clp.hold = []) : s.takeHeld = s := by
  simp only [State.takeHeld, h]

/-- The oldest held frame is handled when the reply list has room (R179). -/
theorem takeHeld_oldest {f : Frame} {more : List Frame} (h : s.clp.hold = f :: more) (hroom : s.clp.replies.length < 8) :
    s.takeHeld = (s.modPort fun p => { p with hold := more }).handle f := by
  simp only [State.takeHeld, h, if_pos hroom]

theorem reportSent_eq (ht : s.clp.tx = .report) :
    s.reportSent = s.modPort fun p => { p with reports := p.reports.tail, tx := .idle } := by
  simp only [State.reportSent, ht]

end Transmitter

/-- Settles O5: a sent reply by what stands behind it and by the frames held, and a sent report. -/
theorem transmitterGoesOn : Obligations.TransmitterGoesOn := by
  refine fun s hrun => ⟨fun r rest ht hr hh hlast => ?more, fun r ht hr hi => ?restart,
    fun r rest f more ht hr hi hroom hh hk hlow => ?held, fun ht => ?report⟩
  case more =>
    have hnone : (s.modPort fun p => { p with replies := rest, tx := .idle }).clp.hold = [] := hh
    refine (during_next (f := State.replySent) hrun).trans ?_
    rw [replySent_more ht hr hlast, takeHeld_none hnone]
    rfl
  case restart =>
    refine (during_next (f := State.replySent) hrun).trans ?_
    rw [replySent_last ht hr hi]
    simp [State.kick, State.modPort, LinkPort.kick]
  case held =>
    have hheld : (s.modPort fun p => { p with replies := rest, tx := .idle }).clp.hold = f :: more := hh
    have hkind : replyKind f.kind .unknown = f.kind + 0x80 := by
      rw [replyKind_unknown, if_neg fun h => Nat.not_le.mpr hlow h.1]
    refine (during_next (f := State.replySent) hrun).trans ?_
    rw [replySent_more ht hr (by simp [hi]), takeHeld_oldest hheld hroom, handle_error (parseFrame_unknown hk), hkind]
    simp [State.replied, LinkPort.after, State.modPort]
  case report =>
    refine (during_next (f := State.reportSent) hrun).trans ?_
    rw [reportSent_eq ht]
    rfl

end Sys2Proof.Machine
end

section
/-! PROOFS. RESET, the loss of power and the completion of start-up (R70, R186, R191). -/

namespace Sys2Proof.Machine

/-! ### Blocks held in reset (R191) -/

section Held

variable {s : State}

/-- Blocks that take their reset values keep no brake-weak restriction but for a RESTART (R18, R149, R191). -/
theorem blocksReset_resetBlocks (s : State) (p : Phase) :
    State.BlocksReset { s.resetBlocks false with phase := p } fun _ => false := by
  have htier (n : Tier) : (s.resetBlocks false).tier n = TierRec.reset false := by
    show (s.tiers.map fun r => TierRec.reset (false && r.brakeWeak)).get n = _
    simp [Vector.get_eq_getElem]
  exact ⟨rfl, htier, rfl, rfl, rfl, rfl, rfl, rfl, rfl, rfl, rfl, rfl, rfl, rfl, rfl, rfl, rfl⟩

/-- Every output line is inactive while the part does not run (R191). -/
theorem lines_inactive (h : s.phase ≠ .running) : s.faultLine = false ∧ s.attnLine = false ∧ s.ddeLine = false := by
  simp [State.faultLine, State.attnLine, State.ddeLine, State.running, h]

theorem resetFalls_held (h : s.phase ≠ .off) :
    s.resetFalls = { (State.cutStore { s with pins := { s.pins with resetLow := true } }).resetBlocks false with
      phase := .held } :=
  if_neg h

end Held

/-! ### A store operation ended (R186) -/

section Cut

variable {s : State}

/-- An unfinished write leaves a slot as it was, as it was to become, or BAD (R186). -/
theorem unfinishedSlot_cases (n : Nat) (old new : Slot) :
    unfinishedSlot n old new = old ∨ unfinishedSlot n old new = new ∨ unfinishedSlot n old new = .bad := by
  unfold unfinishedSlot
  cases Config.unfinished n <;> simp

/-- An unfinished write leaves a section as it was, as it was to become, or unreadable (R186). -/
theorem unfinishedSection_mem {α : Type} (n : Nat) (old new : Option α) :
    unfinishedSection n old new ∈ [old, new, none] := by
  unfold unfinishedSection
  cases Config.unfinished n <;> simp

/-- An ended operation on a slot leaves every other slot and the sections as they were (R186). -/
theorem cutStore_slot {n : Fin 16} {x : Slot}
    (h : s.nvs.op = some (.erase n) ∧ x = .blank ∨ ∃ l, s.nvs.op = some (.write n l) ∧ x = .written l) :
    s.cutStore.nvs.store =
      { s.nvs.store with slots := s.nvs.store.slots.set n (unfinishedSlot s.freeCount (s.slot n) x) } := by
  obtain ⟨hop, rfl⟩ | ⟨l, hop, rfl⟩ := h <;> simp only [State.cutStore, hop] <;> rfl

/-- An ended save leaves the slots as they were (R186). -/
theorem cutStore_save {x : Site} {ps : Vector Profile 12} {zs : Option (Vector ZoneRec 6)}
    (h : s.nvs.op = some (.save x ps zs)) :
    s.cutStore.nvs.store =
      ⟨unfinishedSection s.freeCount s.nvs.store.site (some x),
        unfinishedSection (s.freeCount + 1) s.nvs.store.profiles (some ps),
        unfinishedSection (s.freeCount + 2) s.nvs.store.zones zs, s.nvs.store.slots⟩ := by
  simp only [State.cutStore, h]
  rfl

/-- The level of the RESET pin does not matter to an operation that is ended. -/
theorem cutStore_pins_nvs (s : State) (p : Pins) : (State.cutStore { s with pins := p }).nvs = s.cutStore.nvs := by
  unfold State.cutStore
  dsimp only
  split <;> rfl

/-- The loss of power and a low RESET line end the operation that runs (R186). -/
theorem exec_cuts {i : Instr} (hi : i = .lossOfPower ∨ i = .resetLineLow) (hoff : s.phase ≠ .off) :
    ∃ t, exec i s = .next t ∧ t.nvs.op = none ∧ t.nvs.store = s.cutStore.nvs.store := by
  obtain rfl | rfl := hi
  · exact ⟨s.losePower, rfl, rfl, rfl⟩
  · refine ⟨s.resetFalls, rfl, ?_⟩
    have hnvs := cutStore_pins_nvs s { s.pins with resetLow := true }
    rw [resetFalls_held hoff, ← hnvs]
    exact ⟨rfl, rfl⟩

end Cut

/-- Settles O13: the blocks and lines of a part that is held or without power, and the store by the operation that is ended. -/
theorem resetHolds : Obligations.ResetHolds := by
  refine ⟨fun s hop => ⟨fun hoff => ⟨s.resetFalls, rfl, ?low⟩, s.losePower, rfl, ?lost⟩, fun s n x i hi hoff hop => ?slot,
    fun s x ps zs i hi hoff hop => ?save⟩
  case low =>
    have hidle : State.cutStore { s with pins := { s.pins with resetLow := true } } =
        { s with pins := { s.pins with resetLow := true } } := cutStore_of_idle hop
    rw [resetFalls_held hoff, hidle]
    exact ⟨rfl, rfl, blocksReset_resetBlocks _ _, rfl, lines_inactive (by simp)⟩
  case lost =>
    rw [State.losePower, cutStore_of_idle hop]
    exact ⟨rfl, rfl, blocksReset_resetBlocks _ _, rfl, lines_inactive (by simp)⟩
  case slot =>
    obtain ⟨t, ht, hnone, hstore⟩ := exec_cuts hi hoff
    rw [cutStore_slot hop] at hstore
    have hself : t.slot n = unfinishedSlot s.freeCount (s.slot n) x := by
      rw [State.slot, hstore]
      exact vector_get_set_self _ _ _
    refine ⟨t, ht, hnone, by rw [hself]; exact unfinishedSlot_cases _ _ _, fun m hm => ?_, by rw [hstore], by rw [hstore],
      by rw [hstore]⟩
    rw [State.slot, hstore]
    exact vector_get_set_ne _ hm _
  case save =>
    obtain ⟨t, ht, hnone, hstore⟩ := exec_cuts hi hoff
    rw [cutStore_save hop] at hstore
    refine ⟨t, ht, hnone, ?_⟩
    rw [hstore]
    exact ⟨rfl, unfinishedSection_mem _ _ _, unfinishedSection_mem _ _ _, unfinishedSection_mem _ _ _⟩

/-! ### Start-up completes (R191) -/

/-- At most two CONFIG kinds and six inputs are reported at the completion of start-up (R191). -/
theorem startUpReports_length (s : State) : (s.configReports ++ s.tripReports).length ≤ 8 := by
  have htrips : s.tripReports.length ≤ 6 := by
    rw [State.tripReports, List.length_map]
    exact List.length_filter_le _ _
  have hconfig : s.configReports.length ≤ 2 := by
    simp only [State.configReports, List.length_append]
    (repeat' split) <;> simp
  rw [List.length_append]
  omega

/-- Start-up completes with its reports, for which the queue has room (R182, R191). -/
theorem completeStartUp_told {s : State} (h : s.phase = .startUp) (hroom : s.Room 8) :
    s.completeStartUp = ({ s with phase := .running } : State).told (s.configReports ++ s.tripReports) := by
  have hfits : ({ s with phase := .running } : State).Room (s.configReports ++ s.tripReports).length :=
    room_mono (s := { s with phase := .running }) hroom (startUpReports_length s)
  rw [State.completeStartUp, if_pos h, reportAll_eq_told hfits]

/-- Settles O14: the reports of the CONFIG kinds and then of the inputs in order, with the transmitter gone on. -/
theorem startUpCompletes : Obligations.StartUpCompletes := by
  intro s h hroom
  have hinputs : allInputs = List.finRange 6 := by decide
  show Host.Outcome.next s.completeStartUp.kickIfRunning = _
  rw [completeStartUp_told h hroom, State.configReports, State.tripReports, hinputs]
  simp [State.kickIfRunning, State.running, State.kick, State.modPort, State.told, State.reported, LinkPort.after]

end Sys2Proof.Machine
end

section
/-! PROOFS. The requests of the Settings Store by their checks in order (R186 to R190). -/

namespace Sys2Proof.Machine

/-! ### SAVE-SETTINGS and PROTECT-LAYOUTS (R187, R190) -/

section Save

variable {s : State}

/-- The NVS is BUSY while an operation runs (R186). -/
theorem nvsBusy_iff : s.nvsBusy = true ↔ s.nvs.op ≠ none := Option.isSome_iff_ne_none

theorem nvsBusy_of_idle (h : s.nvs.op = none) : s.nvsBusy = false := by simp [State.nvsBusy, h]

/-- A save needs the profiles and the zones unlocked (R187). -/
theorem serveSave_locked (h : s.fsu.profilesLocked = true ∨ s.fsu.zonesLocked = true) : s.serveSave = s.refuse .locked := by
  rw [State.serveSave, if_pos (by simpa using h)]

variable (hp : s.fsu.profilesLocked = false) (hz : s.fsu.zonesLocked = false)

include hp hz

theorem serveSave_busy (hop : s.nvs.op ≠ none) : s.serveSave = s.refuse .busy := by
  rw [State.serveSave, if_neg (by simp [hp, hz]), if_pos (nvsBusy_iff.mpr hop)]

/-- A save is begun with a copy of the running settings (R187). -/
theorem serveSave_taken (hop : s.nvs.op = none) : s.serveSave =
    (s.beginStore (.save s.site s.profiles (if s.zu.valid then some s.zu.zones else none))).accept := by
  rw [State.serveSave, if_neg (by simp [hp, hz]), if_neg (by simp [nvsBusy_of_idle hop])]

end Save

section Protect

variable {s : State} {n : Byte}

theorem serveProtect_range (h : 16 < n.toNat) : s.serveProtect n = s.refuse .range := if_pos h

variable (h : n.toNat ≤ 16)

include h

theorem serveProtect_locked (hl : s.fsu.layoutsLocked = true) : s.serveProtect n = s.refuse .locked := by
  rw [State.serveProtect, if_neg (Nat.not_lt.mpr h), if_pos hl]

variable (hl : s.fsu.layoutsLocked = false)

include hl

/-- The boundary is not lowered (R190). -/
theorem serveProtect_lower (hb : n.toNat < s.nvs.boundary) : s.serveProtect n = s.refuse .protectedSlot := by
  rw [State.serveProtect, if_neg (Nat.not_lt.mpr h), if_neg (by simp [hl]), if_pos hb]

/-- A boundary that is raised raises that of the running site record with it, where that lies below (R190). -/
theorem serveProtect_raised (hb : s.nvs.boundary ≤ n.toNat) : s.serveProtect n = State.accept { s with
    nvs := { s.nvs with boundary := n.toNat }
    site := { s.site with boundary := if s.site.boundary < n.toNat then n.toNat else s.site.boundary } } := by
  have hmax : max s.site.boundary n.toNat = if s.site.boundary < n.toNat then n.toNat else s.site.boundary := by
    split <;> omega
  rw [State.serveProtect, if_neg (Nat.not_lt.mpr h), if_neg (by simp [hl]), if_neg (Nat.not_lt.mpr hb), hmax]

end Protect

/-! ### The slot that a request names (R186, R188, R189) -/

section Slots

variable {s : State} {b : Byte} {n : Fin 16} {l : Layout} {c : Code}

theorem slotOf_none (h : 16 ≤ b.toNat) : slotOf b = none := dif_neg (Nat.not_lt.mpr h)

theorem serveErase_range (h : 16 ≤ b.toNat) : s.serveErase b = s.refuse .range := by
  simp only [State.serveErase, slotOf_none h]

theorem serveWrite_range (h : 16 ≤ b.toNat) : s.serveWrite b l = s.refuse .range := by
  simp only [State.serveWrite, slotOf_none h]

theorem serveRead_range (h : 16 ≤ b.toNat) : s.serveRead b = s.refuse .range := by
  simp only [State.serveRead, slotOf_none h]

/-- The first of the shared checks that fails gives the code: the lock, a running operation, the protection (R188, R189). -/
theorem slotCheck_refused
    (hc : c = (if s.fsu.layoutsLocked = true then Code.locked else if s.nvs.op ≠ none then .busy else .protectedSlot))
    (h : s.fsu.layoutsLocked = true ∨ s.nvs.op ≠ none ∨ n.val < s.nvs.boundary) : s.slotCheck n = some c := by
  subst hc
  by_cases hl : s.fsu.layoutsLocked = true
  · rw [State.slotCheck, if_pos hl, if_pos hl]
  · by_cases hop : s.nvs.op = none
    · have hprot : n.val < s.nvs.boundary := (h.resolve_left hl).resolve_left (not_not.mpr hop)
      rw [State.slotCheck, if_neg hl, if_neg hl, if_neg (by simp [nvsBusy_of_idle hop]), if_neg (not_not.mpr hop),
        if_pos hprot]
    · rw [State.slotCheck, if_neg hl, if_neg hl, if_pos (nvsBusy_iff.mpr hop), if_pos hop]

theorem slotCheck_passed (hl : s.fsu.layoutsLocked = false) (hop : s.nvs.op = none) (hb : s.nvs.boundary ≤ n.val) :
    s.slotCheck n = none := by
  rw [State.slotCheck, if_neg (by simp [hl]), if_neg (by simp [nvsBusy_of_idle hop]), if_neg (Nat.not_lt.mpr hb)]

variable (hb : slotOf b = some n)

include hb

theorem serveErase_refused (hc : s.slotCheck n = some c) : s.serveErase b = s.refuse c := by
  simp only [State.serveErase, hb, hc]

theorem serveErase_taken (hc : s.slotCheck n = none) : s.serveErase b = (s.beginStore (.erase n)).accept := by
  simp only [State.serveErase, hb, hc]

theorem serveWrite_refused (hc : s.slotCheck n = some c) : s.serveWrite b l = s.refuse c := by
  simp only [State.serveWrite, hb, hc]

variable (hc : s.slotCheck n = none)

include hc

/-- A layout is written into a BLANK slot alone (R189). -/
theorem serveWrite_notErased (hs : s.slot n ≠ .blank) : s.serveWrite b l = s.refuse .notErased := by
  simp only [State.serveWrite, hb, hc, if_pos hs]

/-- Past the slot, the entries of the layout decide (R189, check 6). -/
theorem serveWrite_blank (hs : s.slot n = .blank) : s.serveWrite b l =
    if !l.entries.toList.all layoutEntryLegal || sameRank l (s.convTiersOf l) then s.refuse .range
    else (s.beginStore (.write n l)).accept := by
  simp only [State.serveWrite, hb, hc, if_neg (not_not.mpr hs)]

end Slots

/-! ### The entries of a layout (R189) -/

section Entries

variable {s : State} {l : Layout}

/-- Every tier entry is tested, present or not (R189; log 18). -/
theorem entries_all_legal_iff :
    l.entries.toList.all layoutEntryLegal = true ↔ ∀ t, layoutEntryLegal (layoutEntry l t) = true := by
  rw [List.all_eq_true]
  constructor
  · exact fun h t => h (layoutEntry l t) (by simp [layoutEntry, Vector.get_eq_getElem])
  · intro h e he
    obtain ⟨i, hi, rfl⟩ := Vector.mem_iff_getElem.mp (Vector.mem_toList_iff.mp he)
    exact h ⟨i, hi⟩

theorem layoutEntryLegal_iff {e : LayoutEntry} :
    layoutEntryLegal e = true ↔ e.dir.toNat ≤ 2 ∧ e.rank.toNat ≤ 11 ∧ e.tilt < 32768 := by
  simp only [layoutEntryLegal, Bool.and_eq_true, decide_eq_true_iff, and_assoc]

/-- Of tiers without a rank in common each two differ in rank. -/
theorem sameRank_eq_false_iff {ts : List Tier} :
    sameRank l ts = false ↔ ts.Pairwise fun t u => (layoutEntry l t).rank ≠ (layoutEntry l u).rank := by
  induction ts with
  | nil => simp [sameRank]
  | cons t ts ih =>
    have hhead : (ts.any fun u => decide ((layoutEntry l u).rank = (layoutEntry l t).rank)) = false ↔
        ∀ u ∈ ts, (layoutEntry l t).rank ≠ (layoutEntry l u).rank := by
      rw [List.any_eq_false]
      exact forall₂_congr fun u _ => by rw [decide_eq_true_iff, ne_eq, eq_comm]
    rw [sameRank, Bool.or_eq_false_iff, List.pairwise_cons, hhead, ih]

/-- The tiers of a layout are its present entries of installed tiers (R117, R118). -/
theorem mem_convTiersOf {t : Tier} : t ∈ s.convTiersOf l ↔ s.installed t = true ∧ (layoutEntry l t).present = true := by
  rw [State.convTiersOf, List.mem_filter, mem_installedTiers]

/-- No rank is carried by two present entries of installed tiers (R189). -/
theorem sameRank_convTiersOf_eq_false_iff : sameRank l (s.convTiersOf l) = false ↔
    ∀ t u, t ≠ u → s.installed t = true → s.installed u = true → (layoutEntry l t).present = true →
      (layoutEntry l u).present = true → (layoutEntry l t).rank ≠ (layoutEntry l u).rank := by
  have hsymm : Std.Symm fun t u : Tier => (layoutEntry l t).rank ≠ (layoutEntry l u).rank := ⟨fun _ _ h => h.symm⟩
  have hnodup : (s.convTiersOf l).Nodup := (installedTiers_nodup s).filter _
  rw [sameRank_eq_false_iff]
  constructor
  · exact fun h t u hne hit hiu hpt hpu => h.forall (mem_convTiersOf.mpr ⟨hit, hpt⟩) (mem_convTiersOf.mpr ⟨hiu, hpu⟩) hne
  · refine fun h => hnodup.pairwise_of_forall_ne fun t ht u hu hne => ?_
    obtain ⟨hit, hpt⟩ := mem_convTiersOf.mp ht
    obtain ⟨hiu, hpu⟩ := mem_convTiersOf.mp hu
    exact h t u hne hit hiu hpt hpu

section Write

variable {b : Byte} {n : Fin 16} (hb : slotOf b = some n) (hc : s.slotCheck n = none) (hs : s.slot n = .blank)

include hb hc hs

/-- An entry outside its encodings, or a rank carried twice, refuses the layout (R189; log 18). -/
theorem serveWrite_illegal
    (h : (∃ t, 2 < (layoutEntry l t).dir.toNat ∨ 11 < (layoutEntry l t).rank.toNat) ∨
      ∃ t u, t ≠ u ∧ s.installed t = true ∧ s.installed u = true ∧ (layoutEntry l t).present = true ∧
        (layoutEntry l u).present = true ∧ (layoutEntry l t).rank = (layoutEntry l u).rank) :
    s.serveWrite b l = s.refuse .range := by
  rw [serveWrite_blank hb hc hs, if_pos]
  rw [Bool.or_eq_true, Bool.not_eq_true']
  rcases h with ⟨t, ht⟩ | ⟨t, u, hne, hit, hiu, hpt, hpu, hrank⟩
  · refine .inl (Bool.eq_false_iff.mpr fun hall => ?_)
    obtain ⟨hdir, hrank, -⟩ := layoutEntryLegal_iff.mp (entries_all_legal_iff.mp hall t)
    omega
  · refine .inr (Bool.of_not_eq_false fun hfalse => ?_)
    exact sameRank_convTiersOf_eq_false_iff.mp hfalse t u hne hit hiu hpt hpu hrank

/-- A layout that passes every check is written (R189). -/
theorem serveWrite_taken
    (hlegal : ∀ t, (layoutEntry l t).dir.toNat ≤ 2 ∧ (layoutEntry l t).rank.toNat ≤ 11 ∧ (layoutEntry l t).tilt < 32768)
    (hranks : ∀ t u, t ≠ u → s.installed t = true → s.installed u = true → (layoutEntry l t).present = true →
      (layoutEntry l u).present = true → (layoutEntry l t).rank ≠ (layoutEntry l u).rank) :
    s.serveWrite b l = (s.beginStore (.write n l)).accept := by
  have hall := entries_all_legal_iff.mpr fun t => layoutEntryLegal_iff.mpr (hlegal t)
  have hdistinct := sameRank_convTiersOf_eq_false_iff.mpr hranks
  rw [serveWrite_blank hb hc hs, if_neg (by simp [hall, hdistinct])]

end Write

end Entries

/-- Settles O36: each request by the first of its checks that fails, and else by the operation that it begins. -/
theorem storeRequests : Obligations.StoreRequests := by
  refine ⟨fun tag b n l s h hb => ⟨fun hlock => ?saveLocked, fun hp hz hop => ?saveBusy, fun hp hz hop => ?save,
      fun c hc hfail => ?refused, fun hl hop hbound => ?slot⟩,
    fun tag b l s h hb => ⟨?eraseRange, ?writeRange, ?readRange⟩,
    fun tag n s h => ⟨fun hn => ?protectRange, fun hn hl => ?protectLocked, fun hn hl hlow => ?protectLower,
      fun hn hl hle => ?protect⟩⟩
  case saveLocked => exact request_same h (serveSave_locked hlock) (by decide)
  case saveBusy => exact request_same h (serveSave_busy hp hz hop) (by decide)
  case save => exact request_accepted h (serveSave_taken hp hz hop) rfl
  case refused =>
    have hcheck := slotCheck_refused hc hfail
    have hknown : c ≠ .unknown := by
      subst hc
      (repeat' split) <;> decide
    exact ⟨request_same h (serveErase_refused hb hcheck) hknown, request_same h (serveWrite_refused hb hcheck) hknown⟩
  case slot =>
    have hcheck := slotCheck_passed hl hop hbound
    exact ⟨request_accepted h (serveErase_taken hb hcheck) rfl,
      fun hs => request_same h (serveWrite_notErased hb hcheck hs) (by decide),
      fun hs hbad => request_same h (serveWrite_illegal hb hcheck hs hbad) (by decide),
      fun hs hlegal hranks => request_accepted h (serveWrite_taken hb hcheck hs hlegal hranks) rfl⟩
  case eraseRange => exact request_same h (serveErase_range hb) (by decide)
  case writeRange => exact request_same h (serveWrite_range hb) (by decide)
  case readRange => exact request_same h (serveRead_range hb) (by decide)
  case protectRange => exact request_same h (serveProtect_range hn) (by decide)
  case protectLocked => exact request_same h (serveProtect_locked hn hl) (by decide)
  case protectLower => exact request_same h (serveProtect_lower hn hl hlow) (by decide)
  case protect => exact request_accepted h (serveProtect_raised hn hl hle) rfl

end Sys2Proof.Machine
end

section
/-! PROOFS. The completion of store operations, and LAYOUT-READ (R186 to R189). -/

namespace Sys2Proof.Machine

/-! ### Operations completed (R186 to R189) -/

section Completion

variable {s : State}

/-- A verified operation queues STORE-DONE (R186). -/
theorem storeDone_verified (h : s.Room 1) (k : StoreKind) (n : BitVec 3) :
    s.storeDone k false n = s.told [.storeDone k false n] :=
  report_eq_told h

/-- A failed one queues STORE-DONE and then raises STORE, where that is new (R186, R167; log 15). -/
theorem storeDone_failed (h : s.Room 2) (hd : s.fsu.device.getLsbD 10 = false) (k : StoreKind) (n : BitVec 3) :
    s.storeDone k true n = ({ s with fsu := { s.fsu with device := s.fsu.device ||| 0x400#12 } } : State).told
      [.storeDone k true n, .device true .store] := by
  have hdone : s.report (.storeDone k true n) = s.told [.storeDone k true n] := report_eq_told (room_mono h (by decide))
  have hroom : (s.told [.storeDone k true n]).Room 1 := (told_room _ _ _).mpr h
  show (s.report (.storeDone k true n)).raiseDevice .store = _
  rw [hdone, raiseDevice_store hroom hd]
  exact told_told { s with fsu := { s.fsu with device := s.fsu.device ||| 0x400#12 } } _ _

/-- STORE-OPERATION-COMPLETE of an operation whose completion queues reports. -/
theorem storeOperationComplete_reported {s' : State} {x : BitVec 3} {rs : List Report} (hrun : s.phase = .running)
    (hs : s.completeStore x = s'.told rs) : exec (.storeOperationComplete x) s = .next (s'.reported rs) :=
  during_reported (f := fun y => y.completeStore x) hrun hs

variable {n : Fin 16} {l : Layout} {x : BitVec 3}

/-- A verify that finds no section different does not fail (R186). -/
theorem verify_clean : decide ((0 : BitVec 3) ≠ 0) = false := rfl

/-- A verified write leaves its slot WRITTEN (R189). -/
theorem completeStore_write (h : s.Room 1) (hop : s.nvs.op = some (.write n l)) :
    s.completeStore 0 = ({ s with nvs := { s.nvs with
      op := none
      store := { s.nvs.store with slots := s.nvs.store.slots.set n (.written l) } } } : State).told
        [.storeDone (.write n) false 0] := by
  simp only [State.completeStore, hop, verify_clean]
  exact storeDone_verified (s := State.setSlot { s with nvs := { s.nvs with op := none } } n (.written l)) h _ _

/-- A verified erase leaves its slot BLANK (R188). -/
theorem completeStore_erase (h : s.Room 1) (hop : s.nvs.op = some (.erase n)) :
    s.completeStore 0 = ({ s with nvs := { s.nvs with
      op := none
      store := { s.nvs.store with slots := s.nvs.store.slots.set n .blank } } } : State).told
        [.storeDone (.erase n) false 0] := by
  simp only [State.completeStore, hop, verify_clean]
  exact storeDone_verified (s := State.setSlot { s with nvs := { s.nvs with op := none } } n .blank) h _ _

/-- A write that fails its verify leaves its slot BAD (R186). -/
theorem completeStore_write_failed (h : s.Room 2) (hop : s.nvs.op = some (.write n l)) (hx : x ≠ 0)
    (hd : s.fsu.device.getLsbD 10 = false) :
    s.completeStore x = ({ s with
      nvs := { s.nvs with op := none, store := { s.nvs.store with slots := s.nvs.store.slots.set n .bad } }
      fsu := { s.fsu with device := s.fsu.device ||| 0x400#12 } } : State).told
        [.storeDone (.write n) true 0, .device true .store] := by
  simp only [State.completeStore, hop, decide_eq_true hx, if_true]
  exact storeDone_failed (s := State.setSlot { s with nvs := { s.nvs with op := none } } n .bad) h hd _ _

/-- A verified save leaves its copies of the three sections (R187). -/
theorem completeStore_save {site : Site} {ps : Vector Profile 12} {zs : Option (Vector ZoneRec 6)} (h : s.Room 1)
    (hop : s.nvs.op = some (.save site ps zs)) :
    s.completeStore 0 = ({ s with
      nvs := { s.nvs with op := none, store := ⟨some site, some ps, zs, s.nvs.store.slots⟩ }
      freeCount := s.freeCount + 3 } : State).told [.storeDone .save false 0] := by
  simp only [State.completeStore, hop, verify_clean]
  exact storeDone_verified (s := State.saveSections { s with nvs := { s.nvs with op := none } } 0 site ps zs) h _ _

end Completion

/-! ### LAYOUT-READ (R189) -/

section Read

variable {s : State} {b : Byte} {n : Fin 16} {l : Layout} (hb : slotOf b = some n)

include hb

theorem serveRead_busy (hop : s.nvs.op ≠ none) : s.serveRead b = s.refuse .busy := by
  simp only [State.serveRead, hb, if_pos (nvsBusy_iff.mpr hop)]

variable (hop : s.nvs.op = none)

include hop

theorem serveRead_written (hs : s.slot n = .written l) : s.serveRead b = (s, .ok, layoutBytes l) := by
  simp [State.serveRead, hb, nvsBusy_of_idle hop, hs]

/-- A slot without a layout answers with its condition (R189; log 22). -/
theorem serveRead_blank (hs : s.slot n = .blank ∨ s.slot n = .bad) :
    s.serveRead b = (s, .blank, [Config.slotConditionByte (decide (s.slot n = .bad))]) := by
  obtain hs | hs := hs <;> simp [State.serveRead, hb, nvsBusy_of_idle hop, hs]

end Read

/-- Settles O37: each operation by what its verify finds, and LAYOUT-READ by its slot. -/
theorem storeCompletes : Obligations.StoreCompletes := by
  refine ⟨fun tag b n l x s hroom => ⟨?write, ?erase, fun hrun hop hx hd => ?failed, fun h hb hop hs => ?written,
    fun h hb hop hs => ?blank, fun h hb hop => ?busy⟩, fun site ps zs s hrun hroom hop => ?save⟩
  case write =>
    rintro hrun hop rfl
    exact storeOperationComplete_reported hrun (completeStore_write (room_mono hroom (by decide)) hop)
  case erase =>
    rintro hrun hop rfl
    exact storeOperationComplete_reported hrun (completeStore_erase (room_mono hroom (by decide)) hop)
  case failed => exact storeOperationComplete_reported hrun (completeStore_write_failed hroom hop hx hd)
  case written => exact request_same h (serveRead_written hb hop hs) (by decide)
  case blank => exact request_same h (serveRead_blank hb hop hs) (by decide)
  case busy => exact request_same h (serveRead_busy hb hop) (by decide)
  case save => exact storeOperationComplete_reported hrun (completeStore_save hroom hop)

end Sys2Proof.Machine
end

section
/-! PROOFS. RESTART by the tiers and the store, and the requests behind one that is taken (R192). -/

namespace Sys2Proof.Machine

section Restart

variable {s : State}

/-- A tier that does not stand, or a running store operation, refuses a RESTART (R192). -/
theorem serveRestart_busy
    (h : (∃ t, s.installed t = true ∧ (s.tier t).state ∉ [.secured, .unsynced]) ∨ s.nvs.op ≠ none) :
    s.serveRestart = s.refuse .busy := by
  rw [State.serveRestart, if_pos]
  rw [Bool.or_eq_true, Bool.not_eq_true', nvsBusy_iff]
  refine h.imp_left ?_
  rintro ⟨t, hi, hst⟩
  exact Bool.eq_false_iff.mpr fun hall => hst (atRest_iff.mp (List.all_eq_true.mp hall t (mem_installedTiers.mpr hi)))

theorem serveRestart_taken (h : ∀ t, s.installed t = true → (s.tier t).state ∈ [.secured, .unsynced])
    (hop : s.nvs.op = none) :
    s.serveRestart = State.accept { s with clp := { s.clp with restart := .waiting, hold := [] } } := by
  have hrest : s.installedTiers.all s.atRest = true :=
    List.all_eq_true.mpr fun t ht => atRest_iff.mpr (h t (mem_installedTiers.mp ht))
  rw [State.serveRestart, if_neg (by simp [hrest, nvsBusy_of_idle hop])]

/-- While a RESTART waits a request is discarded (R192). -/
theorem request_restarting (h : s.clp.restart ≠ .none) (tag : Byte) (r : Request) : s.request tag r = s := if_pos h

end Restart

/-- Settles O40: RESTART by the tiers and the store, and a request behind one. -/
theorem restartTaken : Obligations.RestartTaken := by
  refine fun tag s => ⟨fun h hbusy => ?busy, fun h hrest hop => ?taken, fun i x r hrun hi hc => ?discarded⟩
  case busy => exact request_same h (serveRestart_busy hbusy) (by decide)
  case taken => exact request_answered h (serveRestart_taken hrest hop) (by decide)
  case discarded =>
    obtain ⟨q, hq⟩ := exec_of_carried hc s
    rw [hq, during_next hrun, request_restarting hi]
    rfl

end Sys2Proof.Machine
end

section
/-! PROOFS. A step takes the command at the front of the queue, and idles when none waits. -/

namespace Sys2Proof.Machine

section Queue

variable {s : State}

@[simp] theorem withPending_withPending (p q : List Instr) : (s.withPending p).withPending q = s.withPending q := rfl

theorem step_of_pending_cons {c : Instr} {q : List Instr} (h : s.pending = c :: q) :
    step s = exec c (s.withPending q) := by
  rw [step, h]

/-- With no command waiting the block idles (the model's choice, log 3). -/
theorem step_of_pending_nil (h : s.pending = []) : step s = .next s := by
  rw [step, h]

end Queue

/-- Settles O1: a step carries out the command at the front of the queue. -/
theorem stepRunsFront : Obligations.StepRunsFront := by
  refine ⟨fun c s q => ?front, fun s hempty => step_of_pending_nil hempty⟩
  case front =>
    calc step (s.withPending (c :: q))
        = exec c ((s.withPending (c :: q)).withPending q) := step_of_pending_cons (withPending_pending s (c :: q))
      _ = exec c (s.withPending q) := by rw [withPending_withPending]

end Sys2Proof.Machine
end
